-- ==== Sys2Proof/Word.lean ====
section
/-!
DEFINITION. The word of the links and of the store, and its plainest arithmetic
(00_scope "Words and bits": a word is 32 bits, bit 31 the most significant).
-/

namespace Sys2Proof

/-- A word of a link, of a frame, of a page: 32 bits. -/
abbrev Word := BitVec 32

/-- The word every word of an erased page reads as, and the reply's mark of an absent value
(R103, R197). -/
def Word.ones : Word := 0xFFFFFFFF

/-- The wrapping sum of a list of words: the sum modulo 2^32 (00_scope "Arithmetic terms"). -/
def Word.sum : List Word → Word
  | [] => 0
  | w :: ws => w + Word.sum ws

end Sys2Proof
end

