-- ==== Sys2Proof/Syntax.lean ====
section
/-!
DEFINITION. The commands of the block: one constructor for each row of spec/opcode_table.json.
The part has no program: a command is one step of the table (95_what_each_step_holds.md), an event at
the part. Its operands are what the outside gives with that event: a received word, the outcome
of a module operation, the straps. A request's operands are not here: they stand in the request queue's
entry, put there by the frame that carried it (R180, R187).
-/

namespace Sys2Proof

/-- The three links (R1). -/
inductive Link where
  | stage | through | program
  deriving DecidableEq, Repr

/-- The three receiving directions, in the order of R197: stage link forward, through port return,
program link return (R3). -/
inductive Rx where
  | stageForward | throughReturn | programReturn
  deriving DecidableEq, Repr

/-- What a module answers to a fetch (R103): failure; success with the words its page holds as the
model keeps them; or success with words of its own (a page may read back other words than were
programmed: R98, R112, R134). -/
inductive Answer where
  | failed
  | asStored
  | reads (data spare : List Word)
  deriving DecidableEq, Repr

/-- One command. `grantFirst` on the end of a module operation says which of the two outcomes
R118 allows happens: the port is granted among the operations already waiting (true), or after the
submissions this end brings about have joined them (false). -/
inductive Instr where
  | powerOn (rateHigh : Bool) (unitPins : BitVec 5) (fitted0 fitted1 fitted2 fitted3 : Bool)
      (stageUp throughUp programUp : Bool)
  | rowEvent
  | sourceLapse (source : Nat)
  | sourceAcquired (source : Nat)
  | generatorLevelStep
  | holdCountdownExpiry
  | mixBoundary
  | archiveBoundary
  | indexExhaustion
  | windowEnd
  | stageFrameComplete (check : Word)
  | throughReturnFrameComplete (check : Word)
  | programReturnFrameComplete (check : Word)
  | strayWord (dir : Rx) (word : Word)
  | framingError (dir : Rx) (word : Word)
  | frameAbandoned (dir : Rx)
  | throughFrameEnd
  | stageReturnFrameEnd
  | programForwardFrameEnd
  | stageLinkDown
  | programLinkDown
  | throughPortDown
  | linkUp (link : Link)
  | trackSet
  | trackRead
  | trimCorrect
  | sourceConfig
  | sourceClear
  | sourceRead
  | genLoad
  | mixSet
  | mixTake
  | mixRead
  | streamSet
  | streamRead
  | meterConfig
  | meterRead
  | takeOpen
  | takePause
  | takeResume
  | takeClose
  | takeProtect
  | takeUnprotect
  | takeDelete
  | takeList
  | storeFormat
  | storeConfig
  | storeStatus
  | readTake
  | readStop
  | unitStatus
  | query
  | reserve
  | release
  | unitReset
  | archiveProgramEnd (ok grantFirst : Bool)
  | verifyFetchEnd (answer : Answer) (grantFirst : Bool)
  | badMarkWriteEnd (ok grantFirst : Bool)
  | catalogProgramEnd (ok grantFirst : Bool)
  | catalogVerifyEnd (answer : Answer) (grantFirst : Bool)
  | catalogEraseEnd (ok grantFirst : Bool)
  | eraseEnd (ok grantFirst : Bool)
  | formatEraseEnd (ok grantFirst : Bool)
  | mountCatalogFetchEnd (answer : Answer) (grantFirst : Bool)
  | mountSpareFetchEnd (answer : Answer) (grantFirst : Bool)
  | recoveryFetchEnd (answer : Answer) (grantFirst : Bool)
  | timeLimitExpiry
  | readoutFetchEnd (answer : Answer) (grantFirst : Bool)
  | frameHeaderTaken (dir : Rx) (word : Word)
  | bodyWordTaken (dir : Rx) (word : Word)
  deriving DecidableEq, Repr

end Sys2Proof
end

