-- ==== Sys2Proof/Config.lean ====
section
/-!
DEFINITION. What the part fixes: sizes, capacities, limits and settings' ranges, each with the rule
that gives it; and the one free value, an opaque constant of which nothing can be proved.
-/

namespace Sys2Proof.Config

/-- The greatest value of a count held at 2^32 - 1 (R13, R21 and the other count rules). -/
def countMax : Nat := 4294967295

/-- The greatest block index, and the greatest catalog sequence (R59, R97). -/
def indexMax : Nat := 4294967295

/-- The mark in the top byte of every header (R196). -/
def frameMark : Nat := 0xB4

/-- The constant added into every check word (R2). -/
def checkSalt : Word := 0x00005A33

/-- The capacities of the six egress queues, in frames (R10). -/
def repeatCap : Nat := 2
def stageReplyCap : Nat := 8
def relayCap : Nat := 8
def streamCap : Nat := 16
def programReplyCap : Nat := 8
def readoutCap : Nat := 2

/-- Tracks, buses, sources and slots (00_scope "Terms", R21, R37). -/
def tracks : Nat := 128
def buses : Nat := 8
def stageSources : Nat := 16
def generatorSource : Nat := 16
def slots : Nat := 32

/-- The arrival FIFO's frames and the acquire count that makes a source PRESENT (R21, R25). -/
def fifoCap : Nat := 4
def acquireGoal : Nat := 48

/-- The last fade position (R29). -/
def fadeEnd : Nat := 64

/-- Rows of an archive block and of a mix block (R19). -/
def archiveRows : Nat := 256
def mixRows : Nat := 32

/-- Tracks served at 96 kHz (R38). -/
def tracksAt96 : Nat := 64

/-- The delay pool in cells, the greatest delay and the greatest trim (R37, R43). -/
def poolCells : Nat := 262144
def delayMax : Nat := 8191
def trimMax : Nat := 16777215
def trimUnity : Nat := 1048576

/-- The packet queue's capacity in words (R74). -/
def queueWords : Nat := 16384

/-- Words of a page, of its header and of its spare part; pages of an extent; extents of a module;
module ports (R103, R104). -/
def pageWords : Nat := 4096
def pageHeader : Nat := 4
def spareWords : Nat := 16
def extentPages : Nat := 128
def moduleExtents : Nat := 32768
def modulePorts : Nat := 4

/-- The take table's and the pause list's capacity, the last next-take number, and the greatest values of a
record's loss count and page count (R80 to R82, R88). -/
def takeCap : Nat := 64
def pauseCap : Nat := 16
def nextTakeMax : Nat := 65536
def lossMax : Nat := 65535
def pageCountMax : Nat := 16777216

/-- The signature of a catalog page (R96) and the catalog write's greatest number of failed
attempts (R98). -/
def catalogSignature : Word := 0x4E5A4341
def catalogAttempts : Nat := 4

/-- The time limit of a granted module operation, in rows (R119). -/
def timeLimit : Nat := 4800

/-- The data words of a full READOUT frame (R135). -/
def readoutWords : Nat := 56

/-- The request queue's capacity (R180). -/
def requestCap : Nat := 16

/-- Coefficients of a bank, and the greatest run of MIX_SET and MIX_READ (R145, R147). -/
def coefficients : Nat := 1024
def runMax : Nat := 32

/-- The windows a meter's ring holds (R173). -/
def ringCap : Nat := 8

/-- A FREE VALUE (assumption log 8 and 9): a word the spec does not state. Nothing in Lean can
evaluate it; the model applies it to a counter of `State`, so each use is its own value. -/
opaque freeWord : Nat → Word

/-- A FREE VALUE (assumption log 11): which of two outcomes the rules allow takes place. Nothing in Lean
can evaluate it; the model applies it to the same counter. -/
opaque freeChoice : Nat → Bool

end Sys2Proof.Config
end

