-- ==== Sys2Proof/Machine/State.lean ====
section
/-!
DEFINITION. The state of the NZ128 as plain data, block by block, every piece the spec names
(INVENTORY.md "State" gives each one's rule and reset value), and the state right after power-on.
What only repeats other state is computed where it is read, not stored (assumption log 10).
-/

namespace Sys2Proof.Machine

/-- The reasons a command may stop the machine. There are none: every error the spec describes is
counted, refused by a reply, or kept as a state of a module or of the store. -/
inductive Fault where
  deriving DecidableEq, Repr

/-- The reasons a command may have no meaning. -/
inductive Refusal where
  /-- Raised by an arm of `exec` whose command has no meaning yet; safe. No arm of this model uses it. -/
  | notModelled (mnemonic : String)
  deriving DecidableEq, Repr

/-! ## Straps and the Link Unit -/

/-- The RATE strap (R201). -/
inductive Rate where
  | k48 | k96
  deriving DecidableEq, Repr

/-- A frame: header, body words and check word (01 "Words, frames and the check word"). -/
abbrev Frame := List Word

/-- A parser of a receiving direction (R3, R4). In BODY and CHECK it holds the header, the body words
taken, first word first, and the running sum of header and body words. -/
inductive Parser where
  | hunt
  | body (header : Word) (taken : List Word) (sum : Word)
  | check (header : Word) (taken : List Word) (sum : Word)
  deriving DecidableEq, Repr

/-- The queue the stage return arbiter served last (R11). -/
inductive Marker where
  | reply | relay
  deriving DecidableEq, Repr

/-- A count kept for each of the three receiving directions (R13). -/
structure RxCounts where
  stage : Nat := 0
  through : Nat := 0
  program : Nat := 0
  deriving DecidableEq, Repr

/-- The Link Unit (R1 to R17). -/
structure LinkUnit where
  stageUp : Bool := false
  throughUp : Bool := false
  programUp : Bool := false
  rxStage : Parser := .hunt
  rxThrough : Parser := .hunt
  rxProgram : Parser := .hunt
  repeatQ : List Frame := []
  stageReplyQ : List Frame := []
  relayQ : List Frame := []
  streamQ : List Frame := []
  programReplyQ : List Frame := []
  readoutQ : List Frame := []
  txThrough : Option Frame := none
  txStageReturn : Option Frame := none
  txProgram : Option Frame := none
  marker : Marker := .relay
  accepted : RxCounts := {}
  stray : RxCounts := {}
  framing : RxCounts := {}
  abandoned : RxCounts := {}
  checkFailures : RxCounts := {}
  wrongKindThrough : Nat := 0
  wrongKindProgram : Nat := 0
  misaddressed : Nat := 0
  repeatDrops : Nat := 0
  relayDrops : Nat := 0
  stageReplyDrops : Nat := 0
  programReplyDrops : Nat := 0
  deriving DecidableEq, Repr

/-! ## Source Monitor -/

/-- A source's presence state (R25). -/
inductive Presence where
  | absent | acquiring | present | lapsed
  deriving DecidableEq, Repr

/-- An accepted SAMPLE frame in an arrival FIFO: sequence number and samples, slot 0 first (R22). -/
structure SampleFrame where
  seq : Nat
  samples : List Int
  deriving DecidableEq, Repr

/-- A stage source's record (R21). -/
structure SourceRecord where
  presence : Presence := .absent
  acquire : Nat := 0
  misses : Nat := 0
  limit : Nat := 8
  fifo : List SampleFrame := []
  lastSeq : Option Nat := none
  accepted : Nat := 0
  duplicates : Nat := 0
  overruns : Nat := 0
  gaps : Nat := 0
  malformed : Nat := 0
  lapses : Nat := 0
  deriving DecidableEq, Repr

/-- A track's concealment state: held sample and fade position (02 "Concealment"). -/
structure Conceal where
  held : Int := 0
  fade : Nat := Config.fadeEnd
  deriving DecidableEq, Repr

/-- The line-check generator (R31). -/
structure Generator where
  levels : List Int := [0, 0]
  hold : Nat := 48
  index : Nat := 0
  position : Nat := 0
  deriving DecidableEq, Repr

/-- The Source Monitor (R18 to R36). `boundaryDue` is the model's own: a boundary has been signalled
by the row counter's advance and its receivers have not been given it yet (R19, log 2). -/
structure SourceMonitor where
  rowCounter : Nat := 0
  boundaryDue : Bool := false
  records : List SourceRecord := List.replicate Config.stageSources {}
  foreign : Nat := 0
  conceal : List Conceal := List.replicate Config.tracks {}
  generator : Generator := {}
  deriving DecidableEq, Repr

/-! ## Track Conditioner -/

/-- A route entry's concealment mode (R29). -/
inductive ConcealMode where
  | mute | fade
  deriving DecidableEq, Repr

/-- A route entry's polarity (R42). -/
inductive Polarity where
  | normal | invert
  deriving DecidableEq, Repr

/-- An entry of the route table (R37). `filter` is none when off, and the shift when on. -/
structure Route where
  enabled : Bool := false
  source : Nat := 0
  slot : Nat := 0
  archive : Bool := true
  mode : ConcealMode := .fade
  polarity : Polarity := .normal
  delay : Nat := 0
  trim : Nat := Config.trimUnity
  filter : Option Nat := none
  maxOrder : Nat := 3
  deriving DecidableEq, Repr

/-- The DC filter's two values (R47). -/
structure FilterState where
  xPrev : Int := 0
  yPrev : Int := 0
  deriving DecidableEq, Repr

/-- A track's route-change mark (R41), and whether the next row is the first built with a new source
or slot (R52, log 17). -/
structure RouteMark where
  marked : Bool := false
  firstRowDue : Bool := false
  deriving DecidableEq, Repr

/-- The Track Conditioner (R37 to R55). A delay line lists its cells oldest first (R43). -/
structure TrackConditioner where
  routes : List Route := List.replicate Config.tracks {}
  lines : List (List Int) := List.replicate Config.tracks []
  filters : List FilterState := List.replicate Config.tracks {}
  routeMarks : List RouteMark := List.replicate Config.tracks {}
  saturations : List Nat := List.replicate Config.tracks 0
  deriving DecidableEq, Repr

/-! ## Archive Coder -/

/-- A track's block record (R56). -/
structure BlockRecord where
  cells : List (Option Int) := List.replicate Config.archiveRows none
  concealed : Nat := 0
  clipped : Bool := false
  loss : Bool := false
  deriving DecidableEq, Repr

/-- The Archive Coder (R56 to R79). -/
structure ArchiveCoder where
  blocks : List BlockRecord := List.replicate Config.tracks {}
  nextIndex : Option Nat := none
  deriving DecidableEq, Repr

/-! ## Take Controller -/

/-- A take's state (R83). -/
inductive TakeState where
  | opened | paused | closing | closed | interrupted
  deriving DecidableEq, Repr

/-- A pause interval, both ends inclusive; the end is absent while the interval is open (R88). -/
structure Interval where
  start : Nat
  stop : Option Nat
  deriving DecidableEq, Repr

/-- A take record (R81). Its extent count is computed from the extent table (R107, log 10). An extent
is named by its address module × 32768 + extent number. -/
structure TakeRecord where
  number : Nat
  state : TakeState
  begun : Bool := false
  isProtected : Bool := false
  label : Option (List Nat) := none
  rate : Rate := .k48
  trackSet : List Nat := []
  firstExtent : Option Nat := none
  pageCount : Nat := 0
  packetCount : Nat := 0
  lossCount : Nat := 0
  endIndex : Option Nat := none
  pauses : List Interval := []
  deleting : Bool := false
  deriving DecidableEq, Repr

/-- A transition armed for the next archive boundary (R86, R87, R89). -/
inductive Transition where
  | pause | resume | close
  deriving DecidableEq, Repr

/-- Who waits on a catalog write: the store operation in the slot, a close that no request answers
for, or the mount (R91, R97, R101). -/
inductive Waiter where
  | storeOperation | exhaustionClose | mount
  deriving DecidableEq, Repr

/-- The catalog write in flight: the data words of its image from word 2 on, its failed attempts and
who waits on it (R96 to R98). -/
structure CatalogWrite where
  image : List Word
  failed : Nat
  waiters : List Waiter
  deriving DecidableEq, Repr

/-- The Take Controller (R80 to R102). -/
structure TakeController where
  records : List TakeRecord := []
  nextTake : Nat := 1
  armed : Option Transition := none
  openReady : Bool := false
  catCurrent : Nat := 0
  catNext : Nat := 0
  catSeq : Nat := 0
  write : Option CatalogWrite := none
  waiting : Option (List Waiter) := none
  deriving DecidableEq, Repr

/-! ## Store Controller and modules -/

/-- A module port (R103, R119). -/
inductive ModuleState where
  | notFitted | answering | fault
  deriving DecidableEq, Repr

/-- The store state (R120). -/
inductive StoreState where
  | unmounted | mounting | mounted | unformatted | fault
  deriving DecidableEq, Repr

/-- An extent's state (R105). -/
inductive ExtentState where
  | free | owned | dirty | bad | catalog | fault
  deriving DecidableEq, Repr

/-- An extent's owner or former owner: take number, extent sequence, first page sequence (R105). -/
structure Owner where
  take : Nat
  seq : Nat
  first : Nat
  deriving DecidableEq, Repr

/-- An entry of the extent table (R105). -/
structure Extent where
  state : ExtentState
  owner : Option Owner := none
  deriving DecidableEq, Repr

/-- A word of the packet queue or of a staging page, with the mark of a packet's first word
(R74, R110). -/
structure PacketWord where
  word : Word
  first : Bool
  deriving DecidableEq, Repr

/-- A staging page's state (R110). -/
inductive StagingState where
  | empty | filling | waiting | programming | verifying
  deriving DecidableEq, Repr

/-- A staging page (R110). Its used words are 4 plus the packet words it holds. `failedBefore` marks a
page to be submitted again after a failure, an expiry or a withdrawal (R113, R126). -/
structure StagingPage where
  state : StagingState := .empty
  take : Nat := 0
  pageSeq : Nat := 0
  firstOffset : Nat := 0
  words : List PacketWord := []
  failedBefore : Bool := false
  deriving DecidableEq, Repr

/-- The write state of the live take (R109). -/
structure WriteState where
  current : Option Nat
  writePage : Nat
  nextStaging : Nat
  stalled : Bool
  deriving DecidableEq, Repr

/-- The words of one page (R103). -/
structure PageImage where
  data : List Word
  spare : List Word
  deriving DecidableEq, Repr

/-- A page of the store: extent address and page number (R103). -/
structure PageAddress where
  extent : Nat
  page : Nat
  deriving DecidableEq, Repr

/-- A module operation at the store port (R103, R118). `eraserBadMark` also stands for the bad-mark
writes of STORE_FORMAT. `readoutFetch` holds whether its outcome is still wanted (R139 step 3). -/
inductive PortOp where
  | catalogProgram (at_ : PageAddress) (image : PageImage)
  | catalogVerify (at_ : PageAddress) (image : PageImage)
  | catalogErase (extent : Nat)
  | mountFetch (at_ : PageAddress)
  | mountSpare (extent : Nat)
  | recoveryFetch (at_ : PageAddress)
  | archiveProgram (at_ : PageAddress) (image : PageImage)
  | archiveVerify (at_ : PageAddress) (image : PageImage)
  | archiveBadMark (extent : Nat)
  | readoutFetch (at_ : PageAddress) (wanted : Bool)
  | eraserErase (extent : Nat)
  | eraserBadMark (extent : Nat)
  | formatErase (extent : Nat)
  deriving DecidableEq, Repr

/-- The operation in flight at the port and the rows since its grant (R118, R119). -/
structure PortJob where
  op : PortOp
  rows : Nat
  deriving DecidableEq, Repr

/-- The newest valid catalog page a mount has found (R100). -/
structure FoundCatalog where
  extent : Nat
  seq : Nat
  data : List Word
  deriving DecidableEq, Repr

/-- The recovery of one take (R101): the extent sequence whose first page it started at, the page
sequence being fetched, the recovered pages' data words with their page sequences, oldest first, and
whether the fetch under way is of the page before the only recovered one. -/
structure Recovery where
  take : Nat
  chainSeq : Nat
  page : Nat
  recovered : List (Nat × List Word)
  pageBefore : Bool
  deriving DecidableEq, Repr

/-- Where the mount is (R121): step 1 with the pages fetched, the newest valid catalog page and for
each catalog extent one more than its highest page not erased; step 2 with the next extent; step 3
with the recovery of a take; or waiting for its catalog write. -/
inductive MountStep where
  | catalog (next : Nat) (best : Option FoundCatalog) (used0 used1 : Nat)
  | scan (next : Nat)
  | recover (r : Recovery)
  | writing
  deriving DecidableEq, Repr

/-- A mount in progress; `loaded` says that a catalog page was found (R121). -/
structure Mount where
  step : MountStep
  loaded : Bool
  deriving DecidableEq, Repr

/-- A running STORE_FORMAT: which catalog extents it has erased with success (R124). -/
structure Format where
  erased0 : Bool
  erased1 : Bool
  deriving DecidableEq, Repr

/-- The Store Controller (R103 to R127). -/
structure StoreController where
  modules : List ModuleState := List.replicate Config.modulePorts .notFitted
  state : StoreState := .unmounted
  table : List (Nat × Extent) := []
  queue : List PacketWord := []
  writeState : Option WriteState := none
  pageA : StagingPage := {}
  pageB : StagingPage := {}
  inFlight : Option PortJob := none
  waiting : List PortOp := []
  verify : Bool := true
  backlog : Nat := 8192
  holdTime : Nat := 4800
  lowMark : Nat := 64
  programFailures : Nat := 0
  verifyMismatches : Nat := 0
  relocations : Nat := 0
  eraseFailures : Nat := 0
  expiries : Nat := 0
  format : Option Format := none
  mount : Option Mount := none
  deriving DecidableEq, Repr

/-! ## Readout Engine -/

/-- Where a request came from (R180). -/
inductive Origin where
  | stage | program
  deriving DecidableEq, Repr

/-- The Readout Engine's state (R128). -/
inductive ReadoutState where
  | idle | holding | fetching | sending | following | final | ending
  deriving DecidableEq, Repr

/-- A departure note: last frame of its page, CHECK_FAILED, LAST (R128). -/
structure DepartureNote where
  endsPage : Bool
  checkFailed : Bool
  last : Bool
  deriving DecidableEq, Repr

/-- A frame built by the Readout Engine with the note its departure will need (R135, R136). -/
structure BuiltFrame where
  words : Frame
  note : DepartureNote
  deriving DecidableEq, Repr

/-- The Readout Engine and its record (R128). In `idle` the other fields are those of no readout. -/
structure ReadoutEngine where
  state : ReadoutState := .idle
  origin : Origin := .stage
  arrival : Nat := 0
  take : Nat := 0
  run : Bool := false
  nextPage : Nat := 0
  startOffset : Nat := 0
  firstPage : Bool := false
  pagesSent : Nat := 0
  pagesFailed : Nat := 0
  countdown : Nat := 0
  buffer : List Word := []
  checkFailed : Bool := false
  cut : Nat := 0
  fresh : Bool := false
  held : Option BuiltFrame := none
  notes : List DepartureNote := []
  deriving DecidableEq, Repr

/-! ## Mix Engine, Stream Coder, Meter Unit -/

/-- The Mix Engine (R145 to R158). A glide runs exactly while `glideStart` is present; `rowGlided` says
that the last row formed lay in a glide, which R157's glide row needs (log 9). -/
structure MixEngine where
  active : List Int := List.replicate Config.coefficients 0
  pendingBank : List Int := List.replicate Config.coefficients 0
  swapArmed : Bool := false
  glideStart : Option (List Int) := none
  clips : List Nat := List.replicate Config.buses 0
  rowGlided : Bool := false
  deriving DecidableEq, Repr

/-- A bus's stream mode (R159). -/
inductive BusMode where
  | disabled | m16 | m20
  deriving DecidableEq, Repr

/-- The Stream Coder's state of one bus (R159). -/
structure StreamBus where
  mode : BusMode := .disabled
  next : BusMode := .disabled
  seq : Nat := 0
  gap : Bool := false
  drops : Nat := 0
  buffer : List (Option Int) := List.replicate Config.mixRows none
  deriving DecidableEq, Repr

/-- The levels of one meter (R169). -/
structure LevelMeter where
  runPeak : Nat := 0
  runSum : Nat := 0
  peak : Nat := 0
  meanSquare : Nat := 0
  rms : Nat := 0
  ring : List Nat := []
  longRms : Nat := 0
  deriving DecidableEq, Repr

/-- What only a track meter holds (R169). -/
structure TrackMeter where
  overs : Nat := 0
  overMark : Bool := false
  quiet : Nat := 0
  silent : Bool := false
  deriving DecidableEq, Repr

/-- The Meter Unit (R169 to R179): meters 0 to 127 are the tracks', 128 to 135 the buses'. -/
structure MeterUnit where
  levels : List LevelMeter := List.replicate (Config.tracks + Config.buses) {}
  tracks : List TrackMeter := List.replicate Config.tracks {}
  overLevel : Nat := 8388000
  silenceThreshold : Nat := 84
  silenceWindows : Nat := 50
  clipAlert : Bool := false
  windowCounter : Nat := 0
  deriving DecidableEq, Repr

/-! ## Request Queue -/

/-- The request names (R182, R198). -/
inductive RequestCode where
  | trackSet | trackRead | trimCorrect | sourceConfig | sourceClear | sourceRead | genLoad
  | mixSet | mixTake | mixRead | streamSet | streamRead | meterConfig | meterRead
  | takeOpen | takePause | takeResume | takeClose | takeProtect | takeUnprotect | takeDelete | takeList
  | storeFormat | storeConfig | storeStatus | readTake | readStop
  | unitStatus | query | reserve | release | unitReset
  deriving DecidableEq, Repr

/-- An entry of the request queue (R180). -/
structure Entry where
  origin : Origin
  station : Nat
  number : Nat
  code : RequestCode
  priority : Nat
  urgent : Bool
  operands : List Word
  broadcast : Bool
  arrival : Nat
  active : Bool
  deriving DecidableEq, Repr

/-- A station, as a reservation names its holder (R183). -/
structure Station where
  origin : Origin
  station : Nat
  deriving DecidableEq, Repr

/-- What the store operation in the slot does (R83, R123), with what its end needs: the take it
works on, and for a protect or unprotect the former value (R93). -/
inductive StoreOpKind where
  | openTake (take : Nat)
  | pause
  | resume
  | close
  | protect (take : Nat) (former : Bool)
  | delete (take : Nat)
  | format
  deriving DecidableEq, Repr

/-- The store operation in the slot and its request's arrival number; the request itself may be gone
from the queue (R14, R184). -/
structure StoreOp where
  kind : StoreOpKind
  arrival : Nat
  deriving DecidableEq, Repr

/-- The Request Queue (R180 to R195). The store operation slot is busy exactly while `storeOp` is
present. R195 gives the arrival number's lowest value no number: it is 0 here, and the number rises
without bound (DESIGN CHOICE, log 33). -/
structure RequestQueue where
  entries : List Entry := []
  nextArrival : Nat := 0
  reserveConfig : Option Station := none
  reserveStore : Option Station := none
  storeOp : Option StoreOp := none
  broadcastRefused : Nat := 0
  deriving DecidableEq, Repr

/-! ## The whole state -/

/-- What the store modules hold: pages by key (extent address × 128 + page number), keys rising, no
page that reads as erased listed; an unlisted page reads 0xFFFFFFFF in every word (R103, log 7). -/
abbrev FlashMemory := List (Nat × PageImage)

/-- The state of the NZ128 with the queue of the commands that wait, first in, first out. -/
structure State where
  pending : List Instr := []
  freeCount : Nat := 0
  rate : Rate := .k48
  unit : Nat := 0
  link : LinkUnit := {}
  sources : SourceMonitor := {}
  tracks : TrackConditioner := {}
  coder : ArchiveCoder := {}
  takes : TakeController := {}
  store : StoreController := {}
  flash : FlashMemory := []
  readout : ReadoutEngine := {}
  mix : MixEngine := {}
  stream : List StreamBus := List.replicate Config.buses {}
  meter : MeterUnit := {}
  requests : RequestQueue := {}
  deriving DecidableEq, Repr

/-- The state right after power-on (R17, R36, R55, R78, R102, R127, R128, R158, R159, R179, R195).
What the outside gives at power-on is at the value assumption log 5 names: straps low, links DOWN,
no module fitted, blank modules. -/
def State.reset : State := {}

end Sys2Proof.Machine
end

