-- ==== Sys2Proof/Machine/Bits.lean ====
section
/-!
DEFINITION. Fields of words, signed samples, the exact arithmetic terms of 00_scope, bits packed into
words, and frames with their check words (R2, R9, R196).
-/

namespace Sys2Proof.Machine

/-! ## Fields and numbers -/

/-- The unsigned number in bits `hi` to `lo` of a word (12 "Frame and Record Layouts"). -/
def field (w : Word) (hi lo : Nat) : Nat := w.toNat / 2 ^ lo % 2 ^ (hi + 1 - lo)

/-- Bit `i` of a word. -/
def bitSet (w : Word) (i : Nat) : Bool := w.toNat.testBit i

/-- A word that carries an unsigned number (R197). -/
def natWord (n : Nat) : Word := BitVec.ofNat 32 n

/-- A word that carries a signed number in two's complement (R197, 00_scope "Samples"). -/
def intWord (x : Int) : Word := BitVec.ofInt 32 x

/-- Yes, on and set are 1; no, off and clear are 0 (R197). -/
def boolWord (b : Bool) : Word := if b then 1 else 0

/-- A value, or the mark that it is absent (R197). -/
def optWord : Option Nat → Word
  | some n => natWord n
  | none => Word.ones

/-- The sample in a slot word: its low 24 bits read as a signed number (R22). -/
def sampleOf (w : Word) : Int := (w.setWidth 24).toInt

/-- Whether a word's value is a sign-extended 24-bit sample (R22, R32). -/
def isSample (w : Word) : Bool := decide (-8388608 ≤ w.toInt) && decide (w.toInt ≤ 8388607)

/-- Saturate to the sample range (00_scope "Arithmetic terms"). -/
def saturate (x : Int) : Int :=
  if x < -8388608 then -8388608 else if 8388607 < x then 8388607 else x

/-- Replace a value outside `lo` to `hi` by the nearer end (00_scope "Arithmetic terms"). -/
def clampNat (lo hi n : Nat) : Nat := if n < lo then lo else if hi < n then hi else n

/-- The same for a signed value. -/
def clampInt (lo hi x : Int) : Int := if x < lo then lo else if hi < x then hi else x

/-- `n / d` rounded to the nearest integer, halves away from zero (00_scope "Arithmetic terms"). -/
def roundDiv (n : Int) (d : Nat) : Int :=
  if 0 ≤ n then (2 * n + d) / (2 * d) else -((2 * -n + d) / (2 * d))

/-- A count raised by `k` and held at 2^32 - 1 (R13, R21). -/
def countUp (n k : Nat) : Nat := min (n + k) Config.countMax

/-- The search of `isqrt`: add each power of two, highest first, while the square stays at or below. -/
def isqrtGo (n : Nat) : Nat → Nat → Nat
  | 0, acc => acc
  | k + 1, acc => isqrtGo n k (if (acc + 2 ^ k) * (acc + 2 ^ k) ≤ n then acc + 2 ^ k else acc)

/-- Integer square root: the greatest integer whose square is not above the value
(00_scope "Arithmetic terms"). -/
def isqrt (n : Nat) : Nat := isqrtGo n (n.log2 / 2 + 1) 0

/-! ## Bits packed into words -/

/-- The `n` low bits of a number, most significant first. -/
def natBits : Nat → Nat → List Bool
  | 0, _ => []
  | n + 1, v => v.testBit n :: natBits n v

/-- A field of `n` bits in two's complement (R70, R164). -/
def intBits (n : Nat) (x : Int) : List Bool := natBits n (x % (2 ^ n : Nat)).toNat

/-- The number whose bits these are, most significant first. -/
def bitsNat (bs : List Bool) : Nat := bs.foldl (fun a b => 2 * a + b.toNat) 0

/-- A word from at most 32 bits, the first at bit 31, the bits below the last one 0 (R70). -/
def bitsWord (bs : List Bool) : Word := BitVec.ofNat 32 (bitsNat bs * 2 ^ (32 - bs.length))

/-- Bits cut into `n` words. -/
def packInto : Nat → List Bool → List Word
  | 0, _ => []
  | n + 1, bs => bitsWord (bs.take 32) :: packInto n (bs.drop 32)

/-- The words that a number of bits occupies: ceil(bits / 32) (R70). -/
def wordsFor (bits : Nat) : Nat := (bits + 31) / 32

/-- Bits packed into 32-bit words, the first bit at bit 31 of word 0 (R70, R164). -/
def packBits (bs : List Bool) : List Word := packInto (wordsFor bs.length) bs

/-- The bits of words, in order, bit 31 of each first. -/
def unpackWords : List Word → List Bool
  | [] => []
  | w :: ws => natBits 32 w.toNat ++ unpackWords ws

/-! ## Frames -/

/-- The check word of the words before it (R2). -/
def checkWord (ws : List Word) : Word := ~~~(Word.sum ws + Config.checkSalt)

/-- The frame kinds (01 "Words, frames and the check word", R196). -/
def kindSample : Nat := 1
def kindManage : Nat := 2
def kindReply : Nat := 3
def kindStream : Nat := 4
def kindReadout : Nat := 5

/-- The fields of a header word (R196). -/
def headerMark (h : Word) : Nat := field h 31 24
def headerKind (h : Word) : Nat := field h 23 20
def headerAux (h : Word) : Nat := field h 19 12
def headerUnit (h : Word) : Nat := field h 11 7
def headerLength (h : Word) : Nat := field h 6 0

/-- A header word (R196). -/
def headerWord (kind aux unit length : Nat) : Word :=
  natWord (Config.frameMark * 2 ^ 24 + kind * 2 ^ 20 + aux * 2 ^ 12 + unit * 2 ^ 7 + length)

/-- A frame the part originates: mark, kind, this unit's number, true length, aux and check word (R9). -/
def makeFrame (unit kind aux : Nat) (body : List Word) : Frame :=
  let front := headerWord kind aux unit (body.length + 2) :: body
  front ++ [checkWord front]

/-! ## Pages -/

/-- A list cut or filled with zero words to a given length (log 22). -/
def fitWords (n : Nat) (ws : List Word) : List Word := (ws ++ List.replicate n 0).take n

/-- The page that reads 0xFFFFFFFF in every word (R103). -/
def erasedPage : PageImage :=
  { data := List.replicate Config.pageWords Word.ones, spare := List.replicate Config.spareWords Word.ones }

/-- The page check: the complement of the wrapping sum of the data words (R104). -/
def pageCheck (data : List Word) : Word := ~~~(Word.sum data)

/-- The spare words of a page the part programs (R96, R104). R104 gives words 5 to 15 for a take page; a catalog
page, of which R96 names words 0 to 4 only, has the same there (DESIGN CHOICE, log 38). -/
def spareOf (take pageSeq extentSeq : Nat) (data : List Word) : List Word :=
  [natWord take, natWord pageSeq, natWord extentSeq, pageCheck data] ++ List.replicate 12 Word.ones

/-- Whether a page's check is good (R104). -/
def PageImage.good (p : PageImage) : Bool := p.spare.getD 3 0 = pageCheck p.data

end Sys2Proof.Machine
end

