-- ==== Sys2Proof/Machine/Flags.lean ====
section
/-!
DEFINITION. The views of the state that other state determines (assumption log 10), and the alert
summary, the set of flags every reply carries (R189).
-/

namespace Sys2Proof.Machine

/-! ## Modules, extents and the free list -/

/-- The module of an extent address (R103). -/
def moduleOf (extent : Nat) : Nat := extent / Config.moduleExtents

/-- A module port's state. -/
def StoreController.module (c : StoreController) (m : Nat) : ModuleState := c.modules.getD m .notFitted

/-- Whether the module of an extent answers. -/
def StoreController.answers (c : StoreController) (extent : Nat) : Bool :=
  c.module (moduleOf extent) = .answering

/-- Whether some fitted module answers (R119 step 5, R121). -/
def StoreController.anyAnswers (c : StoreController) : Bool := c.modules.any (· = .answering)

/-- Whether some module is fitted (R103). -/
def StoreController.anyFitted (c : StoreController) : Bool := c.modules.any (· ≠ .notFitted)

/-- An extent's entry, if the table has one. -/
def StoreController.extent (c : StoreController) (e : Nat) : Option Extent := c.table.lookup e

/-- The free list: the FREE extents in address order, once the mount has formed it (R106, R121). -/
def StoreController.freeList (c : StoreController) : List Nat :=
  match c.state with
  | .unmounted | .mounting => []
  | .mounted | .unformatted | .fault =>
    (c.table.filter fun x => x.2.state = .free).map Prod.fst

/-- The extent count of a take: its OWNED extents (R81, R107). -/
def StoreController.extentCount (c : StoreController) (take : Nat) : Nat :=
  (c.table.filter fun x => x.2.state = .owned && x.2.owner.any (·.take = take)).length

/-- One step of the search for the extent of highest sequence of a take's chain. -/
def chainStep (take : Nat) (p : Owner → Bool) (acc : Option (Nat × Owner)) (x : Nat × Extent) :
    Option (Nat × Owner) :=
  match x.2.owner with
  | some o =>
    if o.take = take && p o && (acc.all fun a => decide (a.2.seq < o.seq)) then some (x.1, o) else acc
  | none => acc

/-- Among the extents of a take's chain that meet `p`, the one of highest extent sequence (R107). -/
def StoreController.highest (c : StoreController) (take : Nat) (p : Owner → Bool) : Option (Nat × Owner) :=
  c.table.foldl (chainStep take p) none

/-- The locate rule (R107): where the page of a page sequence lies, or none when it is absent. -/
def StoreController.locate (c : StoreController) (take pageSeq : Nat) : Option PageAddress :=
  match c.highest take fun o => decide (o.first ≤ pageSeq) with
  | some (e, o) => if pageSeq - o.first < Config.extentPages then some ⟨e, pageSeq - o.first⟩ else none
  | none => none

/-- The next extent sequence of a take's chain (R107, R111). -/
def StoreController.nextSeq (c : StoreController) (take : Nat) : Nat :=
  match c.highest take fun _ => true with
  | some (_, o) => o.seq + 1
  | none => 0

/-! ## Takes -/

/-- Whether a take state is a live one (R83). -/
def TakeState.live : TakeState → Bool
  | .opened | .paused | .closing => true
  | .closed | .interrupted => false

/-- The live take (R83). A record being recovered by the mount is not one (R101, log 24). -/
def State.liveTake (s : State) : Option TakeRecord :=
  match s.store.state with
  | .unmounted | .mounting => none
  | .mounted | .unformatted | .fault => s.takes.records.find? (·.state.live)

/-- The track set of the live take, empty when there is none (R40). -/
def State.liveSet (s : State) : List Nat :=
  match s.liveTake with
  | some t => t.trackSet
  | none => []

/-- A take's record, by number. -/
def TakeController.record (c : TakeController) (n : Nat) : Option TakeRecord :=
  c.records.find? (·.number = n)

/-- A take's record as requests that name takes see it: a deleting one is unknown (R94). -/
def TakeController.known (c : TakeController) (n : Nat) : Option TakeRecord :=
  c.records.find? fun t => t.number = n && !t.deleting

/-! ## Other computed views -/

/-- The pool count: the sum of the delays of the enabled tracks (R44). -/
def poolCount (routes : List Route) : Nat :=
  (routes.map fun r => if r.enabled then r.delay else 0).sum

/-- Whether the readout slot is busy (R184). -/
def ReadoutEngine.busy (r : ReadoutEngine) : Bool := r.state ≠ .idle

/-- Whether the live take is STALLED (R114). -/
def StoreController.stalled (c : StoreController) : Bool := c.writeState.any (·.stalled)

/-- The window length W (R170). -/
def windowLength : Rate → Nat
  | .k48 => 4800
  | .k96 => 9600

/-! ## The alert summary -/

def State.alertLapsed (s : State) : Bool := s.sources.records.any (·.presence = .lapsed)
def State.alertTakeLoss (s : State) : Bool := s.liveTake.any fun t => decide (0 < t.lossCount)
def State.alertStoreLow (s : State) : Bool := decide (s.store.freeList.length < s.store.lowMark)
def State.alertStoreStall (s : State) : Bool :=
  s.store.stalled || decide (s.store.backlog < s.store.queue.length)
def State.alertStoreFault (s : State) : Bool :=
  s.store.modules.any (· = .fault) || s.store.state = .fault

/-- The alert summary as the reply carries it: bit 0 LAPSED, 1 TAKE_LOSS, 2 STORE_LOW, 3 STORE_STALL,
4 STORE_FAULT, 5 CLIP (R189, R196). -/
def State.alerts (s : State) : Nat :=
  s.alertLapsed.toNat + 2 * s.alertTakeLoss.toNat + 4 * s.alertStoreLow.toNat
    + 8 * s.alertStoreStall.toNat + 16 * s.alertStoreFault.toNat + 32 * s.meter.clipAlert.toNat

end Sys2Proof.Machine
end

