-- ==== Sys2Proof/Machine/Flash.lean ====
section
/-!
DEFINITION. The contents of the store modules as an addressed memory of pages, and what each module
operation does to them (R103, R108). Assumption log 7 and 8.
-/

namespace Sys2Proof.Machine

/-- The key of a page: extent address × 128 + page number. -/
def PageAddress.key (a : PageAddress) : Nat := a.extent * Config.extentPages + a.page

/-- What a page reads as: an unlisted page is erased (R103). -/
def FlashMemory.read : FlashMemory → Nat → PageImage
  | [], _ => erasedPage
  | (j, q) :: f, k => if j = k then q else FlashMemory.read f k

/-- A page's words replaced, keeping the canonical form: a page that reads as erased is not listed. -/
def FlashMemory.write : FlashMemory → Nat → PageImage → FlashMemory
  | [], k, p => if p = erasedPage then [] else [(k, p)]
  | (j, q) :: f, k, p =>
    if j < k then (j, q) :: FlashMemory.write f k p
    else if j = k then if p = erasedPage then f else (k, p) :: f
    else if p = erasedPage then (j, q) :: f else (k, p) :: (j, q) :: f

/-- Every page of an extent reads as erased (R103). -/
def FlashMemory.eraseExtent (f : FlashMemory) (e : Nat) : FlashMemory :=
  f.filter fun x => x.1 / Config.extentPages ≠ e

/-- The canonical form: keys strictly rising, and no page listed that reads as erased. -/
abbrev FlashMemory.Wf (f : FlashMemory) : Prop :=
  f.Pairwise (fun a b => a.1 < b.1) ∧ ∀ x ∈ f, x.2 ≠ erasedPage

/-- A page of free words: the words of a page whose program failed or was cut, which R103 leaves open
("whatever words the page holds"; log 8). -/
def freePage (n : Nat) : PageImage :=
  { data := (List.range Config.pageWords).map fun i => Config.freeWord (n + i)
    spare := (List.range Config.spareWords).map fun i => Config.freeWord (n + Config.pageWords + i) }

/-- The free words one page takes. -/
def freePageSize : Nat := Config.pageWords + Config.spareWords

/-- A page takes free words. -/
def State.scramblePage (s : State) (k : Nat) : State :=
  { s with flash := s.flash.write k (freePage s.freeCount), freeCount := s.freeCount + freePageSize }

/-- `n` pages from key `k` on take free words. -/
def State.scramblePages (s : State) (k : Nat) : Nat → State
  | 0 => s
  | n + 1 => (s.scramblePage k).scramblePages (k + 1) n

/-- Spare word 4 of page 0 of an extent takes a value (R103, R104). -/
def State.writeBadMark (s : State) (e : Nat) (w : Word) : State :=
  let k := PageAddress.key ⟨e, 0⟩
  let p := s.flash.read k
  { s with flash := s.flash.write k { p with spare := p.spare.set 4 w } }

/-- What a module operation that ends with success leaves in the module (R103). -/
def State.operationDone (s : State) : PortOp → State
  | .catalogProgram a p | .archiveProgram a p => { s with flash := s.flash.write a.key p }
  | .catalogErase e | .eraserErase e | .formatErase e => { s with flash := s.flash.eraseExtent e }
  | .archiveBadMark e | .eraserBadMark e => s.writeBadMark e 0
  | .catalogVerify _ _ | .archiveVerify _ _ | .mountFetch _ | .mountSpare _ | .recoveryFetch _
  | .readoutFetch _ _ => s

/-- What a module operation that fails, expires or is cut leaves in the module: free words wherever it
was writing (R103, log 8). -/
def State.operationCut (s : State) : PortOp → State
  | .catalogProgram a _ | .archiveProgram a _ => s.scramblePage a.key
  | .catalogErase e | .eraserErase e | .formatErase e =>
    s.scramblePages (PageAddress.key ⟨e, 0⟩) Config.extentPages
  | .archiveBadMark e | .eraserBadMark e =>
    { s.writeBadMark e (Config.freeWord s.freeCount) with freeCount := s.freeCount + 1 }
  | .catalogVerify _ _ | .archiveVerify _ _ | .mountFetch _ | .mountSpare _ | .recoveryFetch _
  | .readoutFetch _ _ => s

/-- What a fetch of a page returns: nothing on failure, else 4096 data words and 16 spare words (R103). -/
def State.fetched (s : State) (a : PageAddress) : Answer → Option PageImage
  | .failed => none
  | .asStored => some (s.flash.read a.key)
  | .reads d sp => some { data := fitWords Config.pageWords d, spare := fitWords Config.spareWords sp }

end Sys2Proof.Machine
end

