-- ==== Sys2Proof/Machine/LinkOps.lean ====
section
/-!
DEFINITION. The Link Unit's shared operations: counts kept for each receiving direction, the offers to the egress
queues and the arbiters that start frames (R6, R7, R9 to R13).
-/

namespace Sys2Proof.Machine

/-- A count of one receiving direction raised by 1 (R13). -/
def RxCounts.raise (c : RxCounts) : Rx → RxCounts
  | .stageForward => { c with stage := countUp c.stage 1 }
  | .throughReturn => { c with through := countUp c.through 1 }
  | .programReturn => { c with program := countUp c.program 1 }

/-- The parser of a receiving direction. -/
def LinkUnit.parser (l : LinkUnit) : Rx → Parser
  | .stageForward => l.rxStage
  | .throughReturn => l.rxThrough
  | .programReturn => l.rxProgram

/-- The link unit with the parser of one direction replaced. -/
def LinkUnit.setParser (l : LinkUnit) (d : Rx) (p : Parser) : LinkUnit :=
  match d with
  | .stageForward => { l with rxStage := p }
  | .throughReturn => { l with rxThrough := p }
  | .programReturn => { l with rxProgram := p }

/-- The line state of the link a receiving direction belongs to (R1). -/
def LinkUnit.receiving (l : LinkUnit) : Rx → Bool
  | .stageForward => l.stageUp
  | .throughReturn => l.throughUp
  | .programReturn => l.programUp

/-! ## Starting a frame -/

/-- With the through port UP and idle, the oldest frame of the repeat queue is started (R6). -/
def LinkUnit.startThrough (l : LinkUnit) : LinkUnit :=
  match l.throughUp, l.txThrough, l.repeatQ with
  | true, none, f :: q => { l with repeatQ := q, txThrough := some f }
  | _, _, _ => l

/-- The stage return arbiter takes the oldest frame of the stage reply queue. -/
def LinkUnit.takeReply (l : LinkUnit) (f : Frame) (q : List Frame) : LinkUnit :=
  { l with stageReplyQ := q, txStageReturn := some f, marker := .reply }

/-- The stage return arbiter takes the oldest frame of the relay queue. -/
def LinkUnit.takeRelay (l : LinkUnit) (f : Frame) (q : List Frame) : LinkUnit :=
  { l with relayQ := q, txStageReturn := some f, marker := .relay }

/-- The stage return arbiter (R11). -/
def LinkUnit.startStageReturn (l : LinkUnit) : LinkUnit :=
  match l.stageUp, l.txStageReturn with
  | true, none =>
    match l.stageReplyQ, l.relayQ with
    | f :: q, g :: r => match l.marker with
      | .relay => l.takeReply f q
      | .reply => l.takeRelay g r
    | f :: q, [] => l.takeReply f q
    | [], g :: r => l.takeRelay g r
    | [], [] => l
  | _, _ => l

/-- The program egress arbiter (R12); true when the frame started came from the readout queue. -/
def LinkUnit.startProgram (l : LinkUnit) : LinkUnit × Bool :=
  match l.programUp, l.txProgram with
  | true, none =>
    match l.streamQ, l.programReplyQ, l.readoutQ with
    | f :: q, _, _ => ({ l with streamQ := q, txProgram := some f }, false)
    | [], f :: q, _ => ({ l with programReplyQ := q, txProgram := some f }, false)
    | [], [], f :: q => ({ l with readoutQ := q, txProgram := some f }, true)
    | [], [], [] => (l, false)
  | _, _ => (l, false)

/-! ## Offering a frame -/

/-- A stage frame marked for repeating (R6, R10): appended, or counted as a repeat drop; while the
through port is DOWN neither. -/
def LinkUnit.offerRepeat (l : LinkUnit) (f : Frame) : LinkUnit :=
  if l.throughUp then
    if l.repeatQ.length < Config.repeatCap then { l with repeatQ := l.repeatQ ++ [f] }.startThrough
    else { l with repeatDrops := countUp l.repeatDrops 1 }
  else l

/-- A REPLY from downstream offered to the relay queue (R7, R10). -/
def LinkUnit.offerRelay (l : LinkUnit) (f : Frame) : LinkUnit :=
  if l.stageUp && decide (l.relayQ.length < Config.relayCap) then
    { l with relayQ := l.relayQ ++ [f] }.startStageReturn
  else { l with relayDrops := countUp l.relayDrops 1 }

/-- A reply to origin STAGE offered to the stage reply queue (R10). -/
def LinkUnit.offerStageReply (l : LinkUnit) (f : Frame) : LinkUnit :=
  if l.stageUp && decide (l.stageReplyQ.length < Config.stageReplyCap) then
    { l with stageReplyQ := l.stageReplyQ ++ [f] }.startStageReturn
  else { l with stageReplyDrops := countUp l.stageReplyDrops 1 }

/-- A reply to origin PROGRAM offered to the program reply queue (R10). -/
def LinkUnit.offerProgramReply (l : LinkUnit) (f : Frame) : LinkUnit :=
  if l.programUp && decide (l.programReplyQ.length < Config.programReplyCap) then
    { l with programReplyQ := l.programReplyQ ++ [f] }.startProgram.1
  else { l with programReplyDrops := countUp l.programReplyDrops 1 }

/-- A reply offered to the reply queue of its origin (R188). -/
def LinkUnit.offerReply (l : LinkUnit) (o : Origin) (f : Frame) : LinkUnit :=
  match o with
  | .stage => l.offerStageReply f
  | .program => l.offerProgramReply f

/-- A stream frame offered to the stream queue; true when it was accepted (R10, R165). -/
def LinkUnit.offerStream (l : LinkUnit) (f : Frame) : LinkUnit × Bool :=
  if l.programUp && decide (l.streamQ.length < Config.streamCap) then
    ({ l with streamQ := l.streamQ ++ [f] }.startProgram.1, true)
  else (l, false)

/-- Whether the readout queue takes an offer (R10). -/
def LinkUnit.readoutRoom (l : LinkUnit) : Bool :=
  l.programUp && decide (l.readoutQ.length < Config.readoutCap)

end Sys2Proof.Machine
end

