-- ==== Sys2Proof/Machine/Ops.lean ====
section
/-!
DEFINITION. The operations several commands share: replies and the completion of requests
(R188, R190), the store port (R118), the extent table (R105) and take records.
-/

namespace Sys2Proof.Machine

/-! ## Replies and completion -/

/-- The status codes (R188). -/
inductive Status where
  | done | badRequest | badOperand | noSpace | wrongState | reserved | isProtected | queueFull
  | duplicate | aborted | storeFault
  deriving DecidableEq, Repr

def Status.code : Status → Nat
  | .done => 0
  | .badRequest => 1
  | .badOperand => 2
  | .noSpace => 3
  | .wrongState => 4
  | .reserved => 5
  | .isProtected => 6
  | .queueFull => 7
  | .duplicate => 8
  | .aborted => 9
  | .storeFault => 10

/-- The request code numbers (R198). -/
def RequestCode.number : RequestCode → Nat
  | .trackSet => 1 | .trackRead => 2 | .trimCorrect => 3 | .sourceConfig => 4 | .sourceClear => 5
  | .sourceRead => 6 | .genLoad => 7 | .mixSet => 8 | .mixTake => 9 | .mixRead => 10
  | .streamSet => 11 | .streamRead => 12 | .meterConfig => 13 | .meterRead => 14
  | .takeOpen => 16 | .takePause => 17 | .takeResume => 18 | .takeClose => 19 | .takeProtect => 20
  | .takeUnprotect => 21 | .takeDelete => 22 | .takeList => 23 | .storeFormat => 24
  | .storeConfig => 25 | .storeStatus => 26 | .readTake => 27 | .readStop => 28
  | .unitStatus => 32 | .query => 33 | .reserve => 34 | .release => 35 | .unitReset => 36

/-- The request a code names; every other code is unknown (R198). -/
def RequestCode.ofNumber : Nat → Option RequestCode
  | 1 => some .trackSet | 2 => some .trackRead | 3 => some .trimCorrect | 4 => some .sourceConfig
  | 5 => some .sourceClear | 6 => some .sourceRead | 7 => some .genLoad | 8 => some .mixSet
  | 9 => some .mixTake | 10 => some .mixRead | 11 => some .streamSet | 12 => some .streamRead
  | 13 => some .meterConfig | 14 => some .meterRead | 16 => some .takeOpen | 17 => some .takePause
  | 18 => some .takeResume | 19 => some .takeClose | 20 => some .takeProtect
  | 21 => some .takeUnprotect | 22 => some .takeDelete | 23 => some .takeList
  | 24 => some .storeFormat | 25 => some .storeConfig | 26 => some .storeStatus
  | 27 => some .readTake | 28 => some .readStop | 32 => some .unitStatus | 33 => some .query
  | 34 => some .reserve | 35 => some .release | 36 => some .unitReset
  | _ => none

/-- The REPLY frame of a request, with the alert summary of the state it is built in (R188, R196). -/
def State.replyFrame (s : State) (station number code : Nat) (st : Status) (result : List Word) : Frame :=
  makeFrame s.unit kindReply 0
    (natWord (station * 2 ^ 24 + number * 2 ^ 16 + code * 2 ^ 8 + st.code) :: natWord s.alerts :: result)

/-- A reply built and offered to the reply queue of its origin (R188). -/
def State.reply (s : State) (o : Origin) (station number code : Nat) (st : Status) (result : List Word) :
    State :=
  { s with link := s.link.offerReply o (s.replyFrame station number code st result) }

/-- A request taken out of the queue. -/
def State.dropEntry (s : State) (arrival : Nat) : State :=
  { s with requests :=
      { s.requests with entries := s.requests.entries.filter fun e => e.arrival ≠ arrival } }

/-- The broadcast refused count raised by 1 (R190). -/
def State.countBroadcast (s : State) : State :=
  { s with requests :=
      { s.requests with broadcastRefused := countUp s.requests.broadcastRefused 1 } }

/-- A request of the queue, by its arrival number. -/
def State.entryOf (s : State) (arrival : Nat) : Option Entry :=
  s.requests.entries.find? (·.arrival = arrival)

/-- A request completes with a status (R188, R190): it leaves the queue; its reply is offered, or for a
broadcast a status other than DONE is counted. A request no longer in the queue has no reply (R14). -/
def State.complete (s : State) (arrival : Nat) (st : Status) (result : List Word) : State :=
  match s.entryOf arrival with
  | none => s
  | some e =>
    let s := s.dropEntry arrival
    if e.broadcast then if st = .done then s else s.countBroadcast
    else s.reply e.origin e.station e.number e.code.number st result

/-- The store operation in the slot ends: the slot becomes free and its request completes (R184). -/
def State.completeStoreOp (s : State) (st : Status) (result : List Word) : State :=
  match s.requests.storeOp with
  | none => s
  | some op => { s with requests := { s.requests with storeOp := none } }.complete op.arrival st result

/-! ## The store port -/

/-- The class of a module operation (R118). -/
def PortOp.rank : PortOp → Nat
  | .catalogProgram _ _ | .catalogVerify _ _ | .catalogErase _ | .mountFetch _ | .mountSpare _
  | .recoveryFetch _ => 1
  | .archiveProgram _ _ | .archiveVerify _ _ | .archiveBadMark _ => 2
  | .readoutFetch _ _ => 3
  | .eraserErase _ | .eraserBadMark _ | .formatErase _ => 4

/-- The extent a module operation acts on. -/
def PortOp.extent : PortOp → Nat
  | .catalogProgram a _ | .catalogVerify a _ | .mountFetch a | .recoveryFetch a
  | .archiveProgram a _ | .archiveVerify a _ | .readoutFetch a _ => a.extent
  | .catalogErase e | .mountSpare e | .archiveBadMark e | .eraserErase e | .eraserBadMark e
  | .formatErase e => e

/-- An operation submitted to the store port (R118). -/
def State.submit (s : State) (op : PortOp) : State :=
  { s with store := { s.store with waiting := s.store.waiting ++ [op] } }

/-- The oldest waiting operation of the lowest-numbered class that has one (R118). -/
def nextGrant (ws : List PortOp) : Option PortOp :=
  match ws.find? (·.rank = 1) with
  | some op => some op
  | none => match ws.find? (·.rank = 2) with
    | some op => some op
    | none => match ws.find? (·.rank = 3) with
      | some op => some op
      | none => ws.find? (·.rank = 4)

/-- The store port arbiter: a free port is granted (R118), and the time limit starts (R119). -/
def State.grant (s : State) : State :=
  match s.store.inFlight, nextGrant s.store.waiting with
  | none, some op =>
    { s with store :=
        { s.store with inFlight := some ⟨op, 0⟩, waiting := s.store.waiting.erase op } }
  | _, _ => s

/-- The operation in flight ends and frees the port; with `grantFirst` the port is granted among the
operations already waiting (R118, log 11). -/
def State.freePort (s : State) (grantFirst : Bool) : State :=
  let s := { s with store := { s.store with inFlight := none } }
  if grantFirst then s.grant else s

/-! ## The extent table -/

/-- An extent's entry replaced. -/
def setExtent (t : List (Nat × Extent)) (e : Nat) (x : Extent) : List (Nat × Extent) :=
  t.map fun y => if y.1 = e then (e, x) else y

/-- An extent's entry replaced in the state. -/
def State.setExtent (s : State) (e : Nat) (x : Extent) : State :=
  { s with store := { s.store with table := Machine.setExtent s.store.table e x } }

/-- The owner fields of one take removed from an entry (R105). -/
def Extent.disown (x : Extent) (take : Nat) : Extent :=
  if x.owner.any (·.take = take) then { x with owner := none } else x

/-- The extent of a TAKE_OPEN whose catalog write failed: OWNED becomes FREE, any other keeps its state
without its owner fields (R84, R105). -/
def Extent.handBack (x : Extent) (take : Nat) : Extent :=
  if x.owner.any (·.take = take) then
    if x.state = .owned then { state := .free } else { x with owner := none }
  else x

/-- The extent of a deleted take: OWNED becomes DIRTY, any other keeps its state without its owner
fields (R94, R105). -/
def Extent.discard (x : Extent) (take : Nat) : Extent :=
  if x.owner.any (·.take = take) then
    if x.state = .owned then { state := .dirty } else { x with owner := none }
  else x

/-- Every entry of the extent table changed by a function. -/
def State.mapExtents (s : State) (f : Extent → Extent) : State :=
  { s with store := { s.store with table := s.store.table.map fun y => (y.1, f y.2) } }

/-- The lowest DIRTY extent in address order (R117). -/
def StoreController.lowestDirty (c : StoreController) : Option Nat :=
  (c.table.find? fun x => x.2.state = .dirty).map Prod.fst

/-- Whether the eraser has an erase submitted or in flight (R117). -/
def StoreController.eraserBusy (c : StoreController) : Bool :=
  (c.inFlight.any fun j => j.op matches .eraserErase _) || c.waiting.any (· matches .eraserErase _)

/-- The background eraser (R117): while the store is MOUNTED and it has no erase submitted or in flight,
it submits an erase of the lowest DIRTY extent. -/
def State.eraser (s : State) : State :=
  match s.store.state, s.store.eraserBusy, s.store.lowestDirty with
  | .mounted, false, some e => s.submit (.eraserErase e)
  | _, _, _ => s

/-- What follows every event that may touch the store: the eraser looks for work and the port is
granted (R117, R118). -/
def State.settlePort (s : State) : State := s.eraser.grant

/-! ## Take records -/

/-- A take's record changed by a function. -/
def State.mapTake (s : State) (n : Nat) (f : TakeRecord → TakeRecord) : State :=
  { s with takes :=
      { s.takes with records := s.takes.records.map fun t => if t.number = n then f t else t } }

/-- A take's record removed from the table. -/
def State.dropTake (s : State) (n : Nat) : State :=
  { s with takes := { s.takes with records := s.takes.records.filter fun t => t.number ≠ n } }

/-- A take record with its loss count raised, held at 65535 (R81, R92). -/
def TakeRecord.addLoss (t : TakeRecord) (n : Nat) : TakeRecord :=
  { t with lossCount := min (t.lossCount + n) Config.lossMax }

end Sys2Proof.Machine
end

