-- ==== Sys2Proof/Machine/Operands.lean ====
section
/-!
DEFINITION. Requests as the queue holds them: their scopes and marks (R182), the operand words they
require (R187, R197), eligibility and the queue server's choice (R185, R186), and serving (R187).
-/

namespace Sys2Proof.Machine

/-! ## Scopes and marks -/

/-- The scope of state a request changes (R182). -/
inductive Scope where
  | config | store | unscoped
  deriving DecidableEq, Repr

/-- The scope of each request (R182). -/
def RequestCode.scope : RequestCode → Scope
  | .trackSet | .trimCorrect | .mixSet | .mixTake | .streamSet | .meterConfig | .genLoad
  | .sourceConfig | .sourceClear => .config
  | .takeOpen | .takePause | .takeResume | .takeClose | .takeProtect | .takeUnprotect | .takeDelete
  | .storeFormat | .storeConfig | .readTake | .readStop => .store
  | .trackRead | .mixRead | .streamRead | .meterRead | .sourceRead | .takeList | .storeStatus
  | .unitStatus | .query | .reserve | .release | .unitReset => .unscoped

/-- Whether a request is a store operation (R182). -/
def RequestCode.storeOperation : RequestCode → Bool
  | .takeOpen | .takePause | .takeResume | .takeClose | .takeProtect | .takeUnprotect | .takeDelete
  | .storeFormat => true
  | .trackSet | .trimCorrect | .mixSet | .mixTake | .streamSet | .meterConfig | .genLoad
  | .sourceConfig | .sourceClear | .storeConfig | .readTake | .readStop
  | .trackRead | .mixRead | .streamRead | .meterRead | .sourceRead | .takeList | .storeStatus
  | .unitStatus | .query | .reserve | .release | .unitReset => false

/-- Whether a request may be broadcast (R182). -/
def RequestCode.broadcastable : RequestCode → Bool
  | .trackSet | .mixSet | .mixTake | .streamSet | .meterConfig | .genLoad
  | .takeOpen | .takePause | .takeResume | .takeClose => true
  | .trimCorrect | .sourceConfig | .sourceClear | .takeProtect | .takeUnprotect | .takeDelete
  | .storeFormat | .storeConfig | .readTake | .readStop
  | .trackRead | .mixRead | .streamRead | .meterRead | .sourceRead | .takeList | .storeStatus
  | .unitStatus | .query | .reserve | .release | .unitReset => false

/-! ## Operand words -/

/-- Operand word `i` (R197); a word that is not there reads as 0 and is never used. -/
def Entry.op (e : Entry) (i : Nat) : Word := e.operands.getD i 0

/-- The fields a TRACK_SET carries, lowest first (R197). -/
def Entry.trackFields (e : Entry) : List Nat := (List.range 10).filter fun i => bitSet (e.op 0) i

/-- The operand words a request requires (R197). -/
def Entry.required (e : Entry) : Nat :=
  match e.code with
  | .trackSet => 1 + e.trackFields.length
  | .mixSet => 1
  | .streamSet | .trackRead | .sourceClear | .sourceRead | .meterRead => 1
  | .trimCorrect | .sourceConfig | .mixRead => 2
  | .genLoad => 1 + field (e.op 0) 7 0
  | .meterConfig => 3
  | .takeOpen => 1 + (field (e.op 0) 5 0 + 3) / 4
  | .takeProtect | .takeUnprotect | .takeDelete | .takeList => 1
  | .storeConfig => 4
  | .storeStatus | .unitStatus | .query | .reserve | .release => 1
  | .readTake => 3
  | .mixTake | .streamRead | .takePause | .takeResume | .takeClose | .storeFormat | .readStop
  | .unitReset => 0

/-- Whether a request carries fewer operand words than it requires (R187). -/
def Entry.short (e : Entry) : Bool := decide (e.operands.length < e.required)

/-! ## Eligibility and choice -/

/-- The station of a request, as a reservation names it (R183). -/
def Entry.holder (e : Entry) : Station := ⟨e.origin, e.station⟩

/-- Whether the reservation of a scope lets a request pass (R185). -/
def reservationPasses (holder : Option Station) (e : Entry) : Bool :=
  match holder with
  | none => true
  | some h => h = e.holder || e.urgent

/-- The holder of the reservation of a request's scope (R183). -/
def RequestQueue.holderOf (q : RequestQueue) : Scope → Option Station
  | .config => q.reserveConfig
  | .store => q.reserveStore
  | .unscoped => none

/-- A QUEUED request is eligible (R185). -/
def State.eligible (s : State) (e : Entry) : Bool :=
  !e.active && reservationPasses (s.requests.holderOf e.code.scope) e
    && !(e.code.storeOperation && s.requests.storeOp.isSome)
    && !(decide (e.code = .readTake) && s.readout.busy)

/-- Whether a request's station holds a reservation (R186). -/
def RequestQueue.favoured (q : RequestQueue) (e : Entry) : Bool :=
  q.reserveConfig = some e.holder || q.reserveStore = some e.holder

/-- The oldest request: entries stand in arrival order (R180). -/
def oldestOf (es : List Entry) (p : Entry → Bool) : Option Entry := es.find? p

/-- The queue server's choice (R186). -/
def State.choice (s : State) : Option Entry :=
  let es := s.requests.entries.filter s.eligible
  (oldestOf es Entry.urgent).or <| (oldestOf es s.requests.favoured).or <|
    (oldestOf es (·.priority = 3)).or <| (oldestOf es (·.priority = 2)).or <|
      (oldestOf es (·.priority = 1)).or (oldestOf es (·.priority = 0))

/-! ## Serving -/

/-- The request being served counts as ACTIVE (R191, log 21). -/
def State.activate (s : State) (arrival : Nat) : State :=
  { s with requests := { s.requests with
      entries := s.requests.entries.map fun e =>
        if e.arrival = arrival then { e with active := true } else e } }

/-- A service of the queue server: its choice, when that has the given code, is handed to its block
(R186, R187); otherwise this event does not occur and nothing changes (log 6). -/
def State.serve (s : State) (code : RequestCode) (block : Entry → State → State) : State :=
  match s.choice with
  | some e => if e.code = code then block e (s.activate e.arrival) else s
  | none => s

/-- A request refused at its service: it completes with a status and no result words (R187, R188). -/
def State.refuse (s : State) (e : Entry) (st : Status) : State := s.complete e.arrival st []

/-- A request completes at its service with DONE. -/
def State.done (s : State) (e : Entry) (result : List Word) : State := s.complete e.arrival .done result

/-- A store operation becomes ACTIVE and makes its slot busy (R184, R187). -/
def State.holdSlot (s : State) (e : Entry) (kind : StoreOpKind) : State :=
  { s with requests := { s.requests with storeOp := some ⟨kind, e.arrival⟩ } }

end Sys2Proof.Machine
end

