-- ==== Sys2Proof/Machine/Readout.lean ====
section
/-!
DEFINITION. The Readout Engine (07_release_readout.md, R128 to R144): page step, backlog test,
fetch, cutting a page into frames, offers, departures and ends.
-/

namespace Sys2Proof.Machine

/-- The Readout Engine's record changed. -/
def State.setReadout (s : State) (r : ReadoutEngine) : State := { s with readout := r }

/-! ## Ends -/

/-- A readout fetch whose outcome will be discarded (R139 step 3). -/
def PortOp.unwant : PortOp → PortOp
  | .readoutFetch a _ => .readoutFetch a false
  | op => op

/-- A readout ends with a status (R139): when it is not DONE its queued frames are withdrawn; a fetch
not yet ended is left to the port; the reply is queued when the request is still there; the engine
becomes IDLE. -/
def State.readoutEnd (s : State) (st : Status) : State :=
  let r := s.readout
  let ended : State :=
    { s with
      readout := {}
      link := if st = Status.done then s.link else { s.link with readoutQ := [] }
      store := { s.store with
        inFlight := s.store.inFlight.map fun j => { j with op := j.op.unwant }
        waiting := s.store.waiting.map PortOp.unwant } }
  ended.complete r.arrival st [natWord r.pagesSent, natWord r.pagesFailed]

/-! ## Page step, backlog test, fetch -/

/-- The fetch of the next page is asked for (R118, R133): absent or on a FAULT module, it fails at
once and the readout ends with STORE_FAULT (R141). -/
def State.readoutFetch (s : State) : State :=
  match s.store.locate s.readout.take s.readout.nextPage with
  | some a =>
    if s.store.answers a.extent then
      (s.setReadout { s.readout with state := .fetching }).submit (.readoutFetch a true)
    else s.readoutEnd .storeFault
  | none => s.readoutEnd .storeFault

/-- The backlog test (R132). -/
def State.backlogTest (s : State) : State :=
  if s.store.queue.length ≤ s.store.backlog then s.readoutFetch
  else s.setReadout { s.readout with state := .holding, countdown := s.store.holdTime }

/-- Whether the take being read is live, and its page count, as its record stands (R131). -/
def State.readoutTake (s : State) : Bool × Nat :=
  match s.takes.record s.readout.take with
  | some t => (t.state.live, t.pageCount)
  | none => (false, 0)

/-- The page step (R131). -/
def State.pageStep (s : State) : State :=
  let (live, pages) := s.readoutTake
  if s.readout.nextPage < pages then s.backlogTest
  else s.setReadout { s.readout with state := if live then .following else .final }

/-! ## Building frames -/

/-- The body of a READOUT frame (R196). -/
def readoutBody (take page offset : Nat) (first failed last : Bool) (data : List Word) : List Word :=
  [natWord take, natWord page,
    natWord (last.toNat * 2 ^ 18 + failed.toNat * 2 ^ 17 + first.toNat * 2 ^ 16 + offset)] ++ data

/-- The next frame of the page in the read buffer (R135). -/
def State.pageFrame (s : State) : BuiltFrame :=
  let r := s.readout
  let data := (r.buffer.drop r.cut).take Config.readoutWords
  let ends := decide (Config.pageWords ≤ r.cut + data.length)
  let (live, pages) := s.readoutTake
  let last := ends && (!r.run || (!live && r.nextPage + 1 = pages))
  { words := makeFrame s.unit kindReadout 0
      (readoutBody r.take r.nextPage r.cut r.fresh r.checkFailed last data)
    note := ⟨ends, r.checkFailed, last⟩ }

/-- The closing frame (R137). -/
def State.closingFrame (s : State) : BuiltFrame :=
  { words := makeFrame s.unit kindReadout 0
      (readoutBody s.readout.take s.readout.nextPage 0 false false true [])
    note := ⟨false, false, true⟩ }

/-- With no built frame at hand, the engine builds its next one (R135, R137). -/
def State.readoutBuild (s : State) : State :=
  match s.readout.held, s.readout.state with
  | none, .sending =>
    s.setReadout { s.readout with
      held := some s.pageFrame
      cut := s.readout.cut + ((s.readout.buffer.drop s.readout.cut).take Config.readoutWords).length
      fresh := false }
  | none, .final => s.setReadout { s.readout with held := some s.closingFrame }
  | _, _ => s

/-! ## Offers and departures -/

/-- A frame of the readout has left the readout queue (R136): the oldest departure note is taken and
pages are counted; the frame that carries LAST ends the readout with DONE (R140). -/
def State.departure (s : State) : State :=
  match s.readout.notes with
  | [] => s
  | n :: ns =>
    let s := s.setReadout { s.readout with
      notes := ns
      pagesSent := s.readout.pagesSent + n.endsPage.toNat
      pagesFailed := s.readout.pagesFailed + (n.endsPage && n.checkFailed).toNat }
    if n.last then s.readoutEnd .done else s

/-- The program egress arbiter starts a frame if it may (R12), and a readout frame's start is
signalled to the engine. -/
def State.egress (s : State) : State :=
  let (l, fromReadout) := s.link.startProgram
  let s := { s with link := l }
  if fromReadout then s.departure else s

/-- The readout queue accepts a built frame (R136): the frame joins the queue with its departure
note; with the last frame of a page the read buffer is released. -/
def State.readoutJoin (s : State) (b : BuiltFrame) : State :=
  let r := { s.readout with held := none, notes := s.readout.notes ++ [b.note] }
  let r := if b.note.last then { r with state := .ending, buffer := [] }
    else if b.note.endsPage then
      { r with buffer := [], nextPage := r.nextPage + 1, firstPage := false }
    else r
  { s with link := { s.link with readoutQ := s.link.readoutQ ++ [b.words] }, readout := r }

/-- What follows an acceptance (R136, log 18): the arbiter may start a frame, then the page step is
taken where the frame ended its page without LAST. -/
def State.readoutAccept (s : State) (b : BuiltFrame) : State :=
  let s := (s.readoutJoin b).egress
  if b.note.endsPage && !b.note.last then s.pageStep else s

/-- The engine builds and offers frames until one is refused or the page is done (R135, R136). The
fuel is above the frames one event can place: two in the queue, one started, one held. -/
def State.readoutAdvance (s : State) : Nat → State
  | 0 => s
  | n + 1 =>
    match s.readout.state with
    | .sending | .final =>
      let s := s.readoutBuild
      match s.readout.held with
      | some b => if s.link.readoutRoom then (s.readoutAccept b).readoutAdvance n else s
      | none => s
    | _ => s

/-- The fuel of `readoutAdvance`. -/
def readoutFuel : Nat := 8

/-- The page step of a readout, with the frames of a FINAL state offered at once (R131, R137). -/
def State.pageStepAndOffer (s : State) : State := s.pageStep.readoutAdvance readoutFuel

/-! ## Events of the engine -/

/-- A readout fetch has ended (R133, R134). -/
def State.readoutFetched (s : State) (answer : Option PageImage) : State :=
  match answer with
  | none => s.readoutEnd .storeFault
  | some p =>
    (s.setReadout { s.readout with
      state := .sending
      buffer := p.data
      checkFailed := !p.good
      cut := if s.readout.firstPage then s.readout.startOffset else 0
      fresh := true }).readoutAdvance readoutFuel

/-- The engine is told of a verify completion of the live take (R137). -/
def State.readoutVerifyNotice (s : State) : State :=
  if s.readout.state = .following && decide (s.readout.nextPage < s.readoutTake.2) then s.backlogTest
  else s

/-- The engine is told that a take has become CLOSED (R137). -/
def State.readoutClosedNotice (s : State) (take : Nat) : State :=
  if s.readout.state = .following && s.readout.take = take then
    if s.readout.nextPage < s.readoutTake.2 then s.backlogTest
    else (s.setReadout { s.readout with state := .final }).readoutAdvance readoutFuel
  else s

end Sys2Proof.Machine
end

