-- ==== Sys2Proof/Machine/Links.lean ====
section
/-!
DEFINITION. The Link Unit's commands (01_stage_link_through_port_and_program_link.md): words taken by
the parsers, complete frames and what they bring to the Source Monitor and the Request Queue, ends of
transmission, and links going down and coming up.
-/

namespace Sys2Proof.Machine

/-- The Link Unit replaced. -/
def State.setLink (s : State) (l : LinkUnit) : State := { s with link := l }

/-! ## Words taken in HUNT and BODY -/

/-- The parser after a header of an accepted length (R3). -/
def parserAfterHeader (w : Word) : Parser := .body w [] w

/-- The parser after a body word (R4): CHECK once the last expected body word has been taken. -/
def parserAfterBody (h : Word) (taken : List Word) (sum w : Word) : Parser :=
  if taken.length + 3 < headerLength h then .body h (taken ++ [w]) (sum + w)
  else .check h (taken ++ [w]) (sum + w)

/-- Whether a header's length field is in range (R3). -/
def lengthGood (h : Word) : Bool := decide (3 ≤ headerLength h) && decide (headerLength h ≤ 64)

/-- Whether a word carries the mark (R3). -/
def marked (w : Word) : Bool := headerMark w = Config.frameMark

/-- FRAME_HEADER_TAKEN (R3): a marked word with a length of 3 to 64, taken in HUNT. -/
def execFrameHeaderTaken (d : Rx) (w : Word) (s : State) : Host.Outcome State Fault Refusal :=
  match s.link.receiving d, s.link.parser d with
  | true, .hunt =>
    .next (if marked w && lengthGood w then s.setLink (s.link.setParser d (parserAfterHeader w)) else s)
  | _, _ => .next s

/-- STRAY_WORD (R3): a word without the mark, taken in HUNT. -/
def execStrayWord (d : Rx) (w : Word) (s : State) : Host.Outcome State Fault Refusal :=
  match s.link.receiving d, s.link.parser d with
  | true, .hunt =>
    .next (if marked w then s else s.setLink { s.link with stray := s.link.stray.raise d })
  | _, _ => .next s

/-- FRAMING_ERROR (R3): a marked word with a length outside 3 to 64, taken in HUNT. -/
def execFramingError (d : Rx) (w : Word) (s : State) : Host.Outcome State Fault Refusal :=
  match s.link.receiving d, s.link.parser d with
  | true, .hunt =>
    .next (if marked w && !lengthGood w then
      s.setLink { s.link with framing := s.link.framing.raise d } else s)
  | _, _ => .next s

/-- BODY_WORD_TAKEN (R4): any data word in BODY. -/
def execBodyWordTaken (d : Rx) (w : Word) (s : State) : Host.Outcome State Fault Refusal :=
  match s.link.receiving d, s.link.parser d with
  | true, .body h taken sum => .next (s.setLink (s.link.setParser d (parserAfterBody h taken sum w)))
  | _, _ => .next s

/-- A parser in BODY or CHECK abandons its frame and counts it (R4, R14 to R16). -/
def LinkUnit.abandon (l : LinkUnit) (d : Rx) : LinkUnit :=
  match l.parser d with
  | .hunt => l
  | .body _ _ _ | .check _ _ _ =>
    { l.setParser d .hunt with abandoned := l.abandoned.raise d }

/-- FRAME_ABANDONED (R4): an IDLE word in BODY or CHECK. -/
def execFrameAbandoned (d : Rx) (s : State) : Host.Outcome State Fault Refusal :=
  .next (if s.link.receiving d then s.setLink (s.link.abandon d) else s)

/-! ## Arrival of a SAMPLE frame -/

/-- A well-formed SAMPLE frame meets its source record (R23). -/
def SourceRecord.arrive (r : SourceRecord) (f : SampleFrame) : SourceRecord :=
  if r.lastSeq = some f.seq then { r with duplicates := countUp r.duplicates 1 }
  else if Config.fifoCap ≤ r.fifo.length then { r with overruns := countUp r.overruns 1 }
  else { r with
    fifo := r.fifo ++ [f]
    accepted := countUp r.accepted 1
    gaps := match r.lastSeq with
      | some l => countUp r.gaps ((f.seq + 65536 - l) % 65536 - 1)
      | none => r.gaps
    lastSeq := some f.seq }

/-- A stage source's record changed. -/
def SourceMonitor.mapRecord (m : SourceMonitor) (n : Nat) (f : SourceRecord → SourceRecord) :
    SourceMonitor :=
  { m with records := m.records.modify n f }

/-- A SAMPLE frame arrives at the Source Monitor (R22). -/
def SourceMonitor.sampleArrives (m : SourceMonitor) (header : Word) (body : List Word) : SourceMonitor :=
  let n := headerAux header
  let w := body.getD 0 0
  let count := field w 21 16
  if Config.stageSources ≤ n then { m with foreign := countUp m.foreign 1 }
  else if count = 0 || decide (Config.slots < count) || body.length + 2 ≠ count + 3 then
    m.mapRecord n fun r => { r with malformed := countUp r.malformed 1 }
  else m.mapRecord n fun r => r.arrive ⟨field w 15 0, body.tail.map sampleOf⟩

/-! ## Arrival of a request -/

/-- Whether an entry has an identity (R180). -/
def Entry.is (e : Entry) (o : Origin) (station number : Nat) : Bool :=
  e.origin = o && e.station = station && e.number = number

/-- The refusal an arrival meets, tested in the order of R181. -/
def State.arrivalRefusal (s : State) (o : Origin) (station number code : Nat) : Option Status :=
  if s.requests.entries.any (·.is o station number) then some .duplicate
  else if Config.requestCap ≤ s.requests.entries.length then some .queueFull
  else if (RequestCode.ofNumber code).isNone then some .badRequest
  else none

/-- A request is entered at the tail of the queue as QUEUED, under the next arrival number (R180). -/
def RequestQueue.enter (q : RequestQueue) (e : Entry) : RequestQueue :=
  { q with entries := q.entries ++ [{ e with arrival := q.nextArrival }],
           nextArrival := q.nextArrival + 1 }

/-- The entry a MANAGE body makes (R180, R196, R197). -/
def entryOfBody (o : Origin) (broadcast : Bool) (code : RequestCode) (body : List Word) : Entry :=
  let w := body.getD 0 0
  { origin := o, station := field w 26 24, number := field w 23 16, code := code
    priority := field w 5 4, urgent := bitSet w 0, operands := body.tail, broadcast := broadcast
    arrival := 0, active := false }

/-- A MANAGE frame arrives at the Request Queue (R181; a broadcast: R190). -/
def State.requestArrives (s : State) (o : Origin) (broadcast : Bool) (body : List Word) : State :=
  let w := body.getD 0 0
  let station := field w 26 24
  let number := field w 23 16
  let code := field w 15 8
  match s.arrivalRefusal o station number code, RequestCode.ofNumber code with
  | some st, _ => if broadcast then s.countBroadcast else s.reply o station number code st []
  | none, none => s
  | none, some c =>
    if broadcast && !c.broadcastable then s.countBroadcast
    else { s with requests := s.requests.enter (entryOfBody o broadcast c body) }

/-! ## Complete frames -/

/-- The check word a parser compares with, from its running sum (R2, R4). -/
def checkOf (sum : Word) : Word := ~~~(sum + Config.checkSalt)

/-- A stage link frame with a good check goes where R5 says, but for its repeating. -/
def State.stageFrame (s : State) (h : Word) (body : List Word) : State :=
  if headerKind h = kindSample then { s with sources := s.sources.sampleArrives h body }
  else if headerKind h = kindManage then
    if headerUnit h = s.unit then s.requestArrives .stage false body
    else if headerUnit h = 31 then s.requestArrives .stage true body
    else s
  else s

/-- Whether a stage link frame with a good check is consumed and so not repeated (R5). -/
def State.consumes (s : State) (h : Word) : Bool := headerKind h = kindManage && headerUnit h = s.unit

/-- STAGE_FRAME_COMPLETE (R4, R5, R6). -/
def execStageFrameComplete (check : Word) (s : State) : Host.Outcome State Fault Refusal :=
  match s.link.stageUp, s.link.rxStage with
  | true, .check h body sum =>
    let frame := h :: body ++ [check]
    let l := s.link.setParser .stageForward .hunt
    if check = checkOf sum then
      let s := s.setLink { l with accepted := l.accepted.raise .stageForward }
      let repeated := if s.consumes h then s else s.setLink (s.link.offerRepeat frame)
      .next (repeated.stageFrame h body)
    else
      .next (s.setLink
        ({ l with checkFailures := l.checkFailures.raise .stageForward }.offerRepeat frame))
  | _, _ => .next s

/-- THROUGH_RETURN_FRAME_COMPLETE (R4, R7). -/
def execThroughReturnFrameComplete (check : Word) (s : State) : Host.Outcome State Fault Refusal :=
  match s.link.throughUp, s.link.rxThrough with
  | true, .check h body sum =>
    let l := s.link.setParser .throughReturn .hunt
    if check = checkOf sum then
      let l := { l with accepted := l.accepted.raise .throughReturn }
      .next (s.setLink (if headerKind h = kindReply then l.offerRelay (h :: body ++ [check])
        else { l with wrongKindThrough := countUp l.wrongKindThrough 1 }))
    else .next (s.setLink { l with checkFailures := l.checkFailures.raise .throughReturn })
  | _, _ => .next s

/-- PROGRAM_RETURN_FRAME_COMPLETE (R4, R8). -/
def execProgramReturnFrameComplete (check : Word) (s : State) : Host.Outcome State Fault Refusal :=
  match s.link.programUp, s.link.rxProgram with
  | true, .check h body sum =>
    let l := s.link.setParser .programReturn .hunt
    if check = checkOf sum then
      let l := { l with accepted := l.accepted.raise .programReturn }
      if headerKind h = kindManage then
        if headerUnit h = s.unit then .next ((s.setLink l).requestArrives .program false body)
        else if headerUnit h = 31 then .next ((s.setLink l).requestArrives .program true body)
        else .next (s.setLink { l with misaddressed := countUp l.misaddressed 1 })
      else .next (s.setLink { l with wrongKindProgram := countUp l.wrongKindProgram 1 })
    else .next (s.setLink { l with checkFailures := l.checkFailures.raise .programReturn })
  | _, _ => .next s

/-! ## Ends of transmission -/

/-- THROUGH_FRAME_END (R6, R9): the next repeated frame starts. -/
def execThroughFrameEnd (s : State) : Host.Outcome State Fault Refusal :=
  match s.link.txThrough with
  | some _ => .next (s.setLink { s.link with txThrough := none }.startThrough)
  | none => .next s

/-- STAGE_RETURN_FRAME_END (R9, R11): the stage return arbiter takes the next frame. -/
def execStageReturnFrameEnd (s : State) : Host.Outcome State Fault Refusal :=
  match s.link.txStageReturn with
  | some _ => .next (s.setLink { s.link with txStageReturn := none }.startStageReturn)
  | none => .next s

/-- The program link's forward direction is free (R12, R136): the arbiter takes the next frame; only where
that leaves the readout queue is the Readout Engine signalled, takes its departure note and offers on. -/
def State.programFree (s : State) : State :=
  if s.link.startProgram.2 then s.egress.readoutAdvance readoutFuel else s.egress

/-- PROGRAM_FORWARD_FRAME_END (R9, R12, R136). -/
def execProgramForwardFrameEnd (s : State) : Host.Outcome State Fault Refusal :=
  match s.link.txProgram with
  | some _ => .next (s.setLink { s.link with txProgram := none }).programFree.settlePort
  | none => .next s

/-! ## Links going down and coming up -/

/-- The reservation of a scope, free where a station of the origin held it (R14, R15). -/
def cancelHeld (o : Origin) (h : Option Station) : Option Station := h.filter fun x => x.origin ≠ o

/-- The requests of an origin are removed without a reply and its stations' reservations are
cancelled; the store operation in the slot is left to its block (R14, R15). -/
def RequestQueue.linkDown (q : RequestQueue) (o : Origin) : RequestQueue :=
  { q with
    entries := q.entries.filter fun e => e.origin ≠ o
    reserveConfig := cancelHeld o q.reserveConfig
    reserveStore := cancelHeld o q.reserveStore }

/-- The stage link's part of the Link Unit goes DOWN (R14). -/
def LinkUnit.stageDown (l : LinkUnit) : LinkUnit :=
  { l.abandon .stageForward with stageUp := false, txStageReturn := none, stageReplyQ := [], relayQ := [] }

/-- The program link's part of the Link Unit goes DOWN (R15). -/
def LinkUnit.programDown (l : LinkUnit) : LinkUnit :=
  { l.abandon .programReturn with
    programUp := false, txProgram := none, streamQ := [], programReplyQ := [], readoutQ := [] }

/-- The through port's part of the Link Unit goes DOWN (R16). -/
def LinkUnit.throughDown (l : LinkUnit) : LinkUnit :=
  { l.abandon .throughReturn with throughUp := false, txThrough := none, repeatQ := [] }

/-- A running readout ends with ABORTED (R142, R143). -/
def State.readoutAbort (s : State) : State := if s.readout.busy then s.readoutEnd .aborted else s

/-- STAGE_LINK_DOWN (R14, R143). -/
def execStageLinkDown (s : State) : Host.Outcome State Fault Refusal :=
  if s.link.stageUp then
    let s := { s with link := s.link.stageDown, requests := s.requests.linkDown .stage }
    .next (if s.readout.origin = .stage then s.readoutAbort else s)
  else .next s

/-- The gap mark of an enabled bus is set (R166). -/
def StreamBus.markGap (b : StreamBus) : StreamBus :=
  if b.mode = .disabled then b else { b with gap := true }

/-- PROGRAM_LINK_DOWN (R15, R143, R166). -/
def execProgramLinkDown (s : State) : Host.Outcome State Fault Refusal :=
  if s.link.programUp then
    let s := { s with
      link := s.link.programDown
      requests := s.requests.linkDown .program
      stream := s.stream.map StreamBus.markGap }
    .next s.readoutAbort
  else .next s

/-- THROUGH_PORT_DOWN (R16). -/
def execThroughPortDown (s : State) : Host.Outcome State Fault Refusal :=
  .next (if s.link.throughUp then s.setLink s.link.throughDown else s)

/-- A link comes UP with its parsers in HUNT and its sending directions' queues empty (R16). -/
def LinkUnit.up (l : LinkUnit) : Link → LinkUnit
  | .stage =>
    if l.stageUp then l
    else { l with stageUp := true, rxStage := .hunt, stageReplyQ := [], relayQ := [] }
  | .through => if l.throughUp then l else { l with throughUp := true, rxThrough := .hunt, repeatQ := [] }
  | .program =>
    if l.programUp then l
    else { l with programUp := true, rxProgram := .hunt, streamQ := [], programReplyQ := [], readoutQ := [] }

/-- LINK_UP (R1, R16). -/
def execLinkUp (k : Link) (s : State) : Host.Outcome State Fault Refusal :=
  .next (s.setLink (s.link.up k))

end Sys2Proof.Machine
end

