-- ==== Sys2Proof/Machine/Sources.lean ====
section
/-!
DEFINITION. The Source Monitor's work in a row, concealment, the line-check generator, and the
source requests (02_sources_and_the_input_row.md, R18 to R36).
-/

namespace Sys2Proof.Machine

/-! ## Presence -/

/-- The presence transition of one row, after the take (R25). -/
def SourceRecord.presenceStep (r : SourceRecord) (taken : Bool) : SourceRecord :=
  match r.presence, taken with
  | .absent, true | .lapsed, true => { r with presence := .acquiring, acquire := 1 }
  | .absent, false | .lapsed, false => r
  | .acquiring, true =>
    if Config.acquireGoal ≤ r.acquire + 1 then
      { r with presence := .present, acquire := Config.acquireGoal, misses := 0 }
    else { r with acquire := r.acquire + 1 }
  | .acquiring, false => { r with acquire := 0 }
  | .present, true => { r with misses := 0 }
  | .present, false =>
    if r.limit ≤ r.misses + 1 then
      { r with presence := .lapsed, lapses := countUp r.lapses 1, misses := 0, acquire := 0 }
    else { r with misses := r.misses + 1 }

/-- One row of a stage source: its oldest frame is taken and its presence makes one transition
(R24, R25). -/
def SourceRecord.row (r : SourceRecord) : SourceRecord :=
  ({ r with fifo := r.fifo.tail }).presenceStep (!r.fifo.isEmpty)

/-- The frame a stage source supplies in a row (R26). -/
def SourceRecord.supplies (r : SourceRecord) : Option SampleFrame :=
  if r.presence = .present then r.fifo.head? else none

/-! ## The input row -/

/-- The generator's current level (R31). -/
def Generator.level (g : Generator) : Int := g.levels.getD g.index 0

/-- The generator after a row (R31). -/
def Generator.advance (g : Generator) : Generator :=
  if g.position + 1 < g.hold then { g with position := g.position + 1 }
  else { g with position := 0, index := if g.index + 1 < g.levels.length then g.index + 1 else 0 }

/-- An input row: what each stage source supplies, and the generator's level (R26). -/
structure InputRow where
  supplied : List (Option SampleFrame)
  level : Int
  deriving DecidableEq, Repr

/-- The input row of a row event (R26). -/
def SourceMonitor.inputRow (m : SourceMonitor) : InputRow :=
  { supplied := m.records.map SourceRecord.supplies, level := m.generator.level }

/-- The row counter after a row, and whether that signals a boundary (R19). -/
def SourceMonitor.advance (m : SourceMonitor) : SourceMonitor :=
  { m with
    records := m.records.map SourceRecord.row
    generator := m.generator.advance
    rowCounter := (m.rowCounter + 1) % Config.archiveRows
    boundaryDue := decide ((m.rowCounter + 1) % Config.mixRows = 0) }

/-! ## Raw samples and concealment -/

/-- A raw sample, its concealed mark, and the track's concealment state after the row (R28). -/
structure Raw where
  sample : Int
  concealed : Bool
  after : Conceal
  deriving DecidableEq, Repr

/-- A supplied sample (R28). -/
def Raw.supplied (x : Int) : Raw := ⟨x, false, ⟨x, 0⟩⟩

/-- A concealed row of a track whose source does not supply (R29). -/
def Conceal.conceal (c : Conceal) : ConcealMode → Raw
  | .mute => ⟨0, true, { c with fade := Config.fadeEnd }⟩
  | .fade =>
    let p := if c.fade < Config.fadeEnd then c.fade + 1 else c.fade
    ⟨(c.held * (Config.fadeEnd - p : Nat)).tdiv Config.fadeEnd, true, { c with fade := p }⟩

/-- The raw sample of an enabled track (R28). -/
def Conceal.raw (c : Conceal) (r : Route) (row : InputRow) : Raw :=
  if r.source = Config.generatorSource then .supplied row.level
  else match row.supplied.getD r.source none with
    | none => c.conceal r.mode
    | some f =>
      if r.slot < f.samples.length then .supplied (f.samples.getD r.slot 0)
      else ⟨0, true, { c with fade := Config.fadeEnd }⟩

/-! ## Requests -/

/-- GEN_LOAD's levels, as its operand words carry them (R197). -/
def Entry.levels (e : Entry) : List Word := (e.operands.drop 1).take (field (e.op 0) 7 0)

/-- GEN_LOAD at the Source Monitor (R32). -/
def serveGenLoad (e : Entry) (s : State) : State :=
  let count := field (e.op 0) 7 0
  let hold := field (e.op 0) 31 16
  if e.short || decide (count < 2) || decide (16 < count) || hold = 0 || !e.levels.all isSample then
    s.refuse e .badOperand
  else
    ({ s with sources := { s.sources with
      generator := ⟨e.levels.map sampleOf, hold, 0, 0⟩ } }).done e []

/-- GEN_LOAD (R32). -/
def execGenLoad (s : State) : Host.Outcome State Fault Refusal := .next (s.serve .genLoad serveGenLoad)

/-- A source record after SOURCE_CLEAR: as after a reset, but for its lapse limit (R33). -/
def SourceRecord.clear (r : SourceRecord) : SourceRecord := { limit := r.limit }

/-- SOURCE_CLEAR at the Source Monitor (R33). -/
def serveSourceClear (e : Entry) (s : State) : State :=
  let n := field (e.op 0) 31 16
  if e.short || decide (Config.stageSources ≤ n) then s.refuse e .badOperand
  else ({ s with sources := s.sources.mapRecord n SourceRecord.clear }).done e []

/-- SOURCE_CLEAR (R33). -/
def execSourceClear (s : State) : Host.Outcome State Fault Refusal :=
  .next (s.serve .sourceClear serveSourceClear)

/-- SOURCE_CONFIG at the Source Monitor (R34). -/
def serveSourceConfig (e : Entry) (s : State) : State :=
  let n := field (e.op 0) 31 16
  if e.short || decide (Config.stageSources ≤ n) then s.refuse e .badOperand
  else
    let limit := clampNat 1 255 (e.op 1).toNat
    ({ s with sources := s.sources.mapRecord n fun r => { r with limit := limit } }).done e []

/-- SOURCE_CONFIG (R34). -/
def execSourceConfig (s : State) : Host.Outcome State Fault Refusal :=
  .next (s.serve .sourceConfig serveSourceConfig)

/-- The code of a presence state (R197). -/
def Presence.code : Presence → Nat
  | .absent => 0
  | .acquiring => 1
  | .present => 2
  | .lapsed => 3

/-- A stage source's record in SOURCE_READ's result (R35). -/
def SourceRecord.words (r : SourceRecord) : List Word :=
  [natWord r.presence.code, natWord r.acquire, natWord r.misses, natWord r.limit,
    natWord r.fifo.length, optWord r.lastSeq, natWord r.accepted, natWord r.duplicates,
    natWord r.overruns, natWord r.gaps, natWord r.malformed, natWord r.lapses]

/-- The generator's record in SOURCE_READ's result (R35, R197). -/
def Generator.words (g : Generator) : List Word :=
  [natWord g.levels.length, natWord g.hold, natWord g.index, natWord g.position] ++ g.levels.map intWord

/-- A source's record in SOURCE_READ's result (R35). -/
def SourceMonitor.recordWords (m : SourceMonitor) (n : Nat) : List Word :=
  if n = Config.generatorSource then m.generator.words else (m.records.getD n {}).words

/-- SOURCE_READ at the Source Monitor (R35). -/
def serveSourceRead (e : Entry) (s : State) : State :=
  let first := field (e.op 0) 31 16
  let count := field (e.op 0) 15 8
  if e.short || decide (Config.generatorSource < first) || count = 0 || decide (4 < count)
      || decide (Config.generatorSource + 1 < first + count) then s.refuse e .badOperand
  else s.done e (natWord s.sources.rowCounter :: natWord s.sources.foreign
    :: (List.range' first count).flatMap s.sources.recordWords)

/-- SOURCE_READ (R35). -/
def execSourceRead (s : State) : Host.Outcome State Fault Refusal :=
  .next (s.serve .sourceRead serveSourceRead)

end Sys2Proof.Machine
end

