-- ==== Sys2Proof/Machine/Tracks.lean ====
section
/-!
DEFINITION. The Track Conditioner (03_track_routing_and_conditioning.md, R37 to R55): the path of a
row, TRACK_SET, TRIM_CORRECT and TRACK_READ.
-/

namespace Sys2Proof.Machine

/-! ## The mix-side steps -/

/-- A step's output and whether it saturated (R49). -/
structure Stepped where
  value : Int
  saturated : Bool
  deriving DecidableEq, Repr

/-- A step's exact result, saturated (00_scope "Arithmetic terms"). -/
def stepped (x : Int) : Stepped := ⟨saturate x, saturate x ≠ x⟩

/-- The polarity step (R42). -/
def polarityStep (p : Polarity) (x : Int) : Stepped :=
  match p with
  | .normal => ⟨x, false⟩
  | .invert => stepped (-x)

/-- The delay step's output: the oldest cell, or the input of an empty line (R43). -/
def delayOut (line : List Int) (x : Int) : Int := line.headD x

/-- The delay line after a row (R43). -/
def delayLine (line : List Int) (x : Int) : List Int :=
  match line with
  | [] => []
  | _ :: cells => cells ++ [x]

/-- The trim step (R46). -/
def trimStep (gain : Nat) (x : Int) : Stepped := stepped (roundDiv (x * gain) (2 ^ 20))

/-- The DC filter's exact sum (R47). -/
def filterSum (s : Nat) (f : FilterState) (x : Int) : Int :=
  x - f.xPrev + f.yPrev - f.yPrev / (2 ^ s : Nat)

/-- The DC filter step (R47). -/
def filterStep (filter : Option Nat) (f : FilterState) (x : Int) : Stepped :=
  match filter with
  | none => ⟨x, false⟩
  | some s => stepped (filterSum s f x)

/-- The DC filter's state after a row (R47). -/
def filterAfter (filter : Option Nat) (f : FilterState) (x : Int) : FilterState :=
  match filter with
  | none => f
  | some s => ⟨x, saturate (filterSum s f x)⟩

/-! ## A track's row -/

/-- What the Track Conditioner and the Source Monitor keep for one track, gathered for a row. -/
structure TrackParts where
  route : Route
  conceal : Conceal
  line : List Int
  filter : FilterState
  mark : RouteMark
  saturations : Nat
  deriving DecidableEq, Repr

/-- A track's state by number. -/
def State.track (s : State) (t : Nat) : TrackParts :=
  { route := s.tracks.routes.getD t {}
    conceal := s.sources.conceal.getD t {}
    line := s.tracks.lines.getD t []
    filter := s.tracks.filters.getD t {}
    mark := s.tracks.routeMarks.getD t {}
    saturations := s.tracks.saturations.getD t 0 }

/-- What an enabled track gives in a row: raw sample, concealed mark, conditioned sample. -/
structure TrackSample where
  raw : Int
  concealed : Bool
  conditioned : Int
  deriving DecidableEq, Repr

/-- One row of an enabled track (R39, R41, R49). -/
def TrackParts.row (p : TrackParts) (row : InputRow) : TrackParts × TrackSample :=
  let raw := p.conceal.raw p.route row
  let a := polarityStep p.route.polarity raw.sample
  let b := delayOut p.line a.value
  let c := trimStep p.route.trim b
  let d := filterStep p.route.filter p.filter c.value
  ({ p with
      conceal := raw.after
      line := delayLine p.line a.value
      filter := filterAfter p.route.filter p.filter c.value
      mark := ⟨p.mark.marked || p.mark.firstRowDue, false⟩
      saturations := if a.saturated || c.saturated || d.saturated then countUp p.saturations 1
        else p.saturations },
    ⟨raw.sample, raw.concealed, d.value⟩)

/-- One row of a track, disabled ones unchanged (R39). -/
def TrackParts.rowIf (p : TrackParts) (row : InputRow) : TrackParts × Option TrackSample :=
  if p.route.enabled then
    let (q, x) := p.row row
    (q, some x)
  else (p, none)

/-- The parts of all tracks put back. -/
def State.setTracks (s : State) (ps : List TrackParts) : State :=
  { s with
    tracks := { s.tracks with
      routes := ps.map TrackParts.route
      lines := ps.map TrackParts.line
      filters := ps.map TrackParts.filter
      routeMarks := ps.map TrackParts.mark
      saturations := ps.map TrackParts.saturations }
    sources := { s.sources with conceal := ps.map TrackParts.conceal } }

/-- The parts of all tracks. -/
def State.allTracks (s : State) : List TrackParts := (List.range Config.tracks).map s.track

/-- The Track Conditioner's row: every track's parts after it, and what each gives (R39). -/
def State.trackRow (s : State) (row : InputRow) : State × List (Option TrackSample) :=
  let out := s.allTracks.map fun p => p.rowIf row
  (s.setTracks (out.map Prod.fst), out.map Prod.snd)

/-! ## TRACK_SET -/

/-- One carried field written into an entry, or none for a value outside its range (R37, R50 test 2,
R197). -/
def Route.write (r : Route) (i : Nat) (w : Word) : Option Route :=
  let v := w.toNat
  match i with
  | 0 => if v ≤ 1 then some { r with enabled := v = 1 } else none
  | 1 => if v ≤ Config.generatorSource then some { r with source := v } else none
  | 2 => if v < Config.slots then some { r with slot := v } else none
  | 3 => if v ≤ 1 then some { r with archive := v = 1 } else none
  | 4 => if v ≤ 1 then some { r with mode := if v = 0 then .mute else .fade } else none
  | 5 => if v ≤ 1 then some { r with polarity := if v = 0 then .normal else .invert } else none
  | 6 => if v ≤ Config.delayMax then some { r with delay := v } else none
  | 7 => if v ≤ Config.trimMax then some { r with trim := v } else none
  | 8 =>
    if v = 0 then some { r with filter := none }
    else if 8 ≤ v ∧ v ≤ 11 then some { r with filter := some v }
    else none
  | 9 => if v ≤ 3 then some { r with maxOrder := v } else none
  | _ => none

/-- Every carried field written, one operand word each, lowest field first (R50 test 2, R197). -/
def Route.writeAll (r : Route) : List Nat → List Word → Option Route
  | i :: is, w :: ws => (r.write i w).bind fun r => r.writeAll is ws
  | [], _ => some r
  | _ :: _, [] => none

/-- The pool count with one entry replaced (R44). -/
def poolWith (routes : List Route) (t : Nat) (r : Route) : Nat := poolCount (routes.set t r)

/-- A change that R51 forbids while a take is live. -/
def State.forbidden (s : State) (t : Nat) (old new : Route) : Bool :=
  match s.liveTake with
  | none => false
  | some k =>
    (k.trackSet.contains t && old.enabled && !new.enabled) || (old.archive ≠ new.archive)

/-- Whether the source or slot of a track that is enabled before and after changes (R52; log 17). -/
def rerouted (old new : Route) : Bool :=
  old.enabled && new.enabled && (old.source ≠ new.source || old.slot ≠ new.slot)

/-- A track's parts after an accepted TRACK_SET (R30, R44, R45, R48, R52). R30 speaks of a new source or slot of
an enabled track: a request that disables the track and changes them keeps the concealment state (DESIGN
CHOICE, log 39). -/
def TrackParts.reconfigure (p : TrackParts) (new : Route) : TrackParts :=
  let old := p.route
  let enables := !old.enabled && new.enabled
  { p with
    route := new
    conceal := if enables || rerouted old new then {} else p.conceal
    line := if !new.enabled then []
      else if enables || old.delay ≠ new.delay then List.replicate new.delay 0
      else p.line
    filter := if enables || old.filter ≠ new.filter then {} else p.filter
    mark := ⟨p.mark.marked, new.enabled && (p.mark.firstRowDue || rerouted old new)⟩ }

/-- One track's parts put back. -/
def State.setTrack (s : State) (t : Nat) (p : TrackParts) : State :=
  { s with
    tracks := { s.tracks with
      routes := s.tracks.routes.set t p.route
      lines := s.tracks.lines.set t p.line
      filters := s.tracks.filters.set t p.filter
      routeMarks := s.tracks.routeMarks.set t p.mark
      saturations := s.tracks.saturations.set t p.saturations }
    sources := { s.sources with conceal := s.sources.conceal.set t p.conceal } }

/-- TRACK_SET at the Track Conditioner (R50). -/
def serveTrackSet (e : Entry) (s : State) : State :=
  let t := field (e.op 0) 31 16
  if e.short || decide (Config.tracks ≤ t) then s.refuse e .badOperand
  else
    let p := s.track t
    match p.route.writeAll e.trackFields (e.operands.drop 1) with
    | none => s.refuse e .badOperand
    | some new =>
      if e.trackFields = [] then s.done e []
      else if s.rate = .k96 && decide (Config.tracksAt96 ≤ t) && new.enabled then
        s.refuse e .badOperand
      else if s.forbidden t p.route new then s.refuse e .wrongState
      else if Config.poolCells < poolWith s.tracks.routes t new then s.refuse e .noSpace
      else (s.setTrack t (p.reconfigure new)).done e []

/-- TRACK_SET (R50 to R52). -/
def execTrackSet (s : State) : Host.Outcome State Fault Refusal := .next (s.serve .trackSet serveTrackSet)

/-! ## TRIM_CORRECT and TRACK_READ -/

/-- The corrected gain (R53). -/
def correctedTrim (g : Nat) (e : Int) : Nat :=
  (clampInt 0 Config.trimMax (roundDiv (g * 1000000) (1000000 + e).toNat)).toNat

/-- TRIM_CORRECT at the Track Conditioner (R53). -/
def serveTrimCorrect (e : Entry) (s : State) : State :=
  let t := field (e.op 0) 31 16
  let err := (e.op 1).toInt
  if e.short || decide (Config.tracks ≤ t) || decide (err < -500000) || decide (1000000 < err) then
    s.refuse e .badOperand
  else
    let g := correctedTrim (s.track t).route.trim err
    ({ s with tracks := { s.tracks with
      routes := s.tracks.routes.modify t fun r => { r with trim := g } } }).done e [natWord g]

/-- TRIM_CORRECT (R53). -/
def execTrimCorrect (s : State) : Host.Outcome State Fault Refusal :=
  .next (s.serve .trimCorrect serveTrimCorrect)

/-- A route entry's fields by their TRACK_SET codes (R54, R197). -/
def Route.words (r : Route) : List Word :=
  [boolWord r.enabled, natWord r.source, natWord r.slot, boolWord r.archive,
    natWord (match r.mode with | .mute => 0 | .fade => 1),
    natWord (match r.polarity with | .normal => 0 | .invert => 1),
    natWord r.delay, natWord r.trim, natWord (r.filter.getD 0), natWord r.maxOrder]

/-- A track's record in TRACK_READ's result (R54). -/
def State.trackWords (s : State) (t : Nat) : List Word :=
  (s.track t).route.words
    ++ [boolWord (s.liveSet.contains t), natWord (s.track t).saturations]

/-- A count of each index of a range set to 0. -/
def clearRange (ns : List Nat) (first count : Nat) : List Nat :=
  ns.zipIdx.map fun x => if decide (first ≤ x.2) && decide (x.2 < first + count) then 0 else x.1

/-- TRACK_READ at the Track Conditioner (R54). -/
def serveTrackRead (e : Entry) (s : State) : State :=
  let first := field (e.op 0) 31 16
  let count := field (e.op 0) 15 8
  if e.short || decide (Config.tracks ≤ first) || count = 0 || decide (4 < count)
      || decide (Config.tracks < first + count) then s.refuse e .badOperand
  else
    let result := natWord (poolCount s.tracks.routes)
      :: (List.range' first count).flatMap s.trackWords
    let s := if bitSet (e.op 0) 0 then
        { s with tracks := { s.tracks with
          saturations := clearRange s.tracks.saturations first count } }
      else s
    s.done e result

/-- TRACK_READ (R54). -/
def execTrackRead (s : State) : Host.Outcome State Fault Refusal :=
  .next (s.serve .trackRead serveTrackRead)

end Sys2Proof.Machine
end

