-- ==== Sys2Proof/Machine/Mix.lean ====
section
/-!
DEFINITION. The Mix Engine (08_the_stream_mix.md, R145 to R158): coefficient banks, the swap and the
glide, bus sums, MIX_SET, MIX_TAKE and MIX_READ.
-/

namespace Sys2Proof.Machine

/-! ## The swap and the glide -/

/-- What a mix boundary does to the banks and the glide (R150). -/
def MixEngine.boundary (m : MixEngine) : MixEngine :=
  if m.swapArmed then
    { m with glideStart := some m.active, active := m.pendingBank, swapArmed := false }
  else { m with glideStart := none }

/-- The coefficient in use in glide row `n` (R151). -/
def glideValue (old new : Int) (n : Nat) : Int := old + ((new - old) * (n + 1)).tdiv 32

/-- The coefficient in use at a place of the bank, in glide row `n` (R146, R151). -/
def MixEngine.inUse (m : MixEngine) (place n : Nat) : Int :=
  match m.glideStart with
  | none => m.active.getD place 0
  | some start => glideValue (start.getD place 0) (m.active.getD place 0) n

/-! ## The bus sum -/

/-- The accumulation of a bus over the tracks from number `t` on (R153). -/
def MixEngine.accumulate (m : MixEngine) (bus n : Nat) : Nat → List (Option TrackSample) → Int
  | _, [] => 0
  | t, none :: xs => m.accumulate bus n (t + 1) xs
  | t, some x :: xs =>
    x.conditioned * m.inUse (Config.buses * t + bus) n + m.accumulate bus n (t + 1) xs

/-- The bus sample before saturation (R154). -/
def MixEngine.busExact (m : MixEngine) (xs : List (Option TrackSample)) (bus n : Nat) : Int :=
  roundDiv (m.accumulate bus n 0 xs) (2 ^ 22)

/-- One row of the Mix Engine at row counter position `p` (R153 to R155): the eight bus samples, and
the clip counts after it. -/
def MixEngine.row (m : MixEngine) (xs : List (Option TrackSample)) (p : Nat) : MixEngine × List Int :=
  let exact := (List.range Config.buses).map fun b => m.busExact xs b (p % Config.mixRows)
  ({ m with
      clips := (m.clips.zip exact).map fun c => if saturate c.2 = c.2 then c.1 else countUp c.1 1
      rowGlided := m.glideStart.isSome },
    exact.map saturate)

/-! ## Requests -/

/-- The place of a track and a bus in a bank (R145). -/
def mixPlace (track bus : Nat) : Nat := Config.buses * track + bus

/-- A run of a bank replaced from a place on. -/
def writeRun (bank : List Int) (place : Nat) (vs : List Int) : List Int :=
  bank.take place ++ vs ++ bank.drop (place + vs.length)

/-- The track, bus and count of MIX_SET and MIX_READ (R197). -/
def Entry.mixTrack (e : Entry) : Nat := field (e.op 0) 31 16
def Entry.mixBus (e : Entry) : Nat := field (e.op 0) 15 8
def Entry.mixCount (e : Entry) : Nat := field (e.op 0) 7 0

/-- Whether the run a request names is refused (R147 tests 1, 2 and 4; R157). -/
def Entry.badRun (e : Entry) : Bool :=
  decide (Config.tracks ≤ e.mixTrack) || decide (Config.buses ≤ e.mixBus)
    || e.mixCount = 0 || decide (Config.runMax < e.mixCount)
    || decide (Config.coefficients < mixPlace e.mixTrack e.mixBus + e.mixCount)

/-- MIX_SET at the Mix Engine (R147). -/
def serveMixSet (e : Entry) (s : State) : State :=
  let vs := (e.operands.drop 1).map BitVec.toInt
  if e.short || e.badRun || vs.length ≠ e.mixCount then s.refuse e .badOperand
  else
    ({ s with mix := { s.mix with
      pendingBank := writeRun s.mix.pendingBank (mixPlace e.mixTrack e.mixBus) (vs.map saturate) } }).done
      e [natWord (vs.filter fun v => saturate v ≠ v).length]

/-- MIX_SET (R147, R148). -/
def execMixSet (s : State) : Host.Outcome State Fault Refusal := .next (s.serve .mixSet serveMixSet)

/-- MIX_TAKE at the Mix Engine (R149). -/
def serveMixTake (e : Entry) (s : State) : State :=
  ({ s with mix := { s.mix with swapArmed := true } }).done e []

/-- MIX_TAKE (R149). -/
def execMixTake (s : State) : Host.Outcome State Fault Refusal := .next (s.serve .mixTake serveMixTake)

/-- A glide runs, no row of it has been formed yet, and the last row formed lay in no glide: R157 gives a
running glide a number from 0 to 31 and does not say which (log 9). -/
def State.glideUnformed (s : State) : Bool :=
  s.mix.glideStart.isSome && s.sources.rowCounter % Config.mixRows = 0 && !s.sources.boundaryDue
    && !s.mix.rowGlided

/-- The glide row of the last row formed, 0 to 31, which is 31 at the start of a glide that follows another;
a free number of that range where the last row lay in no glide; none without a glide (R157, log 9). -/
def State.glideRow (s : State) : Word :=
  if s.glideUnformed then natWord ((Config.freeWord s.freeCount).toNat % Config.mixRows)
  else if s.mix.glideStart.isSome then natWord ((s.sources.rowCounter + 31) % Config.mixRows)
  else Word.ones

/-- MIX_READ at the Mix Engine (R157). -/
def serveMixRead (e : Entry) (s : State) : State :=
  let bank := field (e.op 1) 3 0
  if e.short || (bank ≠ 1 && bank ≠ 2) || e.badRun then s.refuse e .badOperand
  else
    let cs := if bank = 1 then s.mix.active else s.mix.pendingBank
    let run := (cs.drop (mixPlace e.mixTrack e.mixBus)).take e.mixCount
    let result := boolWord s.mix.swapArmed :: s.glideRow :: s.mix.clips.map natWord ++ run.map intWord
    let s := { s with freeCount := s.freeCount + s.glideUnformed.toNat }
    let s := if bitSet (e.op 1) 8 then
        { s with mix := { s.mix with clips := List.replicate Config.buses 0 } }
      else s
    s.done e result

/-- MIX_READ (R157). -/
def execMixRead (s : State) : Host.Outcome State Fault Refusal := .next (s.serve .mixRead serveMixRead)

end Sys2Proof.Machine
end

