-- ==== Sys2Proof/Machine/Stream.lean ====
section
/-!
DEFINITION. The Stream Coder (09_stream_coding.md, R159 to R168): companding, the STREAM frame, the
work of a mix boundary, STREAM_SET and STREAM_READ.
-/

namespace Sys2Proof.Machine

/-! ## Companding -/

/-- The peak of a block (R162). -/
def blockPeak (ys : List Int) : Nat := (ys.map Int.natAbs).foldl max 0

/-- The smallest shift from `s` on for which a peak fits, among `n` candidates; the last one where
none does (R162). -/
def shiftFrom (m p : Nat) : Nat → Nat → Nat
  | 0, s => s
  | n + 1, s => if p < 2 ^ (m - 1 + s) then s else shiftFrom m p n (s + 1)

/-- The shift of a block (R162). -/
def blockShift (m p : Nat) : Nat := shiftFrom m p (24 - m) 0

/-- The mantissa of a sample (R163). -/
def mantissa (m s : Nat) (y : Int) : Int :=
  clampInt (-(2 ^ (m - 1) : Nat)) ((2 ^ (m - 1) : Nat) - 1)
    (if s = 0 then y else (y + (2 ^ (s - 1) : Nat)) / (2 ^ s : Nat))

/-- The mantissa words of a block (R164). -/
def mantissaWords (m : Nat) (ys : List Int) : List Word :=
  packBits (ys.flatMap fun y => intBits m (mantissa m (blockShift m (blockPeak ys)) y))

/-- The mantissa width of a mode in force (R161). -/
def BusMode.width : BusMode → Option Nat
  | .disabled => none
  | .m16 => some 16
  | .m20 => some 20

/-- The 32 samples of a block buffer. -/
def StreamBus.samples (b : StreamBus) : List Int := b.buffer.map (·.getD 0)

/-- The STREAM frame of a bus (R164, R196). -/
def StreamBus.frame (b : StreamBus) (unit bus m : Nat) : Frame :=
  makeFrame unit kindStream bus
    (natWord b.seq
      :: natWord (b.gap.toNat * 2 ^ 16 + m * 2 ^ 8 + blockShift m (blockPeak b.samples))
      :: mantissaWords m b.samples)

/-! ## The work of a mix boundary -/

/-- A bus after its frame was built and the offer's outcome is known (R164, R165). -/
def StreamBus.offered (b : StreamBus) (accepted : Bool) : StreamBus :=
  { b with
    seq := (b.seq + 1) % 2 ^ 32
    gap := !accepted
    drops := if accepted then b.drops else countUp b.drops 1 }

/-- A bus codes its block and offers its frame (R161 step 1). -/
def StreamBus.codeBlock (b : StreamBus) (unit bus : Nat) (l : LinkUnit) : StreamBus × LinkUnit :=
  match b.mode.width with
  | none => (b, l)
  | some m =>
    let (l, accepted) := l.offerStream (b.frame unit bus m)
    (b.offered accepted, l)

/-- The buses from a number on code their blocks, in ascending order (R161 step 1). R165 allows a frame
to leave the queue between two offers of one boundary: all of them are made in the one command of the
boundary, with no end of a transmission in between (DESIGN CHOICE, log 31). -/
def codeBuses (unit : Nat) : Nat → List StreamBus → LinkUnit → List StreamBus × LinkUnit
  | _, [], l => ([], l)
  | n, b :: bs, l =>
    let (b, l) := b.codeBlock unit n l
    let (bs, l) := codeBuses unit (n + 1) bs l
    (b :: bs, l)

/-- The mode in force takes the next mode, and the block buffer is emptied (R161 steps 2 and 3). -/
def StreamBus.takeMode (b : StreamBus) : StreamBus :=
  { b with
    mode := b.next
    seq := if b.mode = .disabled && b.next ≠ .disabled then 0 else b.seq
    gap := if (b.mode = .disabled) ≠ (b.next = .disabled) then false else b.gap
    buffer := List.replicate Config.mixRows none }

/-- The Stream Coder's and the Mix Engine's work at a mix boundary (R150, R156, R161). -/
def State.mixWork (s : State) : State :=
  let (bs, l) := codeBuses s.unit 0 s.stream s.link
  { s with link := l, stream := bs.map StreamBus.takeMode, mix := s.mix.boundary }

/-- The bus samples of a row stored at glide row `n` (R160). -/
def storeBusRow (bs : List StreamBus) (ys : List Int) (n : Nat) : List StreamBus :=
  (bs.zip ys).map fun x => { x.1 with buffer := x.1.buffer.set n (some x.2) }

/-! ## Requests -/

/-- The next mode a STREAM_SET code gives (R167, R197): none for an unknown code. -/
def BusMode.take (old : BusMode) : Nat → Option BusMode
  | 0 => some old
  | 1 => some .disabled
  | 2 => some .m16
  | 3 => some .m20
  | _ => none

/-- The code of a bus mode (R197). -/
def BusMode.code : BusMode → Nat
  | .disabled => 1
  | .m16 => 2
  | .m20 => 3

/-- The next modes after a STREAM_SET, or none for an unknown code (R167). -/
def nextModes (w : Word) : Nat → List StreamBus → Option (List StreamBus)
  | _, [] => some []
  | n, b :: bs =>
    match b.next.take (field w (4 * n + 3) (4 * n)), nextModes w (n + 1) bs with
    | some m, some bs => some ({ b with next := m } :: bs)
    | _, _ => none

/-- STREAM_SET at the Stream Coder (R167). -/
def serveStreamSet (e : Entry) (s : State) : State :=
  if e.short then s.refuse e .badOperand
  else match nextModes (e.op 0) 0 s.stream with
    | none => s.refuse e .badOperand
    | some bs => ({ s with stream := bs }).done e (bs.map fun (b : StreamBus) => natWord b.next.code)

/-- STREAM_SET (R167). -/
def execStreamSet (s : State) : Host.Outcome State Fault Refusal :=
  .next (s.serve .streamSet serveStreamSet)

/-- A bus's part of STREAM_READ's result (R168). -/
def StreamBus.words (b : StreamBus) : List Word :=
  [natWord b.mode.code, natWord b.next.code, natWord b.seq, boolWord b.gap, natWord b.drops]

/-- STREAM_READ at the Stream Coder (R168). -/
def serveStreamRead (e : Entry) (s : State) : State := s.done e (s.stream.flatMap StreamBus.words)

/-- STREAM_READ (R168). -/
def execStreamRead (s : State) : Host.Outcome State Fault Refusal :=
  .next (s.serve .streamRead serveStreamRead)

end Sys2Proof.Machine
end

