-- ==== Sys2Proof/Machine/Meter.lean ====
section
/-!
DEFINITION. The Meter Unit (10_metering.md, R169 to R179): measuring a row, the window end,
METER_CONFIG and METER_READ.
-/

namespace Sys2Proof.Machine

/-! ## Measuring a row -/

/-- A level meter after a value (R171). -/
def LevelMeter.measure (m : LevelMeter) (v : Int) : LevelMeter :=
  { m with runPeak := max m.runPeak v.natAbs, runSum := m.runSum + v.natAbs * v.natAbs }

/-- The value each meter measures in a row: the tracks', then the buses' (R171). -/
def meterValues (xs : List (Option TrackSample)) (ys : List Int) : List Int :=
  xs.map (fun x => (x.map TrackSample.conditioned).getD 0) ++ ys

/-- Whether a raw sample meets the over level (R57, R174). -/
def meetsOver (level : Nat) (raw : Int) : Bool := decide (level ≤ raw.natAbs)

/-- A track meter after its over test (R174). -/
def TrackMeter.overTest (m : TrackMeter) (level : Nat) : Option TrackSample → TrackMeter
  | none => m
  | some x =>
    if meetsOver level x.raw then { m with overs := countUp m.overs 1, overMark := true } else m

/-- The Meter Unit's row (R170, R171, R174). -/
def MeterUnit.row (m : MeterUnit) (xs : List (Option TrackSample)) (ys : List Int) : MeterUnit :=
  { m with
    levels := (m.levels.zip (meterValues xs ys)).map fun x => x.1.measure x.2
    tracks := (m.tracks.zip xs).map fun x => x.1.overTest m.overLevel x.2
    windowCounter := m.windowCounter + 1 }

/-! ## The window end -/

/-- A ring with a mean square appended (R173). -/
def ringPush (ring : List Nat) (v : Nat) : List Nat :=
  if Config.ringCap ≤ ring.length then ring.tail ++ [v] else ring ++ [v]

/-- The long RMS over a ring (R173). -/
def longRmsOf (ring : List Nat) : Nat := isqrt (ring.sum / ring.length)

/-- What a window end publishes in a level meter (R172, R173). -/
def LevelMeter.publish (m : LevelMeter) (w : Nat) : LevelMeter :=
  let ms := m.runSum / w
  { runPeak := 0, runSum := 0, peak := m.runPeak, meanSquare := ms, rms := isqrt ms
    ring := ringPush m.ring ms, longRms := longRmsOf (ringPush m.ring ms) }

/-- A track meter's silence after a window with an RMS (R175); its over mark is cleared (R176). -/
def TrackMeter.settle (m : TrackMeter) (rms threshold n : Nat) : TrackMeter :=
  if rms < threshold then
    let quiet := min (m.quiet + 1) 255
    { m with overMark := false, quiet := quiet, silent := m.silent || decide (n ≤ quiet) }
  else { m with overMark := false, quiet := 0, silent := false }

/-- The work of a window end (R172 to R176). -/
def MeterUnit.windowEnd (m : MeterUnit) (w : Nat) : MeterUnit :=
  let levels := m.levels.map fun x => x.publish w
  { m with
    levels := levels
    tracks := (m.tracks.zip levels).map fun x => x.1.settle x.2.rms m.silenceThreshold m.silenceWindows
    clipAlert := m.tracks.any TrackMeter.overMark
    windowCounter := 0 }

/-- Whether a window end is due (R170; log 2). -/
def State.windowDue (s : State) : Bool := decide (windowLength s.rate ≤ s.meter.windowCounter)

/-- The window end, if it is due. -/
def State.takeWindowEnd (s : State) : State :=
  if s.windowDue then { s with meter := s.meter.windowEnd (windowLength s.rate) } else s

/-- WINDOW_END (R170, R172 to R176). -/
def execWindowEnd (s : State) : Host.Outcome State Fault Refusal := .next s.takeWindowEnd

/-! ## Requests -/

/-- A setting's value after a code and value word: none for an unknown code (R177, R197). -/
def settingOf (w : Word) (old lo hi : Nat) : Option Nat :=
  match field w 31 30 with
  | 0 => some old
  | 1 => some (clampNat lo hi (field w 29 0))
  | _ => none

/-- METER_CONFIG at the Meter Unit (R177). -/
def serveMeterConfig (e : Entry) (s : State) : State :=
  let m := s.meter
  if e.short then s.refuse e .badOperand
  else match settingOf (e.op 0) m.overLevel 1 8388608, settingOf (e.op 1) m.silenceThreshold 0 8388607,
      settingOf (e.op 2) m.silenceWindows 1 255 with
    | some o, some t, some n =>
      ({ s with meter := { m with overLevel := o, silenceThreshold := t, silenceWindows := n } }).done e
        [natWord o, natWord t, natWord n]
    | _, _, _ => s.refuse e .badOperand

/-- METER_CONFIG (R177). -/
def execMeterConfig (s : State) : Host.Outcome State Fault Refusal :=
  .next (s.serve .meterConfig serveMeterConfig)

/-- The number of meters (R169). -/
def meters : Nat := Config.tracks + Config.buses

/-- What METER_READ gives of a meter past its levels: a track meter's over count and silence state, or for
a bus meter, in the place of each of the two, a mark word that it is not kept. R178 speaks of one mark in
their place and R197 of a mark for a value: one word for each is DESIGN CHOICE (log 32). -/
def MeterUnit.trackWords (m : MeterUnit) (n : Nat) : List Word :=
  if n < Config.tracks then
    [natWord (m.tracks.getD n {}).overs, boolWord (m.tracks.getD n {}).silent]
  else [Word.ones, Word.ones]

/-- A meter's record in METER_READ's result (R178). -/
def MeterUnit.words (m : MeterUnit) (n : Nat) : List Word :=
  let x := m.levels.getD n {}
  [natWord x.peak, natWord x.rms, natWord x.longRms] ++ m.trackWords n

/-- The over counts of a range of track meters cleared (R178). -/
def clearOvers (ms : List TrackMeter) (first count : Nat) : List TrackMeter :=
  ms.zipIdx.map fun x =>
    if decide (first ≤ x.2) && decide (x.2 < first + count) then { x.1 with overs := 0 } else x.1

/-- METER_READ at the Meter Unit (R178). -/
def serveMeterRead (e : Entry) (s : State) : State :=
  let first := field (e.op 0) 31 16
  let count := field (e.op 0) 15 8
  if e.short || decide (meters ≤ first) || count = 0 || decide (8 < count)
      || decide (meters < first + count) then s.refuse e .badOperand
  else
    let result := natWord (windowLength s.rate) :: natWord s.meter.windowCounter
      :: (List.range' first count).flatMap s.meter.words
    let s := if bitSet (e.op 0) 0 then
        { s with meter := { s.meter with tracks := clearOvers s.meter.tracks first count } }
      else s
    s.done e result

/-- METER_READ (R178). -/
def execMeterRead (s : State) : Host.Outcome State Fault Refusal :=
  .next (s.serve .meterRead serveMeterRead)

end Sys2Proof.Machine
end

