-- ==== Sys2Proof/Machine/Catalog.lean ====
section
/-!
DEFINITION. The catalog (05_takes_and_the_catalog.md, R96 to R99; layouts R199, R200): images,
attempts, and what the end of a catalog write does to everyone that waits on it.
-/

namespace Sys2Proof.Machine

/-! ## Take record slots -/

/-- The state code of a slot (R199). -/
def TakeState.code : TakeState → Nat
  | .opened => 0
  | .paused => 1
  | .closing => 2
  | .closed => 3
  | .interrupted => 4

/-- An unknown state code is loaded as INTERRUPTED (R200). -/
def TakeState.ofCode : Nat → TakeState
  | 0 => .opened
  | 1 => .paused
  | 2 => .closing
  | 3 => .closed
  | _ => .interrupted

/-- The rate code (R197, R199). -/
def Rate.code : Rate → Nat
  | .k48 => 0
  | .k96 => 1

/-- Four bytes in a word, the first in bits 31 to 24. -/
def byteWord (a b c d : Nat) : Word := natWord (a * 2 ^ 24 + b * 2 ^ 16 + c * 2 ^ 8 + d)

/-- Character codes four to a word, in `n` words (R200). -/
def labelWords : Nat → List Nat → List Word
  | 0, _ => []
  | n + 1, cs =>
    byteWord (cs.getD 0 0) (cs.getD 1 0) (cs.getD 2 0) (cs.getD 3 0) :: labelWords n (cs.drop 4)

/-- The character codes of words, four to a word. -/
def wordCodes : List Word → List Nat
  | [] => []
  | w :: ws => field w 31 24 :: field w 23 16 :: field w 15 8 :: field w 7 0 :: wordCodes ws

/-- One word of the track set: track 32k + i at bit i (R199). -/
def trackWord (set : List Nat) (k : Nat) : Word :=
  natWord (((List.range 32).map fun i => if set.contains (32 * k + i) then 2 ^ i else 0).sum)

/-- The pause list in `n` pairs, every unused pair two words of 0 (R200). -/
def pauseWords : Nat → List Interval → List Word
  | 0, _ => []
  | n + 1, [] => 0 :: 0 :: pauseWords n []
  | n + 1, i :: is => natWord i.start :: natWord (i.stop.getD 0) :: pauseWords n is

/-- Slot words 0 to 3, which TAKE_LIST's summaries carry too (R197, R199). -/
def TakeRecord.summaryWords (t : TakeRecord) : List Word :=
  [natWord (t.number * 2 ^ 16 + t.lossCount),
    natWord (t.endIndex.isSome.toNat * 2 ^ 30 + t.rate.code * 2 ^ 29 + t.isProtected.toNat * 2 ^ 28
      + t.state.code * 2 ^ 25 + t.pageCount),
    natWord t.packetCount, natWord (t.endIndex.getD 0)]

/-- The 48 words of a take record's slot (R199, R200). -/
def TakeRecord.slotWords (t : TakeRecord) : List Word :=
  t.summaryWords ++ (List.range 4).map (trackWord t.trackSet) ++ labelWords 8 (t.label.getD [])
    ++ pauseWords Config.pauseCap t.pauses

/-- The track numbers a slot's four track set words name. -/
def trackSetOf (w0 w1 w2 w3 : Word) : List Nat :=
  (List.range 128).filter fun t => bitSet ([w0, w1, w2, w3].getD (t / 32) 0) (t % 32)

/-- The label of a slot: the codes before the first 0, absent when there are none (R200). -/
def labelOf (ws : List Word) : Option (List Nat) :=
  match (wordCodes ws).takeWhile (· ≠ 0) with
  | [] => none
  | c :: cs => some (c :: cs)

/-- The pause list of a slot: the pairs before the first pair whose start word is 0 (R200). -/
def pausesOf : List Word → List Interval
  | a :: b :: ws =>
    if a = 0 then [] else ⟨a.toNat, if b = 0 then none else some b.toNat⟩ :: pausesOf ws
  | _ => []

/-- A record loaded from the 48 words of a slot (R81, R199, R200). -/
def TakeRecord.ofSlot (ws : List Word) : TakeRecord :=
  let w := fun i => ws.getD i 0
  { number := field (w 0) 31 16
    lossCount := field (w 0) 15 0
    endIndex := if bitSet (w 1) 30 then some (w 3).toNat else none
    rate := if bitSet (w 1) 29 then .k96 else .k48
    isProtected := bitSet (w 1) 28
    state := TakeState.ofCode (field (w 1) 27 25)
    pageCount := field (w 1) 24 0
    packetCount := (w 2).toNat
    trackSet := trackSetOf (w 4) (w 5) (w 6) (w 7)
    label := labelOf ((ws.drop 8).take 8)
    pauses := pausesOf ((ws.drop 16).take 32)
    begun := true
    firstExtent := none
    deleting := false }

/-! ## Images and attempts -/

/-- The image of a catalog write, from data word 2 on: next take number, take count, the slots of every
record that is not deleting, and words of 0 (R96, R199). -/
def TakeController.image (c : TakeController) : List Word :=
  let kept := c.records.filter fun t => !t.deleting
  fitWords (Config.pageWords - 2)
    (natWord c.nextTake :: natWord kept.length :: (kept.map TakeRecord.slotWords).flatten)

/-- The page an attempt programs (R96; spare words 5 to 15: log 38). -/
def catalogPage (image : List Word) (seq page : Nat) : PageImage :=
  let data := Config.catalogSignature :: natWord seq :: image
  { data := data, spare := spareOf 0 page 0 data }

/-- The Take Controller's record changed. -/
def State.setTakes (s : State) (c : TakeController) : State := { s with takes := c }

/-- An attempt of a catalog write (R97 to R99, log 13). False when the write ends with failure instead:
module 0 does not answer, or the sequence would pass its greatest value. R97 raises the next catalog page
"then" and names no moment: it rises here with the sequence, at the program's submission, also for a
program withdrawn before its grant (DESIGN CHOICE, log 29). -/
def State.catalogAttempt (s : State) (w : CatalogWrite) : State × Bool :=
  let c := s.takes
  let held := s.setTakes { c with write := some w }
  if !s.store.answers 0 then (held, false)
  else if Config.indexMax ≤ c.catSeq then (held, false)
  else if Config.extentPages ≤ c.catNext then (held.submit (.catalogErase (1 - c.catCurrent)), true)
  else
    ((s.setTakes { c with write := some w, catSeq := c.catSeq + 1, catNext := c.catNext + 1 }).submit
      (.catalogProgram ⟨c.catCurrent, c.catNext⟩ (catalogPage w.image (c.catSeq + 1) c.catNext)), true)

/-! ## The end of a write -/

/-- The TAKE_OPEN catalog write failed (R84): the record leaves the table and the first extent is handed
back (a readout that follows the take: log 25). -/
def State.openFailed (s : State) (n : Nat) : State :=
  let s := (s.dropTake n).mapExtents fun x => x.handBack n
  ({ s with store := { s.store with writeState := none } }).completeStoreOp .storeFault []

/-- A TAKE_DELETE's write has ended (R94). -/
def State.deleteEnd (s : State) (n : Nat) (ok : Bool) : State :=
  if ok then ((s.dropTake n).mapExtents fun x => x.discard n).completeStoreOp .done []
  else (s.mapTake n fun t => { t with deleting := false }).completeStoreOp .storeFault []

/-- A STORE_FORMAT's catalog write has ended (R124): MOUNTED on success. -/
def State.formatWritten (s : State) (ok : Bool) : State :=
  let s := { s with store := { s.store with format := none } }
  if ok then ({ s with store := { s.store with state := .mounted } }).completeStoreOp .done []
  else s.completeStoreOp .storeFault []

/-- The mount ends (R121). -/
def State.mountEnd (s : State) : State :=
  let loaded := s.store.mount.any (·.loaded)
  { s with store := { s.store with
      mount := none
      state := if !s.store.anyAnswers then .fault else if loaded then .mounted else .unformatted } }

/-- The outcome of a catalog write reaches the store operation that waits on it (R84, R86, R87, R90,
R93, R94, R124). -/
def State.storeOpWritten (s : State) (ok : Bool) : State :=
  match s.requests.storeOp with
  | none => s
  | some op =>
    match op.kind with
    | .openTake n => if ok then s.setTakes { s.takes with openReady := true } else s.openFailed n
    | .pause | .resume | .close => s.completeStoreOp (if ok then .done else .storeFault) []
    | .protect n former =>
      if ok then s.completeStoreOp .done []
      else (s.mapTake n fun t => { t with isProtected := former }).completeStoreOp .storeFault []
    | .delete n => s.deleteEnd n ok
    | .format => s.formatWritten ok

/-- The outcome of a catalog write reaches one that waits on it (R98). -/
def State.waiterTold (ok : Bool) (s : State) : Waiter → State
  | .storeOperation => s.storeOpWritten ok
  | .exhaustionClose => s
  | .mount => s.mountEnd

/-- The catalog write in flight ends, and its outcome goes to everyone that waits on it (R98). -/
def State.writeOutcome (s : State) (ok : Bool) : State :=
  match s.takes.write with
  | none => s
  | some w => w.waiters.foldl (State.waiterTold ok) (s.setTakes { s.takes with write := none })

/-- A catalog write starts: its image is built and its first attempt made (R97). -/
def State.writeStart (s : State) (ws : List Waiter) : State :=
  let (s', going) := s.catalogAttempt ⟨s.takes.image, 0, ws⟩
  if going then s' else s'.writeOutcome false

/-- A catalog write ends and the waiting one, if any, starts (R97, log 12). -/
def State.writeEnd (s : State) (ok : Bool) : State :=
  let s := s.writeOutcome ok
  match s.takes.waiting with
  | none => s
  | some ws => (s.setTakes { s.takes with waiting := none }).writeStart ws

/-- A catalog write is asked for (R97). -/
def State.askCatalog (s : State) (w : Waiter) : State :=
  match s.takes.write with
  | none => s.writeStart [w]
  | some _ => s.setTakes { s.takes with waiting := some (s.takes.waiting.getD [] ++ [w]) }

/-- An attempt has failed (R98): the write ends with failure after the fourth, or when module 0 does
not answer; otherwise it makes a new attempt. -/
def State.attemptFailed (s : State) : State :=
  match s.takes.write with
  | none => s
  | some w =>
    if Config.catalogAttempts ≤ w.failed + 1 then s.writeEnd false
    else
      let (s', going) := s.catalogAttempt { w with failed := w.failed + 1 }
      if going then s' else s'.writeEnd false

/-- A catalog erase has ended with success (R99): the other extent becomes current at page 0 and the
attempt goes there. -/
def State.catalogErased (s : State) (extent : Nat) : State :=
  match s.takes.write with
  | none => s
  | some w =>
    let s := s.setTakes { s.takes with catCurrent := extent, catNext := 0 }
    let (s', going) := s.catalogAttempt w
    if going then s' else s'.writeEnd false

end Sys2Proof.Machine
end

