-- ==== Sys2Proof/Machine/Staging.lean ====
section
/-!
DEFINITION. From the packet queue to the store (06_the_archive_store.md, R109 to R116): filling and
submitting staging pages, allocation, failure and relocation, STALLED, and the drain of a closing take
(05_takes_and_the_catalog.md, R90).
-/

namespace Sys2Proof.Machine

/-! ## Filling -/

/-- The used words of a staging page (R110). -/
def StagingPage.used (p : StagingPage) : Nat := Config.pageHeader + p.words.length

/-- The first packet offset after words are moved in: that of the first packet start, if the page had
none before (R110). -/
def StagingPage.offsetAfter (p : StagingPage) (moved : List PacketWord) : Nat :=
  if p.firstOffset = 0 then
    match moved.findIdx? (·.first) with
    | some i => p.used + i
    | none => 0
  else p.firstOffset

/-- Words move from the head of the packet queue into a FILLING page until it has 4096 used words or
the queue is empty; a full page becomes WAITING (R110). -/
def StagingPage.fill (p : StagingPage) (q : List PacketWord) : StagingPage × List PacketWord :=
  let n := Config.pageWords - p.used
  let moved := q.take n
  let words := p.words ++ moved
  ({ p with
      words := words
      firstOffset := p.offsetAfter moved
      state := if Config.pageWords ≤ Config.pageHeader + words.length then .waiting else p.state },
    q.drop n)

/-- An EMPTY page starts filling (R110). -/
def StagingPage.start (take seq : Nat) : StagingPage :=
  { state := .filling, take := take, pageSeq := seq }

/-- A FILLING page is flushed when the queue of a CLOSING take is empty (R115). -/
def StagingPage.flush (p : StagingPage) (closing : Bool) (q : List PacketWord) : StagingPage :=
  if closing && q.isEmpty && p.state = .filling then { p with state := .waiting } else p

/-- The packet queue feeds the staging pages (R110, R115). -/
def StoreController.feed (c : StoreController) (ws : WriteState) (take : Nat) (closing : Bool) :
    StoreController :=
  let feedA (p : StagingPage) (ws : WriteState) : StoreController :=
    let (p, q) := p.fill c.queue
    { c with pageA := p.flush closing q, queue := q, writeState := some ws }
  let feedB (p : StagingPage) (ws : WriteState) : StoreController :=
    let (p, q) := p.fill c.queue
    { c with pageB := p.flush closing q, queue := q, writeState := some ws }
  if c.pageA.state = .filling then feedA c.pageA ws
  else if c.pageB.state = .filling then feedB c.pageB ws
  else if c.queue.isEmpty then c
  else if c.pageA.state = .empty then
    feedA (.start take ws.nextStaging) { ws with nextStaging := ws.nextStaging + 1 }
  else if c.pageB.state = .empty then
    feedB (.start take ws.nextStaging) { ws with nextStaging := ws.nextStaging + 1 }
  else c

/-! ## Submitting -/

/-- The 4096 data words of a staging page (R104). -/
def StagingPage.data (p : StagingPage) : List Word :=
  fitWords Config.pageWords
    (natWord p.take :: natWord p.pageSeq :: natWord p.firstOffset :: natWord p.used
      :: p.words.map PacketWord.word)

/-- Whether a WAITING page may be submitted beside the other one (R111). -/
def StagingPage.ready (p other : StagingPage) : Bool :=
  p.state = .waiting && other.state ≠ .programming && other.state ≠ .verifying
    && !(other.state = .waiting && decide (other.pageSeq < p.pageSeq))

/-- The target rule 1 of R111: the next page of the current extent, where that is usable. -/
def StoreController.currentTarget (c : StoreController) (ws : WriteState) : Option PageAddress :=
  match ws.current with
  | some e =>
    if (c.extent e).any (fun x => x.state = .owned) && c.answers e
        && decide (ws.writePage < Config.extentPages)
    then some ⟨e, ws.writePage⟩ else none
  | none => none

/-- The extent sequence of an extent as its entry has it. -/
def StoreController.seqOf (c : StoreController) (e : Nat) : Nat :=
  match c.extent e with
  | some x => (x.owner.map Owner.seq).getD 0
  | none => 0

/-- A staging page goes to its target: its program is submitted (R104, R111). -/
def State.submitPage (s : State) (p : StagingPage) (a : PageAddress) : State :=
  s.submit (.archiveProgram a
    { data := p.data, spare := spareOf p.take p.pageSeq (s.store.seqOf a.extent) p.data })

/-- The lowest extent of the free list becomes OWNED by a take and its current extent (R106, R111);
none when the free list is empty. -/
def State.allocate (s : State) (take first : Nat) (ws : WriteState) : Option (Nat × State) :=
  match s.store.freeList with
  | [] => none
  | e :: _ =>
    let x : Extent := { state := .owned, owner := some ⟨take, s.store.nextSeq take, first⟩ }
    some (e, { s with store := { s.store with
      table := Machine.setExtent s.store.table e x
      writeState := some { ws with current := some e, writePage := 0, stalled := false } } })

/-- The target of a WAITING page (R111): rule 1, or a new extent, whose allocation after a failure is
a relocation (R126); the take becomes STALLED when the free list is empty (R114). -/
def State.target (s : State) (p : StagingPage) (ws : WriteState) : Option (PageAddress × State) :=
  match s.store.currentTarget ws with
  | some a => some (a, { s with store := { s.store with writeState := some { ws with stalled := false } } })
  | none =>
    match s.allocate p.take p.pageSeq ws with
    | some (e, s) => some (⟨e, 0⟩, if p.failedBefore then { s with store :=
        { s.store with relocations := countUp s.store.relocations 1 } } else s)
    | none => none

/-- The take becomes STALLED (R114). -/
def State.stall (s : State) (ws : WriteState) : State :=
  { s with store := { s.store with writeState := some { ws with stalled := true } } }

/-- Staging page A is submitted, if it may be (R111). -/
def State.submitA (s : State) : State :=
  match s.store.writeState with
  | some ws =>
    if s.store.pageA.ready s.store.pageB then
      match s.target s.store.pageA ws with
      | some (a, t) =>
        ({ t with store := { t.store with
          pageA := { t.store.pageA with state := .programming, failedBefore := false } } }).submitPage
          s.store.pageA a
      | none => s.stall ws
    else s
  | none => s

/-- Staging page B is submitted, if it may be (R111). -/
def State.submitB (s : State) : State :=
  match s.store.writeState with
  | some ws =>
    if s.store.pageB.ready s.store.pageA then
      match s.target s.store.pageB ws with
      | some (a, t) =>
        ({ t with store := { t.store with
          pageB := { t.store.pageB with state := .programming, failedBefore := false } } }).submitPage
          s.store.pageB a
      | none => s.stall ws
    else s
  | none => s

/-- One round of feeding and submitting for the live take. -/
def State.stagingRound (s : State) : State :=
  match s.liveTake, s.store.writeState with
  | some t, some ws =>
    ({ s with store := s.store.feed ws t.number (decide (t.state = TakeState.closing)) }).submitA.submitB
  | _, _ => s

/-! ## The drain -/

/-- The packets with at least one word among these, which follow one another (R116): each start, and
the packet whose start lies before them. -/
def packetsIn (ws : List PacketWord) : Nat :=
  (ws.filter (·.first)).length + match ws with
    | w :: _ => if w.first then 0 else 1
    | [] => 0

/-- The words a page would lose to a discard (R116). -/
def StagingPage.discarded (p : StagingPage) : List PacketWord :=
  if p.state = .filling || p.state = .waiting then p.words else []

/-- The page after a discard (R116). -/
def StagingPage.afterDiscard (p : StagingPage) : StagingPage :=
  if p.state = .filling || p.state = .waiting then {} else p

/-- The words a drain that meets STALLED discards, in packet order (R116). -/
def StoreController.discards (c : StoreController) : List PacketWord :=
  (if c.pageB.pageSeq < c.pageA.pageSeq then c.pageB.discarded ++ c.pageA.discarded
    else c.pageA.discarded ++ c.pageB.discarded) ++ c.queue

/-- A drain meets STALLED (R116): queue and unprogrammed pages are discarded, the discarded packets are
added to the take's loss count, and STALLED ends. -/
def State.drainDiscard (s : State) (take : Nat) (ws : WriteState) : State :=
  ({ s with store := { s.store with
    queue := []
    pageA := s.store.pageA.afterDiscard
    pageB := s.store.pageB.afterDiscard
    writeState := some { ws with stalled := false } } }).mapTake take
      fun t => t.addLoss (packetsIn s.store.discards)

/-- Drain complete (R90): the take becomes CLOSED, the Readout Engine is told (R137), and the closing
catalog write is asked for. -/
def State.drainComplete (s : State) (take : Nat) : State :=
  let s := s.mapTake take fun t => { t with state := .closed }
  let s := { s with
    store := { s.store with writeState := none }
    coder := { s.coder with nextIndex := none } }
  let s := s.readoutClosedNotice take
  s.askCatalog (match s.requests.storeOp with
    | some ⟨.close, _⟩ => .storeOperation
    | _ => .exhaustionClose)

/-- The drain's part of each event (R115, R116): a STALLED drain discards, and an empty one is
complete. -/
def State.drain (s : State) : State :=
  match s.liveTake, s.store.writeState with
  | some t, some ws =>
    if t.state = .closing then
      let s := if ws.stalled then s.drainDiscard t.number ws else s
      if s.store.queue.isEmpty && s.store.pageA.state = .empty && s.store.pageB.state = .empty then
        s.drainComplete t.number
      else s
    else s
  | _, _ => s

/-- The store moves on (R110 to R116): two rounds fill and submit all that one event allows, since each
staging page starts at most once; then the drain is looked at. -/
def State.pump (s : State) : State := s.stagingRound.stagingRound.drain

/-! ## Ends of archive operations -/

/-- The staging page that is being programmed or verified takes another state; EMPTY holds nothing. -/
def State.pageMoves (s : State) (now next : StagingState) (failed : Bool) : State :=
  let moved (p : StagingPage) : StagingPage :=
    if next = .empty then {} else { p with state := next, failedBefore := failed }
  if s.store.pageA.state = now then { s with store := { s.store with pageA := moved s.store.pageA } }
  else if s.store.pageB.state = now then
    { s with store := { s.store with pageB := moved s.store.pageB } }
  else s

/-- A page of the live take is programmed and verified (R92, R112). R132 leaves open whether a FOLLOWING
readout's backlog comparison sees the queue before or after words move into the freed page: it comes
before (DESIGN CHOICE, log 30). -/
def State.pageVerified (s : State) (now : StagingState) : State :=
  let s := match s.liveTake with
    | some t => s.mapTake t.number fun t => { t with pageCount := min (t.pageCount + 1) Config.pageCountMax }
    | none => s
  (s.pageMoves now .empty false).readoutVerifyNotice.pump

/-- The write page rises when an archive program ends, whatever its outcome (R111). -/
def State.raiseWritePage (s : State) (e : Nat) : State :=
  match s.store.writeState with
  | some ws =>
    if ws.current = some e then
      { s with store := { s.store with writeState := some { ws with writePage := ws.writePage + 1 } } }
    else s
  | none => s

/-- An extent becomes BAD, keeping its owner fields (R105, R113). -/
def State.extentBad (s : State) (e : Nat) (keepOwner : Bool) : State :=
  s.setExtent e { state := .bad
                  owner := if keepOwner then (s.store.extent e).bind Extent.owner else none }

/-- A failure of a page's program or verify (R113): the target extent becomes BAD, a bad-mark write is
submitted, and the page returns to WAITING and is submitted again. -/
def State.pageFailed (s : State) (e : Nat) (now : StagingState) : State :=
  (((s.extentBad e true).submit (.archiveBadMark e)).pageMoves now .waiting true).pump

end Sys2Proof.Machine
end

