-- ==== Sys2Proof/Machine/ArchiveCoding.lean ====
section
/-!
DEFINITION. The Archive Coder (04_archive_coding.md, R56 to R79): collecting a block, the coding of
one block and its reading back, packets, and the offer to the packet queue.
-/

namespace Sys2Proof.Machine

/-! ## Residuals -/

/-- The prediction of order `k` from the samples before, the latest first (R62). -/
def predict : Nat → List Int → Int
  | 1, p => p.getD 0 0
  | 2, p => 2 * p.getD 0 0 - p.getD 1 0
  | 3, p => 3 * p.getD 0 0 - 3 * p.getD 1 0 + p.getD 2 0
  | _, _ => 0

/-- The residuals of samples that follow others, the latest of those first (R62). -/
def residualsAfter (k : Nat) : List Int → List Int → List Int
  | _, [] => []
  | p, x :: xs => (x - predict k p) :: residualsAfter k (x :: p) xs

/-- The residuals `e_k[k]` to `e_k[255]` of a block (R62). -/
def residuals (k : Nat) (xs : List Int) : List Int := residualsAfter k (xs.take k).reverse (xs.drop k)

/-- The selection cost: the sum of the magnitudes from `n = 3` on (R63). -/
def selectionCost (k : Nat) (xs : List Int) : Nat :=
  (((residuals k xs).drop (3 - k)).map Int.natAbs).sum

/-- The order chosen among 0 to `p`: the lowest of smallest cost (R63). -/
def chooseOrder (xs : List Int) : Nat → Nat
  | 0 => 0
  | p + 1 =>
    if selectionCost (p + 1) xs < selectionCost (chooseOrder xs p) xs then p + 1 else chooseOrder xs p

/-- The map of a residual to a whole number (R64). -/
def zigzag (e : Int) : Nat := if 0 ≤ e then (2 * e).toNat else (-2 * e - 1).toNat

/-! ## Partitions -/

/-- The four partitions of a block's mapped residuals (R65). -/
def partitions (k : Nat) (us : List Nat) : List (List Nat) :=
  let a := 64 - k
  [us.take a, (us.drop a).take 64, (us.drop (a + 64)).take 64, us.drop (a + 128)]

/-- The largest parameter from 0 to `r` that passes the test, or 0 (R66). -/
def riceFrom (c u : Nat) : Nat → Nat
  | 0 => 0
  | r + 1 => if c * 2 ^ (r + 1) ≤ u then r + 1 else riceFrom c u r

/-- A partition's Rice parameter (R66). -/
def riceParameter (us : List Nat) : Nat := riceFrom us.length us.sum 22

/-- A Rice code (R67). -/
def riceCode (r u : Nat) : List Bool := List.replicate (u / 2 ^ r) true ++ false :: natBits r u

/-- The Rice size of a partition (R67). -/
def riceSize (r : Nat) (us : List Nat) : Nat := 5 + (us.map fun u => u / 2 ^ r + 1 + r).sum

/-- Whether a partition is escaped (R68). -/
def escaped (r : Nat) (us : List Nat) : Bool :=
  us.any (fun u => decide (64 < u / 2 ^ r)) || decide (5 + 27 * us.length < riceSize r us)

/-- A partition's bits (R67, R68). -/
def partitionBits (us : List Nat) : List Bool :=
  let r := riceParameter us
  if escaped r us then natBits 5 31 ++ us.flatMap (natBits 27)
  else natBits 5 r ++ us.flatMap (riceCode r)

/-! ## A block -/

/-- A coded block: kind code, order and payload bits (R61, R69). -/
structure Coded where
  kind : Nat
  order : Nat
  bits : List Bool
  deriving DecidableEq, Repr

/-- The bits of a PREDICTED payload (R69). -/
def predictedBits (k : Nat) (xs : List Int) : List Bool :=
  (xs.take k).flatMap (intBits 24)
    ++ (partitions k ((residuals k xs).map zigzag)).flatMap partitionBits

/-- Whether all samples of a block are equal (R61). -/
def allEqual (xs : List Int) : Bool := xs.all (· = xs.headD 0)

/-- The coding of one block with a greatest order (R61 to R69). -/
def codeSamples (xs : List Int) (maxOrder : Nat) : Coded :=
  let k := chooseOrder xs maxOrder
  if allEqual xs then ⟨0, 0, intBits 24 (xs.headD 0)⟩
  else if (predictedBits k xs).length < 6144 then ⟨1, k, predictedBits k xs⟩
  else ⟨2, 0, xs.flatMap (intBits 24)⟩

/-! ## Reading a block back -/

/-- The signed value of an `n`-bit two's complement field. -/
def signedOf (n v : Nat) : Int := if v < 2 ^ (n - 1) then v else (v : Int) - (2 ^ n : Nat)

/-- A field of `n` bits read from the front. -/
def readField (n : Nat) (bs : List Bool) : Nat × List Bool := (bitsNat (bs.take n), bs.drop n)

/-- `count` fields of `n` bits each. -/
def readFields (n : Nat) : Nat → List Bool → List Nat × List Bool
  | 0, bs => ([], bs)
  | c + 1, bs =>
    let (v, bs) := readField n bs
    let (vs, bs) := readFields n c bs
    (v :: vs, bs)

/-- The one-bits before the first zero-bit, and what follows that. -/
def readOnes : List Bool → Nat × List Bool
  | true :: bs => let (q, bs) := readOnes bs; (q + 1, bs)
  | false :: bs => (0, bs)
  | [] => (0, [])

/-- `count` Rice codes with parameter `r` (04 "Reading a packet back", step 2). -/
def readRice (r : Nat) : Nat → List Bool → List Nat × List Bool
  | 0, bs => ([], bs)
  | c + 1, bs =>
    let (q, bs) := readOnes bs
    let (v, bs) := readField r bs
    let (vs, bs) := readRice r c bs
    ((q * 2 ^ r + v) :: vs, bs)

/-- One partition read back (step 2). -/
def readPartition (count : Nat) (bs : List Bool) : List Nat × List Bool :=
  let (r, bs) := readField 5 bs
  if r = 31 then readFields 27 count bs else readRice r count bs

/-- The inverse of `zigzag` (step 3). -/
def unzigzag (u : Nat) : Int := if u % 2 = 0 then (u / 2 : Nat) else -((u + 1) / 2 : Nat)

/-- The samples that give residuals after others, the latest of those first (step 4). -/
def rebuild (k : Nat) : List Int → List Int → List Int
  | _, [] => []
  | p, e :: es => (e + predict k p) :: rebuild k ((e + predict k p) :: p) es

/-- A PREDICTED payload read back. -/
def readPredicted (k : Nat) (bs : List Bool) : List Int :=
  let (ws, bs) := readFields 24 k bs
  let warm := ws.map (signedOf 24)
  let (a, bs) := readPartition (64 - k) bs
  let (b, bs) := readPartition 64 bs
  let (c, bs) := readPartition 64 bs
  let (d, _) := readPartition 64 bs
  warm ++ rebuild k warm.reverse ((a ++ b ++ c ++ d).map unzigzag)

/-- A block read back from kind, order and payload bits (04 "Reading a packet back"). -/
def readBlock (kind order : Nat) (bs : List Bool) : List Int :=
  if kind = 0 then List.replicate Config.archiveRows (signedOf 24 (readField 24 bs).1)
  else if kind = 1 then readPredicted order bs
  else ((readFields 24 Config.archiveRows bs).1).map (signedOf 24)

/-! ## Packets -/

/-- The flags of a packet (R72, R199). -/
structure PacketFlags where
  concealed : Bool
  clipped : Bool
  silent : Bool
  loss : Bool
  sourceChanged : Bool
  deriving DecidableEq, Repr

/-- The flags as header bits (R199). -/
def PacketFlags.bits (f : PacketFlags) : Nat :=
  f.concealed.toNat + 2 * f.clipped.toNat + 4 * f.silent.toNat + 8 * f.loss.toNat
    + 16 * f.sourceChanged.toNat

/-- The three header words of a packet (R71, R199). -/
def packetHeader (track index concealedCount : Nat) (f : PacketFlags) (c : Coded) : List Word :=
  [natWord (0xA5 * 2 ^ 24 + track * 2 ^ 17 + c.kind * 2 ^ 15 + c.order * 2 ^ 13 + f.bits),
    natWord index, natWord (c.bits.length * 2 ^ 16 + concealedCount)]

/-- A packet: its header and payload words (R70, R73). -/
def packetWords (track index concealedCount : Nat) (f : PacketFlags) (c : Coded) : List Word :=
  packetHeader track index concealedCount f c ++ packBits c.bits

/-- The samples a packet gives back from its words alone (04 "Reading a packet back"). -/
def readPacket (ws : List Word) : List Int :=
  readBlock (field (ws.getD 0 0) 16 15) (field (ws.getD 0 0) 14 13)
    ((unpackWords (ws.drop 3)).take (field (ws.getD 2 0) 28 16))

/-! ## Collecting a block -/

/-- A block record after a row of its track (R57). -/
def BlockRecord.row (b : BlockRecord) (p overLevel : Nat) (x : TrackSample) : BlockRecord :=
  { b with
    cells := b.cells.set p (some x.raw)
    concealed := b.concealed + x.concealed.toNat
    clipped := b.clipped || meetsOver overLevel x.raw }

/-- The Archive Coder's row at position `p` for the live take's track set (R57). -/
def ArchiveCoder.row (c : ArchiveCoder) (set : List Nat) (p overLevel : Nat)
    (xs : List (Option TrackSample)) : ArchiveCoder :=
  { c with blocks := (c.blocks.zip xs).zipIdx.map fun y =>
      match y.1.2 with
      | some x => if set.contains y.2 then y.1.1.row p overLevel x else y.1.1
      | none => y.1.1 }

/-- The block state emptied, the loss mark kept (R56, R60). -/
def BlockRecord.empty (b : BlockRecord) : BlockRecord := { loss := b.loss }

/-- The samples of a block record. -/
def BlockRecord.samples (b : BlockRecord) : List Int := b.cells.map (·.getD 0)

/-! ## The offer to the packet queue -/

/-- A track's loss mark set or cleared (R76). -/
def ArchiveCoder.setLoss (c : ArchiveCoder) (t : Nat) (v : Bool) : ArchiveCoder :=
  { c with blocks := c.blocks.modify t fun b => { b with loss := v } }

/-- The words of a packet as the queue holds them, the first one marked (R74, R110). -/
def markPacket : List Word → List PacketWord
  | [] => []
  | w :: ws => ⟨w, true⟩ :: ws.map fun v => ⟨v, false⟩

/-- Whether the packet queue has room (R75). -/
def StoreController.roomFor (c : StoreController) (ws : List Word) : Bool :=
  decide (c.queue.length + ws.length ≤ Config.queueWords)

/-- A packet of a track of the live take is offered to the packet queue (R75, R76, R92); words move on
into staging at the append (R110). -/
def State.offerPacket (s : State) (take t : Nat) (ws : List Word) : State :=
  if s.store.roomFor ws then
    let s := { s with
      store := { s.store with queue := s.store.queue ++ markPacket ws }
      coder := s.coder.setLoss t false }
    (s.mapTake take fun k => { k with packetCount := min (k.packetCount + 1) Config.countMax }).pump
  else
    ({ s with coder := s.coder.setLoss t true }).mapTake take fun k => k.addLoss 1

/-- The flags of a track's packet (R72). -/
def State.packetFlags (s : State) (t : Nat) (b : BlockRecord) : PacketFlags :=
  { concealed := decide (0 < b.concealed)
    clipped := b.clipped
    silent := (s.meter.tracks.getD t {}).silent
    loss := b.loss
    sourceChanged := (s.tracks.routeMarks.getD t {}).marked }

/-- The packet of a track for the block that has ended (R60 steps 1 and 2). -/
def State.packetOf (s : State) (t index : Nat) : List Word :=
  let b := s.coder.blocks.getD t {}
  packetWords t index b.concealed (s.packetFlags t b)
    (codeSamples b.samples (s.tracks.routes.getD t {}).maxOrder)

/-- The tracks of the set are coded and offered in ascending order (R60). -/
def State.codeTracks (s : State) (take index : Nat) : List Nat → State
  | [] => s
  | t :: ts => (s.offerPacket take t (s.packetOf t index)).codeTracks take index ts

end Sys2Proof.Machine
end

