-- ==== Sys2Proof/Machine/StoreEvents.lean ====
section
/-!
DEFINITION. The mount (R100, R101, R121, R122), STORE_FORMAT (R124), the module time limit and the
FAULT of a module (R119), and the ends of module operations (R97 to R101, R112, R113, R117, R122,
R124, R133), one meaning for each command of that family.
-/

namespace Sys2Proof.Machine

/-! ## The mount: recovery -/

/-- The mount's step changed. -/
def State.mountStep (s : State) (m : MountStep) : State :=
  { s with store := { s.store with mount := s.store.mount.map fun x => { x with step := m } } }

/-- A run of a page's data words, from word `a` up to but not word `b`. -/
def slice (d : List Word) (a b : Nat) : List Word := (d.drop a).take (b - a)

/-- The first packet offset and the used words of a take page (R104). -/
def pageOffset (d : List Word) : Nat := (d.getD 2 0).toNat
def pageUsed (d : List Word) : Nat := (d.getD 3 0).toNat

/-- The packet words of consecutive pages, from the first packet that begins in one of them (R104). -/
def packetStream : List (List Word) → List Word
  | [] => []
  | d :: ds =>
    if pageOffset d = 0 then packetStream ds
    else slice d (pageOffset d) (pageUsed d)
      ++ (ds.map fun x => slice x Config.pageHeader (pageUsed x)).flatten

/-- The block indices of the packets that lie whole in a stream of packet words; a packet is 3 words
and its payload words (R73, R110, R199). The fuel is at least the number of packets. -/
def packetIndices : Nat → List Word → List Nat
  | 0, _ => []
  | n + 1, _ :: i :: l :: rest =>
    let k := wordsFor (field l 28 16)
    if k ≤ rest.length then i.toNat :: packetIndices n (rest.drop k) else []
  | _ + 1, _ => []

/-- The block indices of the packets whose words all lie in recovered pages (R101). -/
def recoveredIndices (pages : List (Nat × List Word)) : List Nat :=
  let ws := packetStream (pages.map Prod.snd)
  packetIndices ws.length ws

/-- The least of the numbers at or above a bound, if there is one. -/
def leastFrom (bound : Nat) (ns : List Nat) : Option Nat := (ns.filter (bound ≤ ·)).min?

/-- An open pause interval is settled from the recovered packets (R101): none when it is removed. -/
def Interval.settle (i : Interval) (indices : List Nat) (endIndex : Option Nat) : Option Interval :=
  match i.stop with
  | some _ => some i
  | none =>
    match leastFrom i.start indices with
    | some m => some { i with stop := some (m - 1) }
    | none =>
      match endIndex with
      | some e => if i.start ≤ e then some { i with stop := some e } else none
      | none => none

/-- A record that was live becomes INTERRUPTED (R101). A page count that would pass its greatest value stays at
it (R81). `pages` are the recovered pages, after the page before the only one of them where that was fetched:
its packets then count for the end index and for an open pause interval as theirs do (DESIGN CHOICE, log 19). -/
def TakeRecord.recover (t : TakeRecord) (pages : List (Nat × List Word)) : TakeRecord :=
  let indices := recoveredIndices pages
  let endIndex := indices.getLast?
  { t with
    state := .interrupted
    pageCount := match pages.getLast? with
      | some p => min (p.1 + 1) Config.pageCountMax
      | none => 0
    endIndex := endIndex
    pauses := t.pauses.filterMap fun i => i.settle indices endIndex }

/-- Where a page to be recovered is fetched from: located, on a module that answers (R101 step 2). -/
def State.fetchable (s : State) (take page : Nat) : Option PageAddress :=
  match s.store.locate take page with
  | some a => if s.store.answers a.extent then some a else none
  | none => none

/-- The page before the only recovered one, where that holds no packet start (R101, log 19). -/
def State.pageBefore (s : State) (r : Recovery) : Option PageAddress :=
  match r.recovered with
  | [(p, d)] => if pageOffset d = 0 && decide (0 < p) then s.fetchable r.take (p - 1) else none
  | _ => none

/-- A take's recovery goes on (R101). Without a recovery under way the next record in a live state is
taken, or, when there is none, the catalog write is asked for. `blocked` says that the fetch of the
page has failed or was no page of the take; the fuel is above the extents and records there are. -/
def State.recoverGo (s : State) : Nat → Option (Recovery × Bool) → State
  | 0, _ => s
  | n + 1, none =>
    match s.takes.records.find? (·.state.live) with
    | none => (s.mountStep .writing).askCatalog .mount
    | some t =>
      match s.store.highest t.number fun _ => true with
      | none => (s.mapTake t.number fun t => t.recover []).recoverGo n none
      | some (_, o) => s.recoverGo n (some (⟨t.number, o.seq, o.first, [], false⟩, false))
  | n + 1, some (r, blocked) =>
    match (if blocked then none else s.fetchable r.take r.page) with
    | some a => (s.mountStep (.recover r)).submit (.recoveryFetch a)
    | none =>
      match r.recovered with
      | [] =>
        match s.store.highest r.take fun o => decide (o.seq < r.chainSeq) with
        | some (_, o) => s.recoverGo n (some (⟨r.take, o.seq, o.first, [], false⟩, false))
        | none => (s.mapTake r.take fun t => t.recover []).recoverGo n none
      | _ :: _ =>
        match s.pageBefore r with
        | some a => (s.mountStep (.recover { r with pageBefore := true })).submit (.recoveryFetch a)
        | none => (s.mapTake r.take fun t => t.recover r.recovered).recoverGo n none

/-- The fuel of `recoverGo`. -/
def State.recoverFuel (s : State) : Nat := 2 * (s.takes.records.length + s.store.table.length) + 3

/-- Whether a fetched page is the page of a take the recovery looks for (R101 step 2). -/
def State.recoveredPage (s : State) (take page : Nat) (a : PageAddress) (p : PageImage) : Bool :=
  p ≠ erasedPage && p.good && p.spare.getD 0 0 = natWord take && p.spare.getD 1 0 = natWord page
    && p.spare.getD 2 0 = natWord (s.store.seqOf a.extent)

/-- A recovery fetch has ended (R101). -/
def State.recoveryFetched (s : State) (r : Recovery) (a : PageAddress) (got : Option PageImage) : State :=
  let page := if r.pageBefore then ((r.recovered.head?.map Prod.fst).getD 0) - 1 else r.page
  let good := (got.filter fun p => s.recoveredPage r.take page a p).map PageImage.data
  match good with
  | some d =>
    if r.pageBefore then
      (s.mapTake r.take fun t => t.recover ((page, d) :: r.recovered)).recoverGo s.recoverFuel none
    else
      s.recoverGo s.recoverFuel
        (some ({ r with recovered := r.recovered ++ [(page, d)], page := r.page + 1 }, false))
  | none =>
    if r.pageBefore then
      (s.mapTake r.take fun t => t.recover r.recovered).recoverGo s.recoverFuel none
    else s.recoverGo s.recoverFuel (some (r, true))

/-! ## The mount: catalog and scan -/

/-- The first extent of a loaded record: its OWNED extent of extent sequence 0 (R81). -/
def StoreController.firstExtentOf (c : StoreController) (take : Nat) : Option Nat :=
  (c.table.find? fun x => x.2.state = .owned && x.2.owner.any fun o => o.take = take && o.seq = 0).map
    Prod.fst

/-- The scan is over (R121 step 3, R122): first extents are set and the recovery begins; with no
record to recover the mount ends at once. -/
def State.scanDone (s : State) : State :=
  let first (t : TakeRecord) : TakeRecord := { t with firstExtent := s.store.firstExtentOf t.number }
  let s := s.setTakes { s.takes with records := s.takes.records.map first }
  if s.takes.records.any (·.state.live) then s.recoverGo s.recoverFuel none else s.mountEnd

/-- The FAULT entries of a module's extents from an address on. -/
def faultEntries (e : Nat) : List (Nat × Extent) :=
  (List.range' e ((moduleOf e + 1) * Config.moduleExtents - e)).map fun x => ((x, { state := .fault }) : Nat × Extent)

/-- The scan goes on at an extent (R121 step 2): the next extent of a module that answers is
spare-fetched, a FAULT module's are passed over as FAULT, an empty port has none. The fuel is above
the module ports. -/
def State.scanFrom (s : State) : Nat → Nat → State
  | 0, _ => s
  | n + 1, e =>
    if Config.modulePorts * Config.moduleExtents ≤ e then s.scanDone
    else match s.store.module (moduleOf e) with
      | .answering => (s.mountStep (.scan e)).submit (.mountSpare e)
      | .fault =>
        ({ s with store := { s.store with table := s.store.table ++ faultEntries e } }).scanFrom n
          ((moduleOf e + 1) * Config.moduleExtents)
      | .notFitted => s.scanFrom n ((moduleOf e + 1) * Config.moduleExtents)

/-- The fuel of `scanFrom` and of `formatFrom`. -/
def scanFuel : Nat := Config.modulePorts + 1

/-- An extent classified from the spare words of its page 0 (R122); unreadable is BAD (R121). -/
def State.classify (s : State) (spare : Option (List Word)) : Extent :=
  match spare with
  | none => { state := .bad }
  | some ws =>
    let take := (ws.getD 0 0).toNat
    let o : Owner := ⟨take, (ws.getD 2 0).toNat, (ws.getD 1 0).toNat⟩
    let named := (s.takes.record take).isSome
      && !(s.store.table.any fun x => x.2.owner.any fun q => q.take = o.take && q.seq = o.seq)
    if ws.all (· = Word.ones) then { state := .free }
    else if ws.getD 4 0 ≠ Word.ones then { state := .bad, owner := if named then some o else none }
    else if named then { state := .owned, owner := some o }
    else { state := .dirty }

/-- A spare fetch of the scan has ended (R122). -/
def State.scanned (s : State) (e : Nat) (spare : Option (List Word)) : State :=
  ({ s with store := { s.store with table := s.store.table ++ [(e, s.classify spare)] } }).scanFrom
    scanFuel (e + 1)

/-- The records a catalog page holds: the slots below its take count (R100, R199, R200). A page has 64
slots; the rules give no load of a count above 64, which loads all of them (DESIGN CHOICE, log 28). -/
def loadedRecords (data : List Word) : List TakeRecord :=
  (List.range (min (data.getD 3 0).toNat Config.takeCap)).map fun i =>
    TakeRecord.ofSlot (slice data (4 + 48 * i) (4 + 48 * (i + 1)))

/-- The catalog is loaded from the newest valid page (R100); without one the take table stays empty and
the catalog position is its first. The rules give no load of a next take number outside 1 to 65536 (R82): the
word is loaded as it reads (DESIGN CHOICE, log 36). -/
def State.loadCatalog (s : State) (best : Option FoundCatalog) (used0 used1 : Nat) : State :=
  match best with
  | some b => s.setTakes { s.takes with
      records := loadedRecords b.data
      nextTake := (b.data.getD 2 0).toNat
      catCurrent := b.extent
      catNext := if b.extent = 0 then used0 else used1
      catSeq := b.seq }
  | none => s.setTakes { s.takes with
      records := [], nextTake := 1, catCurrent := 0, catNext := 0, catSeq := 0 }

/-- The catalog extents' entries (R121 step 1): CATALOG, or FAULT with their module. -/
def catalogEntries (m : ModuleState) : List (Nat × Extent) :=
  match m with
  | .notFitted => []
  | .answering => [(0, { state := .catalog }), (1, { state := .catalog })]
  | .fault => [(0, { state := .fault }), (1, { state := .fault })]

/-- Step 1 of the mount is over (R100, R121). When module 0 does not answer there is no catalog. R121 names
step 3 for the load of the take table, and the scan of step 2 reads the loaded table (R122): records, next take
number and catalog position are all set here, before the scan, and extents 0 and 1 become CATALOG here, at no
moment that R121 gives within step 1 (DESIGN CHOICE, log 37). -/
def State.catalogDone (s : State) (best : Option FoundCatalog) (used0 used1 : Nat) : State :=
  let best := if s.store.answers 0 then best else none
  let s := s.loadCatalog best used0 used1
  let s := { s with store := { s.store with
    table := catalogEntries (s.store.module 0)
    mount := some ⟨.scan 0, best.isSome⟩ } }
  s.scanFrom scanFuel (match s.store.module 0 with
    | .notFitted => 0
    | .answering | .fault => 2)

/-- The pages of the two catalog extents, in the order the mount fetches them: address order, where R100 and
R121 give none (DESIGN CHOICE, log 40). -/
def catalogPageAt (i : Nat) : PageAddress := ⟨i / Config.extentPages, i % Config.extentPages⟩

/-- Step 1 of the mount goes on (R100, R121). -/
def State.catalogFrom (s : State) (i : Nat) (best : Option FoundCatalog) (used0 used1 : Nat) : State :=
  if s.store.answers 0 && decide (i < 2 * Config.extentPages) then
    (s.mountStep (.catalog i best used0 used1)).submit (.mountFetch (catalogPageAt i))
  else s.catalogDone best used0 used1

/-- Whether a page is a valid catalog page (R100). -/
def validCatalog (p : PageImage) : Bool := p.data.getD 0 0 = Config.catalogSignature && p.good

/-- The newer of the newest page so far and a fetched one (R100). -/
def newerCatalog (best : Option FoundCatalog) (a : PageAddress) (got : Option PageImage) :
    Option FoundCatalog :=
  match got with
  | none => best
  | some p =>
    let found : FoundCatalog := ⟨a.extent, (p.data.getD 1 0).toNat, p.data⟩
    if validCatalog p && best.all (fun b => decide (b.seq < found.seq)) then some found else best

/-- A mount fetch of a catalog page has ended (R100): an unreadable page is not valid, and it does not
read as erased (log 19). -/
def State.catalogFetched (s : State) (i : Nat) (best : Option FoundCatalog) (used0 used1 : Nat)
    (got : Option PageImage) : State :=
  let a := catalogPageAt i
  let used := got ≠ some erasedPage
  s.catalogFrom (i + 1) (newerCatalog best a got)
    (if used && a.extent = 0 then a.page + 1 else used0)
    (if used && a.extent = 1 then a.page + 1 else used1)

/-- The mount begins (R120, R121): with no module fitted the store is FAULT. -/
def State.mountStart (s : State) : State :=
  match s.store.state with
  | .unmounted =>
    if s.store.anyFitted then
      ({ s with store := { s.store with
        state := .mounting, mount := some ⟨.catalog 0 none 0 0, false⟩ } }).catalogFrom 0 none 0 0
    else { s with store := { s.store with state := .fault } }
  | .mounting | .mounted | .unformatted | .fault => s

/-- A mount operation has ended with failure (R121). -/
def State.mountFailed (s : State) (e : Nat) : State :=
  match s.store.mount with
  | some ⟨.catalog i best u0 u1, _⟩ => s.catalogFetched i best u0 u1 none
  | some ⟨.scan _, _⟩ => s.scanFrom scanFuel e
  | some ⟨.recover r, _⟩ => s.recoveryFetched r ⟨e, 0⟩ none
  | some ⟨.writing, _⟩ => s
  | none => s

/-! ## STORE_FORMAT -/

/-- A STORE_FORMAT ends without its catalog write (R124). -/
def State.formatStopped (s : State) : State :=
  ({ s with store := { s.store with format := none } }).completeStoreOp .storeFault []

/-- Every erase of a STORE_FORMAT has ended (R124): the take table is emptied; where a catalog erase
succeeded and module 0 answers, the catalog position is set and an empty catalog written. -/
def State.formatErased (s : State) (f : Format) : State :=
  let bare (y : Nat × Extent) : Nat × Extent := (y.1, { y.2 with owner := none })
  let s := { s with
    takes := { s.takes with records := [], nextTake := 1 }
    store := { s.store with table := s.store.table.map bare } }
  if (f.erased0 || f.erased1) && s.store.answers 0 then
    (s.setTakes { s.takes with catCurrent := if f.erased0 then 0 else 1, catNext := 0 }).askCatalog
      .storeOperation
  else s.formatStopped

/-- A FREE extent becomes DIRTY when its erase is submitted (R124). -/
def State.formatSubmit (s : State) (e : Nat) : State :=
  (match s.store.extent e with
    | some x => if x.state = ExtentState.free then s.setExtent e { state := .dirty } else s
    | none => s).submit (.formatErase e)

/-- A STORE_FORMAT goes on at an extent (R124): the extents of modules that do not answer are passed
over. The fuel is above the module ports. -/
def State.formatFrom (s : State) (f : Format) : Nat → Nat → State
  | 0, _ => s
  | n + 1, e =>
    if Config.modulePorts * Config.moduleExtents ≤ e then s.formatErased f
    else match s.store.module (moduleOf e) with
      | .answering => s.formatSubmit e
      | .fault | .notFitted => s.formatFrom f n ((moduleOf e + 1) * Config.moduleExtents)

/-- The extent of a successful format erase: a catalog extent stays CATALOG, any other is FREE; of a
failed one: any but a catalog extent is BAD with no former owner (R124). -/
def State.formatMarks (s : State) (e : Nat) (ok : Bool) : State :=
  match s.store.extent e with
  | some x =>
    if x.state = .catalog then s
    else if ok then s.setExtent e { state := .free }
    else
      let t := s.extentBad e false
      if x.state = .bad then t else t.submit (.eraserBadMark e)
  | none => s

/-- A STORE_FORMAT erase has ended at a module that answers (R124). -/
def State.formatErasedOne (s : State) (e : Nat) (ok : Bool) : State :=
  match s.store.format with
  | none => s
  | some f =>
    let f : Format := ⟨f.erased0 || (ok && e = 0), f.erased1 || (ok && e = 1)⟩
    ({ s.formatMarks e ok with store := { (s.formatMarks e ok).store with format := some f } }).formatFrom
      f scanFuel (e + 1)

/-- The erase failure count raised (R126). -/
def State.countEraseFailure (s : State) : State :=
  { s with store := { s.store with eraseFailures := countUp s.store.eraseFailures 1 } }

/-- The program failure count raised (R126). -/
def State.countProgramFailure (s : State) : State :=
  { s with store := { s.store with programFailures := countUp s.store.programFailures 1 } }

/-- The verify mismatch count raised (R126). -/
def State.countMismatch (s : State) : State :=
  { s with store := { s.store with verifyMismatches := countUp s.store.verifyMismatches 1 } }

/-! ## Module FAULT and the time limit -/

/-- A module becomes FAULT (R119): its extents become FAULT and keep their owner fields; the store is
FAULT when no fitted module answers, but that a mount settles its own end (R121). -/
def State.moduleFault (s : State) (m : Nat) : State :=
  let modules := s.store.modules.set m .fault
  let lost (y : Nat × Extent) : Nat × Extent :=
    if moduleOf y.1 = m then (y.1, { y.2 with state := .fault }) else y
  { s with store := { s.store with
      modules := modules
      table := s.store.table.map lost
      state := if s.store.state = .mounting || modules.any (· = .answering) then s.store.state
        else .fault } }

/-- What follows an operation that ended by expiry or by withdrawal, its module being FAULT (R98, R113,
R117, R119, R121, R124, R133; the counts: log 15). R111 raises the write page when a program ends, and R119 lets
one withdrawn before its grant end with failure: only one that was granted raises it here (DESIGN CHOICE,
log 41). -/
def State.operationLost (expired : Bool) (s : State) : PortOp → State
  | .catalogProgram _ _ => s.countProgramFailure.attemptFailed
  | .catalogVerify _ _ => s.countMismatch.attemptFailed
  | .catalogErase _ => s.writeEnd false
  | .mountFetch a | .recoveryFetch a => s.mountFailed a.extent
  | .mountSpare e => s.mountFailed e
  | .archiveProgram a _ =>
    let s := if expired then s.countProgramFailure.raiseWritePage a.extent else s
    (s.pageMoves .programming .waiting true).pump
  | .archiveVerify _ _ => (s.countMismatch.pageMoves .verifying .waiting true).pump
  | .archiveBadMark _ | .eraserBadMark _ => s
  | .readoutFetch _ wanted => if wanted then s.readoutEnd .storeFault else s
  | .eraserErase _ => s.countEraseFailure
  | .formatErase e =>
    let s := s.countEraseFailure
    match s.store.format with
    | some f => s.formatFrom f scanFuel (e + 1)
    | none => s

/-- The time limit of the operation in flight expires (R119): its module becomes FAULT, the
operations waiting for the module are withdrawn, and each ends with failure. The expiry is an end
(R103): with `grantFirst` the port is granted among the operations still waiting before what follows
submits others (R118). R119 does not order the ends: the operation in flight ends first, then
the withdrawn ones by age at the port (DESIGN CHOICE, log 27). -/
def State.expire (s : State) (op : PortOp) (grantFirst : Bool) : State :=
  let m := moduleOf op.extent
  let gone := s.store.waiting.filter fun o => moduleOf o.extent = m
  let s := s.operationCut op
  let s := { s with store := { s.store with
    waiting := s.store.waiting.filter fun o => moduleOf o.extent ≠ m
    expiries := countUp s.store.expiries 1 } }
  gone.foldl (State.operationLost false)
    (((s.moduleFault m).freePort grantFirst).operationLost true op)

/-- The operation in flight, when the 4800th row after its grant has come without its end (R119). -/
def State.expired (s : State) : Option PortOp :=
  match s.store.inFlight with
  | some j => if Config.timeLimit ≤ j.rows then some j.op else none
  | none => none

/-- The expiry that is due, if one is (R119). R118 leaves open whether the end or the submissions that
follow from it are taken first: a free choice, since the command has no operand (log 11). -/
def State.takeExpiry (s : State) : State :=
  match s.expired with
  | some op =>
    (({ s with freeCount := s.freeCount + 1 }).expire op (Config.freeChoice s.freeCount)).settlePort
  | none => s

/-! ## The commands of the family -/

/-- The flash as an operation's end leaves it. -/
def State.operationEnds (s : State) (op : PortOp) (ok : Bool) : State :=
  if ok then s.operationDone op else s.operationCut op

/-- TIME_LIMIT_EXPIRY (R103, R118, R119). -/
def execTimeLimitExpiry (s : State) : Host.Outcome State Fault Refusal := .next s.takeExpiry

/-- ARCHIVE_PROGRAM_END (R112, R113). -/
def execArchiveProgramEnd (ok grantFirst : Bool) (s : State) : Host.Outcome State Fault Refusal :=
  match s.store.inFlight with
  | some ⟨.archiveProgram a p, _⟩ =>
    let s := ((s.operationEnds (.archiveProgram a p) ok).freePort grantFirst).raiseWritePage a.extent
    let s := if !ok then s.countProgramFailure.pageFailed a.extent .programming
      else if s.store.verify then (s.pageMoves .programming .verifying false).submit (.archiveVerify a p)
      else s.pageVerified .programming
    .next s.settlePort
  | _ => .next s

/-- VERIFY_FETCH_END (R112, R113): data and spare words are compared. -/
def execVerifyFetchEnd (answer : Answer) (grantFirst : Bool) (s : State) :
    Host.Outcome State Fault Refusal :=
  match s.store.inFlight with
  | some ⟨.archiveVerify a p, _⟩ =>
    let got := s.fetched a answer
    let s := s.freePort grantFirst
    let s := if got = some p then s.pageVerified .verifying
      else s.countMismatch.pageFailed a.extent .verifying
    .next s.settlePort
  | _ => .next s

/-- BAD_MARK_WRITE_END (R113, R117, R124): the port is freed, the outcome is not looked at. -/
def execBadMarkWriteEnd (ok grantFirst : Bool) (s : State) : Host.Outcome State Fault Refusal :=
  match s.store.inFlight with
  | some ⟨.archiveBadMark e, _⟩ =>
    .next ((s.operationEnds (.archiveBadMark e) ok).freePort grantFirst).settlePort
  | some ⟨.eraserBadMark e, _⟩ =>
    .next ((s.operationEnds (.eraserBadMark e) ok).freePort grantFirst).settlePort
  | _ => .next s

/-- CATALOG_PROGRAM_END (R97, R98). -/
def execCatalogProgramEnd (ok grantFirst : Bool) (s : State) : Host.Outcome State Fault Refusal :=
  match s.store.inFlight with
  | some ⟨.catalogProgram a p, _⟩ =>
    let s := (s.operationEnds (.catalogProgram a p) ok).freePort grantFirst
    let s := if !ok then s.countProgramFailure.attemptFailed
      else if s.store.verify then s.submit (.catalogVerify a p)
      else s.writeEnd true
    .next s.settlePort
  | _ => .next s

/-- CATALOG_VERIFY_END (R97, R98; log 14). -/
def execCatalogVerifyEnd (answer : Answer) (grantFirst : Bool) (s : State) :
    Host.Outcome State Fault Refusal :=
  match s.store.inFlight with
  | some ⟨.catalogVerify a p, _⟩ =>
    let got := s.fetched a answer
    let s := s.freePort grantFirst
    let s := if got = some p then s.writeEnd true else s.countMismatch.attemptFailed
    .next s.settlePort
  | _ => .next s

/-- CATALOG_ERASE_END (R99). -/
def execCatalogEraseEnd (ok grantFirst : Bool) (s : State) : Host.Outcome State Fault Refusal :=
  match s.store.inFlight with
  | some ⟨.catalogErase e, _⟩ =>
    let s := (s.operationEnds (.catalogErase e) ok).freePort grantFirst
    let s := if ok then s.catalogErased e else s.writeEnd false
    .next s.settlePort
  | _ => .next s

/-- ERASE_END (R117): the extent becomes FREE, with the effect on STALLED of R114, or BAD. -/
def execEraseEnd (ok grantFirst : Bool) (s : State) : Host.Outcome State Fault Refusal :=
  match s.store.inFlight with
  | some ⟨.eraserErase e, _⟩ =>
    let s := (s.operationEnds (.eraserErase e) ok).freePort grantFirst
    let s := if ok then (s.setExtent e { state := .free }).pump
      else (s.countEraseFailure.extentBad e false).submit (.eraserBadMark e)
    .next s.settlePort
  | _ => .next s

/-- FORMAT_ERASE_END (R124). -/
def execFormatEraseEnd (ok grantFirst : Bool) (s : State) : Host.Outcome State Fault Refusal :=
  match s.store.inFlight with
  | some ⟨.formatErase e, _⟩ =>
    let s := (s.operationEnds (.formatErase e) ok).freePort grantFirst
    let s := if ok then s else s.countEraseFailure
    .next (s.formatErasedOne e ok).settlePort
  | _ => .next s

/-- MOUNT_CATALOG_FETCH_END (R100). -/
def execMountCatalogFetchEnd (answer : Answer) (grantFirst : Bool) (s : State) :
    Host.Outcome State Fault Refusal :=
  match s.store.inFlight, s.store.mount with
  | some ⟨.mountFetch a, _⟩, some ⟨.catalog i best u0 u1, _⟩ =>
    let got := s.fetched a answer
    .next ((s.freePort grantFirst).catalogFetched i best u0 u1 got).settlePort
  | _, _ => .next s

/-- MOUNT_SPARE_FETCH_END (R122). -/
def execMountSpareFetchEnd (answer : Answer) (grantFirst : Bool) (s : State) :
    Host.Outcome State Fault Refusal :=
  match s.store.inFlight, s.store.mount with
  | some ⟨.mountSpare e, _⟩, some ⟨.scan _, _⟩ =>
    let got := (s.fetched ⟨e, 0⟩ answer).map PageImage.spare
    .next ((s.freePort grantFirst).scanned e got).settlePort
  | _, _ => .next s

/-- RECOVERY_FETCH_END (R101). -/
def execRecoveryFetchEnd (answer : Answer) (grantFirst : Bool) (s : State) :
    Host.Outcome State Fault Refusal :=
  match s.store.inFlight, s.store.mount with
  | some ⟨.recoveryFetch a, _⟩, some ⟨.recover r, _⟩ =>
    let got := s.fetched a answer
    .next ((s.freePort grantFirst).recoveryFetched r a got).settlePort
  | _, _ => .next s

/-- READOUT_FETCH_END (R133, R134, R139 step 3). -/
def execReadoutFetchEnd (answer : Answer) (grantFirst : Bool) (s : State) :
    Host.Outcome State Fault Refusal :=
  match s.store.inFlight with
  | some ⟨.readoutFetch a wanted, _⟩ =>
    let got := s.fetched a answer
    let s := s.freePort grantFirst
    .next (if wanted then s.readoutFetched got else s).settlePort
  | _ => .next s

end Sys2Proof.Machine
end

