-- ==== Sys2Proof/Machine/Rows.lean ====
section
/-!
DEFINITION. The row event and the events a row brings due: mix and archive boundaries with the takes'
transitions, the window end, the hold countdown's end (R18, R19, R58 to R60, R85 to R91, R132, R170),
each with its command. Assumption log 2 says how a due event waits for its command.
-/

namespace Sys2Proof.Machine

/-! ## The archive boundary -/

/-- A take whose ended block receives an index (R58). -/
def TakeRecord.counts (t : TakeRecord) : Bool := t.begun && (t.state = .opened || t.state = .paused)

/-- The live take and the index its ended block receives, if it receives one (R58, R59). -/
def State.indexGiven (s : State) : Option (TakeRecord × Nat) :=
  match s.liveTake, s.coder.nextIndex with
  | some t, some i => if t.counts then some (t, i) else none
  | _, _ => none

/-- The ended block is coded where its recording state was OPEN (R58, R60). -/
def State.codeEnded (s : State) (t : TakeRecord) (i : Nat) : State :=
  if t.state = .opened then s.codeTracks t.number i t.trackSet else s

/-- The open interval of a pause list takes an index as its end (R87, R89, R91). -/
def endInterval (i : Nat) (ps : List Interval) : List Interval :=
  ps.map fun p => if p.stop.isNone then { p with stop := some i } else p

/-- The armed transition is no longer armed. -/
def State.disarm (s : State) : State := s.setTakes { s.takes with armed := none }

/-- A close takes hold at index `i` (R89, R91): CLOSING, and the drain is asked for. -/
def State.closeTake (s : State) (n i : Nat) : State :=
  (s.mapTake n fun t =>
    { t with state := .closing, endIndex := some i, pauses := endInterval i t.pauses }).pump

/-- A pause takes hold after index `i` (R86). -/
def State.pauseTake (s : State) (n i : Nat) : State :=
  (s.mapTake n fun t =>
    { t with state := .paused, pauses := t.pauses ++ [⟨i + 1, none⟩] }).askCatalog .storeOperation

/-- A resume takes hold at index `i` (R87). -/
def State.resumeTake (s : State) (n i : Nat) : State :=
  (s.mapTake n fun t => { t with state := .opened, pauses := endInterval i t.pauses }).askCatalog
    .storeOperation

/-- Index exhaustion closes the take (R91): an armed pause or resume completes with WRONG_STATE. R91 and R189
leave open whether that completion comes before or after the close in the same event: here it comes first, so
that its reply shows the alerts of the take before the close and precedes a readout frame that the close
brings (DESIGN CHOICE, log 34). -/
def State.exhaust (s : State) (n i : Nat) (armed : Option Transition) : State :=
  let s := match armed with
    | some .pause | some .resume => s.completeStoreOp .wrongState []
    | some .close | none => s
  s.closeTake n i

/-- The transition armed for a boundary takes hold (R86, R87, R89). -/
def State.takeHold (s : State) (t : TakeRecord) (i : Nat) : Option Transition → State
  | some .pause => s.pauseTake t.number i
  | some .resume => s.resumeTake t.number i
  | some .close => s.closeTake t.number i
  | none => s

/-- The next block index rises, but past the greatest one (R59). -/
def State.raiseIndex (s : State) (i : Nat) : State :=
  { s with coder := { s.coder with nextIndex := some (i + 1) } }

/-- The block of the live take that has ended: indexed, coded, and the take's transition (R59, R60,
R86 to R91). -/
def State.endBlock (s : State) (t : TakeRecord) (i : Nat) : State :=
  let armed := s.takes.armed
  let s := (s.codeEnded t i).disarm
  if Config.indexMax ≤ i then s.exhaust t.number i armed
  else (s.raiseIndex i).takeHold t i armed

/-- The take begins (R85): the index is 0, every loss mark is cleared, TAKE_OPEN completes. -/
def State.beginTake (s : State) (t : TakeRecord) : State :=
  let marks := s.coder.blocks.map fun b => ({ b with loss := false } : BlockRecord)
  let s := { s with
    coder := { s.coder with nextIndex := some 0, blocks := marks }
    takes := { s.takes with openReady := false } }
  (s.mapTake t.number fun t => { t with begun := true }).completeStoreOp .done [natWord t.number]

/-- The Archive Coder's and the Take Controller's work at an archive boundary (R58 to R60, R85 to R91). -/
def State.takeWork (s : State) : State :=
  match s.indexGiven, s.liveTake with
  | some (t, i), _ => s.endBlock t i
  | none, some t => if s.takes.openReady && t.state = .opened && !t.begun then s.beginTake t else s
  | none, none => s

/-- Block state and route-change marks are cleared for the block that begins (R41, R60). -/
def State.clearBlocks (s : State) : State :=
  { s with
    coder := { s.coder with blocks := s.coder.blocks.map BlockRecord.empty }
    tracks := { s.tracks with
      routeMarks := s.tracks.routeMarks.map fun (m : RouteMark) => { m with marked := false } } }

/-! ## Boundaries -/

/-- A boundary has been given to its receivers (R19). -/
def State.boundaryGiven (s : State) : State :=
  { s with sources := { s.sources with boundaryDue := false } }

/-- A mix boundary that is no archive boundary (R19, R150, R161). -/
def State.mixBoundary (s : State) : State := s.boundaryGiven.mixWork

/-- An archive boundary, which is also a mix boundary (R19; the order of its receivers: log 26). -/
def State.archiveBoundary (s : State) : State := s.boundaryGiven.mixWork.takeWork.clearBlocks.settlePort

/-- Whether the boundary due is a mix boundary only, or an archive boundary (R19). -/
def State.mixDue (s : State) : Bool := s.sources.boundaryDue && s.sources.rowCounter ≠ 0
def State.archiveDue (s : State) : Bool := s.sources.boundaryDue && s.sources.rowCounter = 0

/-- The boundary that is due, if one is. -/
def State.takeBoundary (s : State) : State :=
  if s.mixDue then s.mixBoundary else if s.archiveDue then s.archiveBoundary else s

/-- MIX_BOUNDARY (R19). -/
def execMixBoundary (s : State) : Host.Outcome State Fault Refusal :=
  .next (if s.mixDue then s.mixBoundary else s)

/-- ARCHIVE_BOUNDARY (R19). -/
def execArchiveBoundary (s : State) : Host.Outcome State Fault Refusal :=
  .next (if s.archiveDue then s.archiveBoundary else s)

/-- Whether the archive boundary due gives the greatest index (R59, R91). -/
def State.exhaustionDue (s : State) : Bool :=
  s.archiveDue && s.indexGiven.any fun x => decide (Config.indexMax ≤ x.2)

/-- INDEX_EXHAUSTION (R59, R91): the archive boundary that gives the greatest index (log 3). -/
def execIndexExhaustion (s : State) : Host.Outcome State Fault Refusal :=
  .next (if s.exhaustionDue then s.archiveBoundary else s)

/-! ## The hold countdown -/

/-- Whether a readout's hold countdown has reached 0 (R132). -/
def State.holdDue (s : State) : Bool := s.readout.state = .holding && s.readout.countdown = 0

/-- The backlog test that a countdown of 0 brings, if it is due (R132). -/
def State.takeHoldExpiry (s : State) : State := if s.holdDue then s.backlogTest.settlePort else s

/-- HOLD_COUNTDOWN_EXPIRY (R132). -/
def execHoldCountdownExpiry (s : State) : Host.Outcome State Fault Refusal := .next s.takeHoldExpiry

/-! ## The row -/

/-- What the last row brought due and no command has taken yet comes before the next row (log 2). -/
def State.takeDue (s : State) : State := s.takeWindowEnd.takeBoundary.takeHoldExpiry.takeExpiry

/-- The timers a row moves (R119, R132). -/
def State.rowTimers (s : State) : State :=
  { s with
    store := { s.store with inFlight := s.store.inFlight.map fun j => { j with rows := j.rows + 1 } }
    readout := if s.readout.state = .holding
      then { s.readout with countdown := s.readout.countdown - 1 } else s.readout }

/-- The samples of one row on their way (R18, R39, R57, R153, R156, R160, R171). -/
def State.rowSamples (s : State) : State :=
  let p := s.sources.rowCounter
  let row := s.sources.inputRow
  let set := s.liveSet
  let (s, xs) := s.trackRow row
  let (mix, ys) := s.mix.row xs p
  { s with
    sources := s.sources.advance
    coder := s.coder.row set p s.meter.overLevel xs
    mix := mix
    stream := storeBusRow s.stream ys (p % Config.mixRows)
    meter := s.meter.row xs ys }

/-- One row event (R18). -/
def State.row (s : State) : State := s.takeDue.rowTimers.rowSamples.mountStart.settlePort

/-- ROW_EVENT (R18). -/
def execRowEvent (s : State) : Host.Outcome State Fault Refusal := .next s.row

/-- Whether the next row lapses a stage source (R25, R27). -/
def State.lapsesNext (s : State) (n : Nat) : Bool :=
  (s.sources.records[n]?).any fun r =>
    r.presence = .present && r.fifo.isEmpty && decide (r.limit ≤ r.misses + 1)

/-- SOURCE_LAPSE (R25): the row event in which a source lapses (log 3). -/
def execSourceLapse (n : Nat) (s : State) : Host.Outcome State Fault Refusal :=
  .next (if s.lapsesNext n then s.row else s)

/-- Whether the next row makes a stage source PRESENT (R25). -/
def State.acquiresNext (s : State) (n : Nat) : Bool :=
  (s.sources.records[n]?).any fun r =>
    r.presence = .acquiring && !r.fifo.isEmpty && decide (Config.acquireGoal ≤ r.acquire + 1)

/-- SOURCE_ACQUIRED (R25): the row event in which a source becomes PRESENT (log 3). -/
def execSourceAcquired (n : Nat) (s : State) : Host.Outcome State Fault Refusal :=
  .next (if s.acquiresNext n then s.row else s)

/-- Whether the next row moves the generator to its next level (R31). -/
def State.levelStepNext (s : State) : Bool :=
  decide (s.sources.generator.hold ≤ s.sources.generator.position + 1)

/-- GENERATOR_LEVEL_STEP (R31): the row event in which the generator moves on (log 3). -/
def execGeneratorLevelStep (s : State) : Host.Outcome State Fault Refusal :=
  .next (if s.levelStepNext then s.row else s)

end Sys2Proof.Machine
end

