-- ==== Sys2Proof/Machine/TakeRequests.lean ====
section
/-!
DEFINITION. The take requests (05_takes_and_the_catalog.md, R83 to R95), READ_TAKE and READ_STOP
(07_release_readout.md, R129, R130, R142).
-/

namespace Sys2Proof.Machine

/-! ## TAKE_OPEN -/

/-- The characters of a TAKE_OPEN's label (R197). -/
def Entry.labelLength (e : Entry) : Nat := field (e.op 0) 5 0
def Entry.labelCodes (e : Entry) : List Nat := (wordCodes (e.operands.drop 1)).take e.labelLength

/-- Whether a label is refused (R84 test 2). -/
def Entry.badLabel (e : Entry) : Bool :=
  e.short || decide (32 < e.labelLength) || e.labelCodes.any fun c => decide (c < 32) || decide (126 < c)

/-- The track set a new record takes (R40). -/
def trackSetNow (routes : List Route) : List Nat :=
  (routes.zipIdx.filter fun x => x.1.enabled && x.1.archive).map Prod.snd

/-- The record TAKE_OPEN creates, with its first extent (R84). -/
def State.newRecord (s : State) (e : Entry) (first : Nat) : TakeRecord :=
  { number := s.takes.nextTake
    state := .opened
    label := if e.labelLength = 0 then none else some e.labelCodes
    rate := s.rate
    trackSet := trackSetNow s.tracks.routes
    firstExtent := some first }

/-- The lowest free extent becomes the first extent of a take, and the write state is set
(R84, R106, R109). -/
def State.firstAllocation (s : State) (take first : Nat) : State :=
  let x : Extent := { state := .owned, owner := some ⟨take, 0, 0⟩ }
  { s with store := { s.store with
      table := Machine.setExtent s.store.table first x
      writeState := some ⟨some first, 0, 0, false⟩ } }

/-- A TAKE_OPEN that passes its tests (R84). -/
def State.openTake (s : State) (e : Entry) (first : Nat) : State :=
  let n := s.takes.nextTake
  let s := s.setTakes { s.takes with
    records := s.takes.records ++ [s.newRecord e first]
    nextTake := n + 1
    openReady := false }
  (((s.firstAllocation n first).holdSlot e (.openTake n)).askCatalog .storeOperation).settlePort

/-- TAKE_OPEN at the Take Controller (R84). -/
def serveTakeOpen (e : Entry) (s : State) : State :=
  if s.store.state ≠ .mounted || s.liveTake.isSome then s.refuse e .wrongState
  else if e.badLabel then s.refuse e .badOperand
  else if decide (Config.takeCap ≤ s.takes.records.length)
      || decide (Config.nextTakeMax ≤ s.takes.nextTake) then s.refuse e .noSpace
  else match s.store.freeList with
    | [] => s.refuse e .noSpace
    | first :: _ => s.openTake e first

/-- TAKE_OPEN (R84). -/
def execTakeOpen (s : State) : Host.Outcome State Fault Refusal := .next (s.serve .takeOpen serveTakeOpen)

/-! ## TAKE_PAUSE, TAKE_RESUME, TAKE_CLOSE -/

/-- A transition is armed for the next archive boundary (R86, R87, R89). -/
def State.arm (s : State) (e : Entry) (t : Transition) (kind : StoreOpKind) : State :=
  (s.setTakes { s.takes with armed := some t }).holdSlot e kind

/-- TAKE_PAUSE at the Take Controller (R83, R86). -/
def serveTakePause (e : Entry) (s : State) : State :=
  match s.store.state, s.liveTake with
  | .mounted, some t =>
    if t.state ≠ .opened then s.refuse e .wrongState
    else if Config.pauseCap ≤ t.pauses.length then s.refuse e .noSpace
    else s.arm e .pause .pause
  | _, _ => s.refuse e .wrongState

/-- TAKE_PAUSE (R86). -/
def execTakePause (s : State) : Host.Outcome State Fault Refusal :=
  .next (s.serve .takePause serveTakePause)

/-- TAKE_RESUME at the Take Controller (R83, R87). -/
def serveTakeResume (e : Entry) (s : State) : State :=
  match s.store.state, s.liveTake with
  | .mounted, some t => if t.state ≠ .paused then s.refuse e .wrongState else s.arm e .resume .resume
  | _, _ => s.refuse e .wrongState

/-- TAKE_RESUME (R87). -/
def execTakeResume (s : State) : Host.Outcome State Fault Refusal :=
  .next (s.serve .takeResume serveTakeResume)

/-- TAKE_CLOSE at the Take Controller (R83, R89): taken in FAULT too. -/
def serveTakeClose (e : Entry) (s : State) : State :=
  match s.liveTake with
  | some t =>
    if (s.store.state ≠ .mounted && s.store.state ≠ .fault)
        || (t.state ≠ .opened && t.state ≠ .paused) then s.refuse e .wrongState
    else s.arm e .close .close
  | none => s.refuse e .wrongState

/-- TAKE_CLOSE (R89). -/
def execTakeClose (s : State) : Host.Outcome State Fault Refusal :=
  .next (s.serve .takeClose serveTakeClose)

/-! ## TAKE_PROTECT, TAKE_UNPROTECT, TAKE_DELETE -/

/-- The take number a request names (R197). -/
def Entry.takeNumber (e : Entry) : Nat := field (e.op 0) 15 0

/-- TAKE_PROTECT and TAKE_UNPROTECT at the Take Controller (R83, R93). -/
def serveProtect (value : Bool) (e : Entry) (s : State) : State :=
  if s.store.state ≠ .mounted then s.refuse e .wrongState
  else match (if e.short then none else s.takes.record e.takeNumber) with
    | none => s.refuse e .badOperand
    | some t =>
      if t.state.live then s.refuse e .wrongState
      else if t.isProtected = value then s.done e []
      else
        (((s.mapTake t.number fun t => { t with isProtected := value }).holdSlot e
          (.protect t.number t.isProtected)).askCatalog .storeOperation).settlePort

/-- TAKE_PROTECT (R93). -/
def execTakeProtect (s : State) : Host.Outcome State Fault Refusal :=
  .next (s.serve .takeProtect (serveProtect true))

/-- TAKE_UNPROTECT (R93). -/
def execTakeUnprotect (s : State) : Host.Outcome State Fault Refusal :=
  .next (s.serve .takeUnprotect (serveProtect false))

/-- TAKE_DELETE at the Take Controller (R83, R94). -/
def serveTakeDelete (e : Entry) (s : State) : State :=
  if s.store.state ≠ .mounted then s.refuse e .wrongState
  else match (if e.short then none else s.takes.record e.takeNumber) with
    | none => s.refuse e .badOperand
    | some t =>
      if t.isProtected then s.refuse e .isProtected
      else if t.state.live || (s.readout.busy && s.readout.take = t.number) then s.refuse e .wrongState
      else
        (((s.mapTake t.number fun t => { t with deleting := true }).holdSlot e
          (.delete t.number)).askCatalog .storeOperation).settlePort

/-- TAKE_DELETE (R94). -/
def execTakeDelete (s : State) : Host.Outcome State Fault Refusal :=
  .next (s.serve .takeDelete serveTakeDelete)

/-! ## TAKE_LIST -/

/-- An extent address as one word (R197). -/
def addressWord (extent : Nat) : Word :=
  natWord (moduleOf extent * 2 ^ 16 + extent % Config.moduleExtents)

/-- A summary of TAKE_LIST (R95, R197). -/
def State.summaryWords (s : State) (t : TakeRecord) : List Word :=
  t.summaryWords ++ [natWord (s.store.extentCount t.number * 2 ^ 8 + t.pauses.length)]

/-- TAKE_LIST's result without the detail option (R95). -/
def State.listWords (s : State) (from_ : Nat) : List Word :=
  let kept := s.takes.records.filter fun t => !t.deleting
  let named := kept.filter fun t => decide (from_ ≤ t.number)
  natWord kept.length :: natWord s.takes.nextTake
    :: (named.take 8).flatMap s.summaryWords ++ [boolWord (decide (8 < named.length))]

/-- TAKE_LIST's result with the detail option (R95, R197). -/
def State.detailWords (s : State) (t : TakeRecord) : List Word :=
  t.slotWords ++ [(t.firstExtent.map addressWord).getD Word.ones, natWord (s.store.extentCount t.number)]

/-- TAKE_LIST at the Take Controller (R95). -/
def serveTakeList (e : Entry) (s : State) : State :=
  if s.store.state ≠ .mounted then s.refuse e .wrongState
  else if e.short then s.refuse e .badOperand
  else if bitSet (e.op 0) 16 then
    match s.takes.known e.takeNumber with
    | some t => s.done e (s.detailWords t)
    | none => s.refuse e .badOperand
  else s.done e (s.listWords e.takeNumber)

/-- TAKE_LIST (R95). -/
def execTakeList (s : State) : Host.Outcome State Fault Refusal := .next (s.serve .takeList serveTakeList)

/-! ## READ_TAKE and READ_STOP -/

/-- The operands of READ_TAKE (R197). -/
def Entry.startPage (e : Entry) : Nat := field (e.op 1) 23 0
def Entry.wordOffset (e : Entry) : Nat := field (e.op 2) 31 16
def Entry.readMode (e : Entry) : Nat := field (e.op 2) 3 0

/-- Whether READ_TAKE is refused by its operands on a take (R129 tests 3 and 4). -/
def Entry.badRead (e : Entry) (t : TakeRecord) : Bool :=
  decide (4095 < e.wordOffset) || (e.readMode ≠ 1 && e.readMode ≠ 2)
    || (!t.state.live && decide (t.pageCount ≤ e.startPage))

/-- A readout starts (R130): its record is filled and the page step taken. -/
def State.startReadout (s : State) (e : Entry) : State :=
  (s.setReadout
    { origin := e.origin, arrival := e.arrival, take := e.takeNumber, run := e.readMode = 2
      nextPage := e.startPage, startOffset := e.wordOffset, firstPage := true }).pageStepAndOffer

/-- READ_TAKE at the Readout Engine (R129, R130). -/
def serveReadTake (e : Entry) (s : State) : State :=
  if s.store.state ≠ .mounted then s.refuse e .wrongState
  else match (if e.short then none else s.takes.known e.takeNumber) with
    | none => s.refuse e .badOperand
    | some t =>
      if e.badRead t then s.refuse e .badOperand else (s.startReadout e).settlePort

/-- READ_TAKE (R129, R130). -/
def execReadTake (s : State) : Host.Outcome State Fault Refusal := .next (s.serve .readTake serveReadTake)

/-- READ_STOP at the Readout Engine (R142): READ_TAKE's reply comes first. -/
def serveReadStop (e : Entry) (s : State) : State :=
  if s.readout.busy then (s.readoutEnd .aborted).done e [] else s.refuse e .wrongState

/-- READ_STOP (R142). -/
def execReadStop (s : State) : Host.Outcome State Fault Refusal := .next (s.serve .readStop serveReadStop)

end Sys2Proof.Machine
end

