-- ==== Sys2Proof/Machine/StoreRequests.lean ====
section
/-!
DEFINITION. The store requests STORE_FORMAT, STORE_CONFIG and STORE_STATUS
(06_the_archive_store.md, R123 to R126).
-/

namespace Sys2Proof.Machine

/-- A STORE_FORMAT that passes its tests is accepted (R123, R124). -/
def State.acceptFormat (s : State) (e : Entry) : State :=
  let begun : Format := ⟨false, false⟩
  ((({ s with store := { s.store with state := .unformatted, format := some begun } }).holdSlot e
    .format).formatFrom begun scanFuel 0).settlePort

/-- STORE_FORMAT at the Store Controller (R123). -/
def serveStoreFormat (e : Entry) (s : State) : State :=
  if (s.store.state ≠ .mounted && s.store.state ≠ .unformatted) || s.store.module 0 ≠ .answering then
    s.refuse e .wrongState
  else if s.takes.records.any TakeRecord.isProtected then s.refuse e .isProtected
  else if s.liveTake.isSome || s.readout.busy then s.refuse e .wrongState
  else s.acceptFormat e

/-- STORE_FORMAT (R123, R124). -/
def execStoreFormat (s : State) : Host.Outcome State Fault Refusal :=
  .next (s.serve .storeFormat serveStoreFormat)

/-- The verify setting after a code and value word: none for an unknown code (R125, R197). -/
def verifyOf (w : Word) (old : Bool) : Option Bool :=
  match field w 31 30, field w 29 0 with
  | 0, _ => some old
  | 1, 0 => some false
  | 1, 1 => some true
  | _, _ => none

/-- The four settings (R125). -/
structure Settings where
  verify : Bool
  backlog : Nat
  holdTime : Nat
  lowMark : Nat
  deriving DecidableEq, Repr

/-- The settings a STORE_CONFIG leaves, or none for an unknown code (R125). -/
def StoreController.configured (c : StoreController) (e : Entry) : Option Settings :=
  match verifyOf (e.op 0) c.verify, settingOf (e.op 1) c.backlog 1024 16384,
      settingOf (e.op 2) c.holdTime 1 65535, settingOf (e.op 3) c.lowMark 0 131072 with
  | some v, some b, some h, some l => some ⟨v, b, h, l⟩
  | _, _, _, _ => none

/-- The words of the four settings. -/
def Settings.words (x : Settings) : List Word :=
  [boolWord x.verify, natWord x.backlog, natWord x.holdTime, natWord x.lowMark]

/-- STORE_CONFIG at the Store Controller (R125). -/
def serveStoreConfig (e : Entry) (s : State) : State :=
  if s.store.state = .mounting then s.refuse e .wrongState
  else match (if e.short then none else s.store.configured e) with
    | none => s.refuse e .badOperand
    | some x =>
      ({ s with store := { s.store with
        verify := x.verify, backlog := x.backlog, holdTime := x.holdTime, lowMark := x.lowMark } }).done
        e x.words

/-- STORE_CONFIG (R125). -/
def execStoreConfig (s : State) : Host.Outcome State Fault Refusal :=
  .next (s.serve .storeConfig serveStoreConfig)

/-! ## STORE_STATUS -/

/-- The codes of R197. -/
def StoreState.code : StoreState → Nat
  | .unmounted => 0
  | .mounting => 1
  | .mounted => 2
  | .unformatted => 3
  | .fault => 4

def ModuleState.code : ModuleState → Nat
  | .notFitted => 0
  | .answering => 1
  | .fault => 2

def StagingState.code : StagingState → Nat
  | .empty => 0
  | .filling => 1
  | .waiting => 2
  | .programming => 3
  | .verifying => 4

/-- A staging page in STORE_STATUS's result (R126, R197). -/
def StagingPage.statusWords (p : StagingPage) : List Word :=
  if p.state = .empty then [natWord p.state.code, Word.ones, Word.ones]
  else [natWord p.state.code, natWord p.pageSeq, natWord p.used]

/-- The number of extents in a state. -/
def StoreController.countState (c : StoreController) (x : ExtentState) : Nat :=
  (c.table.filter fun y => y.2.state = x).length

/-- The extent an operation erases, if it is an erase. -/
def PortOp.erases : PortOp → Option Nat
  | .catalogErase e | .eraserErase e | .formatErase e => some e
  | .catalogProgram _ _ | .catalogVerify _ _ | .mountFetch _ | .mountSpare _ | .recoveryFetch _
  | .archiveProgram _ _ | .archiveVerify _ _ | .archiveBadMark _ | .readoutFetch _ _
  | .eraserBadMark _ => none

/-- The address of the erase in flight (R126; log 20). -/
def StoreController.eraseWord (c : StoreController) : Word :=
  match c.inFlight.bind fun j => j.op.erases with
  | some e => addressWord e
  | none => Word.ones

/-- STORE_STATUS's result (R126). -/
def State.storeWords (s : State) : List Word :=
  let c := s.store
  [natWord c.state.code, if s.liveTake.isSome then boolWord c.stalled else Word.ones]
    ++ c.modules.map (fun m => natWord m.code)
    ++ [ExtentState.free, .owned, .dirty, .bad, .catalog, .fault].map (fun x => natWord (c.countState x))
    ++ [natWord c.freeList.length, natWord c.queue.length]
    ++ c.pageA.statusWords ++ c.pageB.statusWords
    ++ (Settings.mk c.verify c.backlog c.holdTime c.lowMark).words
    ++ [natWord s.takes.catCurrent, natWord s.takes.catNext, natWord s.takes.catSeq, c.eraseWord,
      natWord c.programFailures, natWord c.verifyMismatches, natWord c.relocations,
      natWord c.eraseFailures, natWord c.expiries]

/-- The store counts set to 0 (R126, R127). -/
def StoreController.clearCounts (c : StoreController) : StoreController :=
  { c with programFailures := 0, verifyMismatches := 0, relocations := 0, eraseFailures := 0, expiries := 0 }

/-- STORE_STATUS at the Store Controller (R126). -/
def serveStoreStatus (e : Entry) (s : State) : State :=
  if e.short then s.refuse e .badOperand
  else
    let result := s.storeWords
    (if bitSet (e.op 0) 0 then { s with store := s.store.clearCounts } else s).done e result

/-- STORE_STATUS (R126). -/
def execStoreStatus (s : State) : Host.Outcome State Fault Refusal :=
  .next (s.serve .storeStatus serveStoreStatus)

end Sys2Proof.Machine
end

