-- ==== Sys2Proof/Machine/Management.lean ====
section
/-!
DEFINITION. The Request Queue's own requests RESERVE, RELEASE, QUERY, UNIT_STATUS and UNIT_RESET
(11_management_requests.md, R183, R191 to R194), and power-on (R195, R201 and each block's rule).
-/

namespace Sys2Proof.Machine

/-! ## RESERVE and RELEASE -/

/-- The scope a RESERVE or RELEASE names (R183, R198). -/
def Entry.scopeOperand (e : Entry) : Option Scope :=
  if e.short then none
  else match field (e.op 0) 7 0 with
    | 1 => some .config
    | 2 => some .store
    | _ => none

/-- The reservation of a scope replaced (R183). -/
def RequestQueue.setHolder (q : RequestQueue) (h : Option Station) : Scope → RequestQueue
  | .config => { q with reserveConfig := h }
  | .store => { q with reserveStore := h }
  | .unscoped => q

/-- RESERVE at the Request Queue (R183). -/
def serveReserve (e : Entry) (s : State) : State :=
  match e.scopeOperand with
  | none => s.refuse e .badOperand
  | some c =>
    match s.requests.holderOf c with
    | some _ => s.refuse e .reserved
    | none => ({ s with requests := s.requests.setHolder (some e.holder) c }).done e []

/-- RESERVE (R183). -/
def execReserve (s : State) : Host.Outcome State Fault Refusal := .next (s.serve .reserve serveReserve)

/-- RELEASE at the Request Queue (R183). -/
def serveRelease (e : Entry) (s : State) : State :=
  match e.scopeOperand with
  | none => s.refuse e .badOperand
  | some c =>
    if s.requests.holderOf c = some e.holder then
      ({ s with requests := s.requests.setHolder none c }).done e []
    else s.refuse e .reserved

/-- RELEASE (R183). -/
def execRelease (s : State) : Host.Outcome State Fault Refusal := .next (s.serve .release serveRelease)

/-! ## QUERY -/

/-- The origin a code names (R198). -/
def Origin.ofCode : Nat → Option Origin
  | 1 => some .stage
  | 2 => some .program
  | _ => none

def Origin.code : Origin → Nat
  | .stage => 1
  | .program => 2

/-- QUERY's value for an identity: 0 QUEUED, 1 ACTIVE, 2 UNKNOWN (R191, R197). -/
def State.queryValue (s : State) (o : Origin) (station number : Nat) : Nat :=
  match s.requests.entries.find? (·.is o station number) with
  | some e => if e.active then 1 else 0
  | none => 2

/-- QUERY at the Request Queue (R191). -/
def serveQuery (e : Entry) (s : State) : State :=
  let station := field (e.op 0) 23 16
  match (if e.short then none else Origin.ofCode (field (e.op 0) 31 24)) with
  | none => s.refuse e .badOperand
  | some o =>
    if 7 < station then s.refuse e .badOperand
    else s.done e [natWord (s.queryValue o station (field (e.op 0) 15 8))]

/-- QUERY (R191). -/
def execQuery (s : State) : Host.Outcome State Fault Refusal := .next (s.serve .query serveQuery)

/-! ## UNIT_STATUS -/

/-- A count's three words, in the order of R197. -/
def RxCounts.words (c : RxCounts) : List Word := [natWord c.stage, natWord c.through, natWord c.program]

/-- The 22 count words (R13, R197). -/
def LinkUnit.countWords (l : LinkUnit) : List Word :=
  l.accepted.words ++ l.stray.words ++ l.framing.words ++ l.abandoned.words ++ l.checkFailures.words
    ++ [natWord l.wrongKindThrough, natWord l.wrongKindProgram, natWord l.misaddressed,
      natWord l.repeatDrops, natWord l.relayDrops, natWord l.stageReplyDrops, natWord l.programReplyDrops]

/-- The presence states of the stage sources in one word (R197). -/
def SourceMonitor.presenceWord (m : SourceMonitor) : Word :=
  natWord (m.records.foldr (fun r n => 4 * n + r.presence.code) 0)

/-- A reservation's holder as one word (R197). -/
def holderWord : Option Station → Word
  | some h => natWord (h.origin.code * 2 ^ 8 + h.station)
  | none => Word.ones

/-- UNIT_STATUS's result (R192). Of the two reservation holders of item 8, which R192 and R197 leave unordered,
CONFIG's comes before STORE's, in the order of R183 (DESIGN CHOICE, log 35). -/
def State.unitWords (s : State) : List Word :=
  [natWord s.unit, natWord s.rate.code, natWord s.store.state.code,
      optWord (s.liveTake.map TakeRecord.number),
      boolWord s.link.stageUp, boolWord s.link.throughUp, boolWord s.link.programUp]
    ++ s.link.countWords ++ [s.sources.presenceWord] ++ s.stream.map (fun b => natWord b.drops)
    ++ [natWord s.requests.entries.length, natWord (s.requests.entries.filter Entry.active).length,
      holderWord s.requests.reserveConfig, holderWord s.requests.reserveStore,
      boolWord s.requests.storeOp.isSome, boolWord s.readout.busy, natWord s.requests.broadcastRefused]

/-- Every count of the Link Unit set to 0 (R13). -/
def LinkUnit.clearCounts (l : LinkUnit) : LinkUnit :=
  { l with
    accepted := {}, stray := {}, framing := {}, abandoned := {}, checkFailures := {}
    wrongKindThrough := 0, wrongKindProgram := 0, misaddressed := 0
    repeatDrops := 0, relayDrops := 0, stageReplyDrops := 0, programReplyDrops := 0 }

/-- What UNIT_STATUS's clear option sets to 0 (R192). -/
def State.clearUnitCounts (s : State) : State :=
  { s with
    link := s.link.clearCounts
    stream := s.stream.map fun (b : StreamBus) => { b with drops := 0 }
    requests := { s.requests with broadcastRefused := 0 } }

/-- UNIT_STATUS at the Request Queue (R192). -/
def serveUnitStatus (e : Entry) (s : State) : State :=
  if e.short then s.refuse e .badOperand
  else
    let result := s.unitWords
    (if bitSet (e.op 0) 0 then s.clearUnitCounts else s).done e result

/-- UNIT_STATUS (R192). -/
def execUnitStatus (s : State) : Host.Outcome State Fault Refusal :=
  .next (s.serve .unitStatus serveUnitStatus)

/-! ## UNIT_RESET -/

/-- The Link Unit's warm reset (R17): line states and frames in transmission are kept. -/
def LinkUnit.warmReset (l : LinkUnit) : LinkUnit :=
  { stageUp := l.stageUp, throughUp := l.throughUp, programUp := l.programUp
    txThrough := l.txThrough, txStageReturn := l.txStageReturn, txProgram := l.txProgram }

/-- The Request Queue's part of a warm reset: all but the UNIT_RESET is discarded (R193, R194). The arrival
number goes on: R194 does not name it and R195 restarts it at power-on (DESIGN CHOICE, log 33). -/
def RequestQueue.warmReset (q : RequestQueue) (arrival : Nat) : RequestQueue :=
  { entries := q.entries.filter fun e => e.arrival = arrival
    nextArrival := q.nextArrival
    storeOp := q.storeOp }

/-- The warm reset of every block (R193 steps 1 to 3, R194). A boundary that the last row has signalled and no
command has given yet is dropped: R20 does not say whether it is still given (DESIGN CHOICE, log 2). -/
def State.warmReset (s : State) (arrival : Nat) : State :=
  { s with
    link := s.link.warmReset
    sources := {}
    tracks := {}
    coder := {}
    store := s.store.clearCounts
    readout := {}
    mix := {}
    stream := List.replicate Config.buses {}
    meter := {}
    requests := s.requests.warmReset arrival }

/-- UNIT_RESET at the Request Queue (R193). -/
def serveUnitReset (e : Entry) (s : State) : State :=
  if s.liveTake.isSome || s.readout.busy then s.refuse e .wrongState
  else (s.warmReset e.arrival).done e []

/-- UNIT_RESET (R193, R194). -/
def execUnitReset (s : State) : Host.Outcome State Fault Refusal :=
  .next (s.serve .unitReset serveUnitReset)

/-! ## POWER_ON -/

/-- What an interrupted operation at the store port leaves in its module (R103, log 7 and 8). -/
def State.powerCut (s : State) : State :=
  match s.store.inFlight with
  | some j => s.operationCut j.op
  | none => s

/-- A module port as the part finds it at power-on (R103). -/
def ModuleState.ofFitted (fitted : Bool) : ModuleState := if fitted then .answering else .notFitted

/-- POWER_ON (R17, R36, R55, R78, R102, R127, R128, R158, R159, R179, R195, R201): the straps are read
and everything but the modules' contents and the waiting commands takes its power-on value. -/
def execPowerOn (rateHigh : Bool) (unitPins : BitVec 5) (fitted0 fitted1 fitted2 fitted3 : Bool)
    (stageUp throughUp programUp : Bool) (s : State) : Host.Outcome State Fault Refusal :=
  .next
    { pending := s.pending
      freeCount := s.powerCut.freeCount
      rate := if rateHigh then .k96 else .k48
      unit := min unitPins.toNat 30
      link := { stageUp := stageUp, throughUp := throughUp, programUp := programUp }
      store := { modules := [ModuleState.ofFitted fitted0, ModuleState.ofFitted fitted1,
        ModuleState.ofFitted fitted2, ModuleState.ofFitted fitted3] }
      flash := s.powerCut.flash }

end Sys2Proof.Machine
end

