-- ==== Sys2Proof/Machine/Dispatch.lean ====
section
/-!
DEFINITION. One arm for each command of spec/opcode_table.json: the command's effect on everything but
the queue of waiting commands.
-/

namespace Sys2Proof.Machine

def exec (i : Instr) (s : State) : Host.Outcome State Fault Refusal :=
  match i with
  | .powerOn rateHigh unitPins fitted0 fitted1 fitted2 fitted3 stageUp throughUp programUp => Sys2Proof.Machine.execPowerOn rateHigh unitPins fitted0 fitted1 fitted2 fitted3 stageUp throughUp programUp s
  | .rowEvent => Sys2Proof.Machine.execRowEvent s
  | .sourceLapse source => Sys2Proof.Machine.execSourceLapse source s
  | .sourceAcquired source => Sys2Proof.Machine.execSourceAcquired source s
  | .generatorLevelStep => Sys2Proof.Machine.execGeneratorLevelStep s
  | .holdCountdownExpiry => Sys2Proof.Machine.execHoldCountdownExpiry s
  | .mixBoundary => Sys2Proof.Machine.execMixBoundary s
  | .archiveBoundary => Sys2Proof.Machine.execArchiveBoundary s
  | .indexExhaustion => Sys2Proof.Machine.execIndexExhaustion s
  | .windowEnd => Sys2Proof.Machine.execWindowEnd s
  | .stageFrameComplete check => Sys2Proof.Machine.execStageFrameComplete check s
  | .throughReturnFrameComplete check => Sys2Proof.Machine.execThroughReturnFrameComplete check s
  | .programReturnFrameComplete check => Sys2Proof.Machine.execProgramReturnFrameComplete check s
  | .strayWord dir word => Sys2Proof.Machine.execStrayWord dir word s
  | .framingError dir word => Sys2Proof.Machine.execFramingError dir word s
  | .frameAbandoned dir => Sys2Proof.Machine.execFrameAbandoned dir s
  | .throughFrameEnd => Sys2Proof.Machine.execThroughFrameEnd s
  | .stageReturnFrameEnd => Sys2Proof.Machine.execStageReturnFrameEnd s
  | .programForwardFrameEnd => Sys2Proof.Machine.execProgramForwardFrameEnd s
  | .stageLinkDown => Sys2Proof.Machine.execStageLinkDown s
  | .programLinkDown => Sys2Proof.Machine.execProgramLinkDown s
  | .throughPortDown => Sys2Proof.Machine.execThroughPortDown s
  | .linkUp link => Sys2Proof.Machine.execLinkUp link s
  | .trackSet => Sys2Proof.Machine.execTrackSet s
  | .trackRead => Sys2Proof.Machine.execTrackRead s
  | .trimCorrect => Sys2Proof.Machine.execTrimCorrect s
  | .sourceConfig => Sys2Proof.Machine.execSourceConfig s
  | .sourceClear => Sys2Proof.Machine.execSourceClear s
  | .sourceRead => Sys2Proof.Machine.execSourceRead s
  | .genLoad => Sys2Proof.Machine.execGenLoad s
  | .mixSet => Sys2Proof.Machine.execMixSet s
  | .mixTake => Sys2Proof.Machine.execMixTake s
  | .mixRead => Sys2Proof.Machine.execMixRead s
  | .streamSet => Sys2Proof.Machine.execStreamSet s
  | .streamRead => Sys2Proof.Machine.execStreamRead s
  | .meterConfig => Sys2Proof.Machine.execMeterConfig s
  | .meterRead => Sys2Proof.Machine.execMeterRead s
  | .takeOpen => Sys2Proof.Machine.execTakeOpen s
  | .takePause => Sys2Proof.Machine.execTakePause s
  | .takeResume => Sys2Proof.Machine.execTakeResume s
  | .takeClose => Sys2Proof.Machine.execTakeClose s
  | .takeProtect => Sys2Proof.Machine.execTakeProtect s
  | .takeUnprotect => Sys2Proof.Machine.execTakeUnprotect s
  | .takeDelete => Sys2Proof.Machine.execTakeDelete s
  | .takeList => Sys2Proof.Machine.execTakeList s
  | .storeFormat => Sys2Proof.Machine.execStoreFormat s
  | .storeConfig => Sys2Proof.Machine.execStoreConfig s
  | .storeStatus => Sys2Proof.Machine.execStoreStatus s
  | .readTake => Sys2Proof.Machine.execReadTake s
  | .readStop => Sys2Proof.Machine.execReadStop s
  | .unitStatus => Sys2Proof.Machine.execUnitStatus s
  | .query => Sys2Proof.Machine.execQuery s
  | .reserve => Sys2Proof.Machine.execReserve s
  | .release => Sys2Proof.Machine.execRelease s
  | .unitReset => Sys2Proof.Machine.execUnitReset s
  | .archiveProgramEnd ok grantFirst => Sys2Proof.Machine.execArchiveProgramEnd ok grantFirst s
  | .verifyFetchEnd answer grantFirst => Sys2Proof.Machine.execVerifyFetchEnd answer grantFirst s
  | .badMarkWriteEnd ok grantFirst => Sys2Proof.Machine.execBadMarkWriteEnd ok grantFirst s
  | .catalogProgramEnd ok grantFirst => Sys2Proof.Machine.execCatalogProgramEnd ok grantFirst s
  | .catalogVerifyEnd answer grantFirst => Sys2Proof.Machine.execCatalogVerifyEnd answer grantFirst s
  | .catalogEraseEnd ok grantFirst => Sys2Proof.Machine.execCatalogEraseEnd ok grantFirst s
  | .eraseEnd ok grantFirst => Sys2Proof.Machine.execEraseEnd ok grantFirst s
  | .formatEraseEnd ok grantFirst => Sys2Proof.Machine.execFormatEraseEnd ok grantFirst s
  | .mountCatalogFetchEnd answer grantFirst => Sys2Proof.Machine.execMountCatalogFetchEnd answer grantFirst s
  | .mountSpareFetchEnd answer grantFirst => Sys2Proof.Machine.execMountSpareFetchEnd answer grantFirst s
  | .recoveryFetchEnd answer grantFirst => Sys2Proof.Machine.execRecoveryFetchEnd answer grantFirst s
  | .timeLimitExpiry => Sys2Proof.Machine.execTimeLimitExpiry s
  | .readoutFetchEnd answer grantFirst => Sys2Proof.Machine.execReadoutFetchEnd answer grantFirst s
  | .frameHeaderTaken dir word => Sys2Proof.Machine.execFrameHeaderTaken dir word s
  | .bodyWordTaken dir word => Sys2Proof.Machine.execBodyWordTaken dir word s

end Sys2Proof.Machine
end

