-- ==== Sys2Proof/Safety.lean ====
section
/-!
DEFINITION. What a state of the block keeps in every run: the bounds and laws the rules give each
block, as predicates of the state that claims use.
-/

namespace Sys2Proof.Machine

/-- No egress queue holds more frames than its capacity (R10). -/
abbrev LinkUnit.Bounded (l : LinkUnit) : Prop :=
  l.repeatQ.length ≤ Config.repeatCap ∧ l.stageReplyQ.length ≤ Config.stageReplyCap
    ∧ l.relayQ.length ≤ Config.relayCap ∧ l.streamQ.length ≤ Config.streamCap
    ∧ l.programReplyQ.length ≤ Config.programReplyCap ∧ l.readoutQ.length ≤ Config.readoutCap

/-- The request queue holds at most 16 requests in arrival order, each with an arrival number below the
next one, and never two with one identity (R180). -/
abbrev RequestQueue.Lawful (q : RequestQueue) : Prop :=
  q.entries.length ≤ Config.requestCap
    ∧ q.entries.Pairwise (fun a b => a.arrival < b.arrival ∧ a.is b.origin b.station b.number = false)
    ∧ ∀ e ∈ q.entries, e.arrival < q.nextArrival

/-- A bank holds 1024 coefficients of the coefficient range (R145). -/
abbrev BankLawful (bank : List Int) : Prop :=
  bank.length = Config.coefficients ∧ ∀ c ∈ bank, -8388608 ≤ c ∧ c ≤ 8388607

/-- Both banks and a present glide start set are lawful (R145, R146). -/
abbrev MixEngine.Lawful (m : MixEngine) : Prop :=
  BankLawful m.active ∧ BankLawful m.pendingBank ∧ ∀ g ∈ m.glideStart, BankLawful g

/-- A route entry's fields are in their ranges (R37). -/
abbrev Route.InRange (r : Route) : Prop :=
  r.source ≤ Config.generatorSource ∧ r.slot < Config.slots ∧ r.delay ≤ Config.delayMax
    ∧ r.trim ≤ Config.trimMax ∧ (∀ s ∈ r.filter, 8 ≤ s ∧ s ≤ 11) ∧ r.maxOrder ≤ 3

/-- The route table has 128 entries in range, the enabled delays fit the pool, and at 96 kHz no entry
from 64 on is enabled (R37, R38, R44). -/
abbrev TrackConditioner.Lawful (c : TrackConditioner) (rate : Rate) : Prop :=
  c.routes.length = Config.tracks ∧ (∀ r ∈ c.routes, r.InRange)
    ∧ poolCount c.routes ≤ Config.poolCells
    ∧ (rate = .k96 → ∀ r ∈ c.routes.drop Config.tracksAt96, r.enabled = false)

/-- Each track's delay line holds exactly as many cells as its delay while it is enabled, and none while
it is disabled (R43, R44). -/
abbrev TrackConditioner.LinesLawful (c : TrackConditioner) : Prop :=
  c.routes.length = Config.tracks ∧ c.lines.length = Config.tracks
    ∧ ∀ x ∈ c.routes.zip c.lines, x.2.length = if x.1.enabled then x.1.delay else 0

/-- The packet queue holds at most 16384 words (R74), and the settings are in their ranges (R125). -/
abbrev StoreController.Bounded (c : StoreController) : Prop :=
  c.queue.length ≤ Config.queueWords ∧ 1024 ≤ c.backlog ∧ c.backlog ≤ 16384
    ∧ 1 ≤ c.holdTime ∧ c.holdTime ≤ 65535 ∧ c.lowMark ≤ 131072

/-- An arrived frame has a 16-bit sequence number and 1 to 32 samples of the sample range (R22). -/
abbrev SampleFrame.InRange (f : SampleFrame) : Prop :=
  f.seq < 65536 ∧ 1 ≤ f.samples.length ∧ f.samples.length ≤ Config.slots
    ∧ ∀ x ∈ f.samples, -8388608 ≤ x ∧ x ≤ 8388607

/-- A source record's fields are in their ranges (R21). -/
abbrev SourceRecord.InRange (r : SourceRecord) : Prop :=
  r.acquire ≤ Config.acquireGoal ∧ r.misses ≤ 255 ∧ 1 ≤ r.limit ∧ r.limit ≤ 255
    ∧ r.fifo.length ≤ Config.fifoCap ∧ (∀ f ∈ r.fifo, f.InRange) ∧ (∀ l ∈ r.lastSeq, l < 65536)
    ∧ r.accepted ≤ Config.countMax ∧ r.duplicates ≤ Config.countMax
    ∧ r.overruns ≤ Config.countMax ∧ r.gaps ≤ Config.countMax ∧ r.malformed ≤ Config.countMax
    ∧ r.lapses ≤ Config.countMax

/-- The row counter, the sixteen source records and the foreign count are in their ranges
(R19, R21). -/
abbrev SourceMonitor.InRange (m : SourceMonitor) : Prop :=
  m.rowCounter < Config.archiveRows ∧ m.records.length = Config.stageSources
    ∧ (∀ r ∈ m.records, r.InRange) ∧ m.foreign ≤ Config.countMax

/-- A level meter's values are in their ranges after `n` rows of its window: every peak and RMS at most
8388608, every mean square at most 2^46, the running sum at most 2^46 a row (R169). -/
abbrev LevelMeter.InRange (m : LevelMeter) (n : Nat) : Prop :=
  m.runPeak ≤ 8388608 ∧ m.runSum ≤ n * 2 ^ 46 ∧ m.peak ≤ 8388608 ∧ m.meanSquare ≤ 2 ^ 46
    ∧ m.rms ≤ 8388608 ∧ m.longRms ≤ 8388608 ∧ m.ring.length ≤ Config.ringCap
    ∧ ∀ v ∈ m.ring, v ≤ 2 ^ 46

/-- The levels, the over and quiet counts, the settings and the window counter are in their ranges
(R169, R170, R173, R177). A counter of W is a window end that is due (log 2). -/
abbrev MeterUnit.InRange (m : MeterUnit) (rate : Rate) : Prop :=
  (∀ x ∈ m.levels, x.InRange m.windowCounter)
    ∧ (∀ x ∈ m.tracks, x.overs ≤ Config.countMax ∧ x.quiet ≤ 255)
    ∧ 1 ≤ m.overLevel ∧ m.overLevel ≤ 8388608 ∧ m.silenceThreshold ≤ 8388607
    ∧ 1 ≤ m.silenceWindows ∧ m.silenceWindows ≤ 255 ∧ m.windowCounter ≤ windowLength rate

/-- A command's outcome is a next state of which `p` holds. -/
def Completes (o : Host.Outcome State Fault Refusal) (p : State → Prop) : Prop := ∃ t, o = .next t ∧ p t

/-- An operation is at the store port: waiting there or in flight (R118). -/
def State.AtPort (s : State) (op : PortOp) : Prop :=
  op ∈ s.store.waiting ∨ s.store.inFlight.map PortJob.op = some op

/-- The straps, sources, tracks, mix, stream and meters are as before: what no event of the store, of a
take or of a readout touches. -/
def SamplePathKept (s t : State) : Prop :=
  t.rate = s.rate ∧ t.unit = s.unit ∧ t.sources = s.sources ∧ t.tracks = s.tracks ∧ t.mix = s.mix
    ∧ t.stream = s.stream ∧ t.meter = s.meter

/-- A request now stands in the queue as ACTIVE, all others as before (R184, R187). -/
def HeldActive (s : State) (e : Entry) (t : State) : Prop :=
  t.requests.entries = s.requests.entries.map fun x =>
    if x.arrival = e.arrival then { x with active := true } else x

/-- A catalog write asked for now starts at once (R97): none is in flight, module 0 answers, and the
sequence can rise. -/
def State.CatalogReady (s : State) : Prop :=
  s.takes.write = none ∧ s.store.answers 0 = true ∧ s.takes.catSeq < Config.indexMax

/-- The catalog write asked for in `s` has started on the way to `t` (R96, R97, R99): its image is that of
the table in `t` and `w` waits on it; it programs the next catalog page with the next sequence, or, with
the current catalog extent full, first erases the other one. -/
def CatalogWriteBegun (s t : State) (w : Waiter) : Prop :=
  t.takes.write = some ⟨t.takes.image, 0, [w]⟩ ∧ t.takes.waiting = s.takes.waiting
    ∧ t.takes.catCurrent = s.takes.catCurrent
    ∧ (s.takes.catNext < 128 → t.takes.catSeq = s.takes.catSeq + 1 ∧ t.takes.catNext = s.takes.catNext + 1
      ∧ t.AtPort (.catalogProgram ⟨s.takes.catCurrent, s.takes.catNext⟩
        (catalogPage t.takes.image (s.takes.catSeq + 1) s.takes.catNext)))
    ∧ (128 ≤ s.takes.catNext → t.takes.catSeq = s.takes.catSeq ∧ t.takes.catNext = s.takes.catNext
      ∧ t.AtPort (.catalogErase (1 - s.takes.catCurrent)))

/-- The catalog write asked for in `s` waits behind the one in flight on the way to `t` (R97): `w` waits on it,
with everyone that already waited, and the catalog position is as it was. -/
def CatalogWriteJoined (s t : State) (w : Waiter) : Prop :=
  t.takes.write = s.takes.write ∧ t.takes.waiting = some (s.takes.waiting.getD [] ++ [w])
    ∧ t.takes.catCurrent = s.takes.catCurrent ∧ t.takes.catNext = s.takes.catNext
    ∧ t.takes.catSeq = s.takes.catSeq

/-- A catalog write asked for now fails at once (R97, R98): none is in flight, and module 0 does not answer or
the sequence is at its greatest value. That the sequence is tested before an erase is log 13. -/
def State.CatalogStopped (s : State) : Prop :=
  s.takes.write = none ∧ (s.store.answers 0 = false ∨ Config.indexMax ≤ s.takes.catSeq)

/-- The catalog write asked for in `s` has failed at once on the way to `t` (R98): none is in flight, and the
catalog position is as it was. -/
def CatalogWriteFailed (s t : State) : Prop :=
  t.takes.write = none ∧ t.takes.waiting = s.takes.waiting ∧ t.takes.catCurrent = s.takes.catCurrent
    ∧ t.takes.catNext = s.takes.catNext ∧ t.takes.catSeq = s.takes.catSeq

/-- A served store operation holds the store operation slot, its request ACTIVE, all else of the Request
Queue as before (R184, R187). -/
def HoldsSlot (s : State) (e : Entry) (k : StoreOpKind) (t : State) : Prop :=
  t.requests = { s.requests with
    entries := s.requests.entries.map fun x =>
      if x.arrival = e.arrival then { x with active := true } else x
    storeOp := some ⟨k, e.arrival⟩ }

/-- A running readout's arrival number was given out, and a request of the queue that bears it has the
readout's origin (R128, R180). -/
def State.ReadoutNamed (s : State) : Prop :=
  s.readout.state ≠ .idle → s.readout.arrival < s.requests.nextArrival
    ∧ ∀ x ∈ s.requests.entries, x.arrival = s.readout.arrival → x.origin = s.readout.origin

/-- The queue server's choice is `e`, with a given code, in a lawful queue (R180, R186). -/
def Served (s : State) (c : RequestCode) (e : Entry) : Prop :=
  s.choice = some e ∧ e.code = c ∧ s.requests.Lawful

/-- A request has completed with a status and result words (R188, R190): it has left the queue; unless
it was a broadcast, its reply, with the alert summary of `m`, was offered to the reply queue of its origin; a
broadcast that ended otherwise than DONE was counted. `l` is the Link Unit before the reply was offered, `q`
the Request Queue before the request left it. -/
def AnsweredIn (m : State) (l : LinkUnit) (q : RequestQueue) (e : Entry) (st : Status) (result : List Word)
    (t : State) : Prop :=
  t.link = (if e.broadcast then l
      else l.offerReply e.origin (m.replyFrame e.station e.number e.code.number st result))
    ∧ t.requests = { q with
        entries := q.entries.filter fun x => x.arrival ≠ e.arrival
        broadcastRefused := if e.broadcast && st ≠ .done then countUp q.broadcastRefused 1
          else q.broadcastRefused }

/-- A request has completed, its reply with the alert summary of the new state. -/
def Answered (l : LinkUnit) (q : RequestQueue) (e : Entry) (st : Status) (result : List Word) (t : State) :
    Prop := AnsweredIn t l q e st result t

/-- What an answered request has done: the state is `u` but for the Link Unit and the Request Queue, the
request has left the queue of `u`, and its reply was offered to the Link Unit of `u`. -/
def Ends (u : State) (e : Entry) (st : Status) (result : List Word) (t : State) : Prop :=
  t = { u with link := t.link, requests := t.requests } ∧ Answered u.link u.requests e st result t

/-- Every table has the size the rules give it (R21, R37, R56, R155, R159, R169), and every track set
names its tracks in ascending order (R40, R60). -/
def State.Sized (s : State) : Prop :=
  s.sources.records.length = 16 ∧ s.sources.conceal.length = 128 ∧ s.tracks.routes.length = 128
    ∧ s.tracks.lines.length = 128 ∧ s.tracks.filters.length = 128 ∧ s.tracks.routeMarks.length = 128
    ∧ s.tracks.saturations.length = 128 ∧ s.coder.blocks.length = 128 ∧ s.mix.clips.length = 8
    ∧ s.stream.length = 8 ∧ s.meter.levels.length = 136 ∧ s.meter.tracks.length = 128
    ∧ s.store.modules.length = 4
    ∧ ∀ k ∈ s.takes.records, k.trackSet.Pairwise (· < ·) ∧ ∀ n ∈ k.trackSet, n < 128

/-- A take record whose fields a catalog slot can hold (R81, R199, R200): each in its range, a label of 1 to
32 characters or none, and pauses that start and end at 1 or above. -/
abbrev TakeRecord.Storable (k : TakeRecord) : Prop :=
  k.number < 65536 ∧ k.lossCount < 65536 ∧ k.pageCount ≤ 16777216 ∧ k.packetCount < 2 ^ 32
    ∧ (∀ i ∈ k.endIndex, i < 2 ^ 32) ∧ k.trackSet.Pairwise (· < ·) ∧ (∀ n ∈ k.trackSet, n < 128)
    ∧ (∀ l ∈ k.label, l ≠ [] ∧ l.length ≤ 32 ∧ ∀ c ∈ l, 32 ≤ c ∧ c ≤ 126)
    ∧ k.pauses.length ≤ Config.pauseCap
    ∧ ∀ i ∈ k.pauses, 1 ≤ i.start ∧ i.start < 2 ^ 32 ∧ ∀ e ∈ i.stop, 1 ≤ e ∧ e < 2 ^ 32

/-- One above the highest extent sequence of a take's chain, and 0 where the chain is empty (R107). -/
def StoreController.chainNext (c : StoreController) (take : Nat) : Nat :=
  (((c.table.filterMap fun y => y.2.owner).filter fun o => o.take = take).map fun o => o.seq + 1).foldr max 0

/-- A page image is that of a staging page in an extent of a given sequence (R104): four header words, the
packet words, words of 0; and the spare words with the page check. -/
def PageImage.Holds (p : PageImage) (g : StagingPage) (seq : Nat) : Prop :=
  p.data = [natWord g.take, natWord g.pageSeq, natWord g.firstOffset, natWord (4 + g.words.length)]
      ++ (g.words.map PacketWord.word ++ List.replicate 4092 0).take 4092
    ∧ p.spare = [natWord g.take, natWord g.pageSeq, natWord seq, ~~~(Word.sum p.data)]
      ++ List.replicate 12 0xFFFFFFFF

/-- A staging page `p` has become `q` by taking the packet words `ws` (R110): an EMPTY page starts only with
words, as page `seq` of the take; only a page that was EMPTY or FILLING takes any, to 4096 used words at
most, where it is no longer FILLING; its first packet offset is that of the first packet start it took. -/
def StagingPage.Took (p q : StagingPage) (take seq : Nat) (ws : List PacketWord) : Prop :=
  let base : StagingPage := if p.state = .empty then { take := take, pageSeq := seq } else p
  (p.state = .empty → ws = [] → q = p)
    ∧ (p.state ≠ .empty → p.state ≠ .filling → ws = [])
    ∧ (p.state ≠ .empty ∨ ws ≠ [] → q.state ≠ .empty ∧ q.take = base.take ∧ q.pageSeq = base.pageSeq
      ∧ q.words = base.words ++ ws
      ∧ q.firstOffset = if base.firstOffset ≠ 0 then base.firstOffset
        else match ws.findIdx? PacketWord.first with
          | some i => 4 + base.words.length + i
          | none => 0)
    ∧ (ws ≠ [] → q.words.length ≤ 4092 ∧ (q.state = .filling → q.words.length < 4092))

/-- Nothing that a row has brought due waits for its command (log 2). -/
def State.NothingDue (s : State) : Prop :=
  s.sources.boundaryDue = false ∧ s.meter.windowCounter < windowLength s.rate
    ∧ (s.readout.state = .holding → s.readout.countdown ≠ 0)
    ∧ ∀ j ∈ s.store.inFlight, j.rows < Config.timeLimit

/-- The page a module operation writes to or erases; none for one that only reads (R103). -/
def PortOp.writes : PortOp → Nat → Prop
  | .catalogProgram a _, k | .archiveProgram a _, k => k = a.key
  | .archiveBadMark e, k | .eraserBadMark e, k => k = PageAddress.key ⟨e, 0⟩
  | .catalogErase e, k | .eraserErase e, k | .formatErase e, k => k / Config.extentPages = e
  | .catalogVerify _ _, _ | .archiveVerify _ _, _ | .mountFetch _, _ | .mountSpare _, _
  | .recoveryFetch _, _ | .readoutFetch _ _, _ => False

end Sys2Proof.Machine
end

