-- ==== Sys2Proof/Certificates/Slice0/Obligations.lean ====
section
/-!
DEFINITION. The statements for the provers, one definition each. The quotes and the rules they rest on
stand in OBLIGATIONS.json.
-/

open Sys2Proof Sys2Proof.Machine

/-! ## Every command -/

/-- Each step takes the command at the front of the queue and carries it out with the queue's rest.
(That an empty queue idles is the model's choice: assumption log 4.) -/
def Obligations.StepTakesFrontCommand : Prop :=
  ∀ (c : Instr) (cs : List Instr) (s : State),
    (s.pending = c :: cs → step s = exec c { s with pending := cs }) ∧ (s.pending = [] → step s = .next s)

/-- Every command completes in every state, leaves the waiting commands as they are, and, but for
POWER_ON, leaves the straps' values (R201: held until the next power-on). That a command whose event
cannot take place changes nothing and answers a next state is the model's reading (log 1). -/
def Obligations.EveryCommandCompletes : Prop :=
  ∀ (c : Instr) (s : State), Completes (exec c s) fun t =>
    t.pending = s.pending
      ∧ ((∀ r u a b d f x y z, c ≠ .powerOn r u a b d f x y z) → t.rate = s.rate ∧ t.unit = s.unit)

/-! ## What every step keeps -/

/-- No egress queue ever holds more frames than its capacity (R10). -/
def Obligations.EgressQueuesStayBounded : Prop :=
  ∀ s t : State, s.link.Bounded → step s = .next t → t.link.Bounded

/-- The request queue never holds more than 16 requests and never two of one identity; arrival numbers
rise along it (R180). The request a running readout answers keeps the readout's origin (R128, R184). -/
def Obligations.RequestQueueStaysLawful : Prop :=
  ∀ s t : State, s.requests.Lawful → step s = .next t →
    t.requests.Lawful ∧ (s.ReadoutNamed → t.ReadoutNamed)

/-- Both banks keep 1024 coefficients of the coefficient range (R145, R147). -/
def Obligations.CoefficientsStayInRange : Prop :=
  ∀ s t : State, s.mix.Lawful → step s = .next t → t.mix.Lawful

/-- The route table keeps its 128 entries in range, the delays of the enabled tracks never exceed the
pool, and at 96 kHz no entry from 64 on is ever enabled (R37, R38, R44). -/
def Obligations.RouteTableStaysLawful : Prop :=
  ∀ s t : State, s.tracks.Lawful s.rate → step s = .next t → t.tracks.Lawful t.rate

/-- A delay line always holds exactly as many samples as its track's delay, a disabled track none
(R43, R45). -/
def Obligations.DelayLinesStayAsLongAsTheirDelay : Prop :=
  ∀ s t : State, s.tracks.LinesLawful → step s = .next t → t.tracks.LinesLawful

/-- The packet queue never holds more than 16384 words, and the store's settings stay in their ranges
(R74, R125). -/
def Obligations.PacketQueueStaysBounded : Prop :=
  ∀ s t : State, s.store.Bounded → step s = .next t → t.store.Bounded

/-- The modules' contents keep their canonical form, so that equal contents are equal data (R103). -/
def Obligations.ModuleContentsStayCanonical : Prop :=
  ∀ s t : State, s.flash.Wf → step s = .next t → t.flash.Wf

/-- The row counter, every source record with its waiting frames, and the meters' levels, rings, counts and
settings stay in the ranges of R19, R21, R22, R169, R173 and R177. The window counter stays at most W, where
W itself is a window end that is due and waits for its command (the model's choice, log 2). -/
def Obligations.CountsStayInRange : Prop :=
  ∀ s t : State, s.sources.InRange → s.meter.InRange s.rate → step s = .next t →
    t.sources.InRange ∧ t.meter.InRange t.rate

/-- Every table keeps the size the rules give it (R21, R37, R56, R103, R155, R159, R169), and every record's
track set stays in ascending order (R40, R60). -/
def Obligations.TablesKeepTheirSizes : Prop := ∀ s t : State, s.Sized → step s = .next t → t.Sized

/-- A module's page changes only where the operation in flight writes it (R103, R108): no command changes
a page that the operation in flight before it does not write, whether that ends, fails or is cut. -/
def Obligations.PagesChangeOnlyWhereWritten : Prop :=
  ∀ (c : Instr) (s t : State) (k : Nat), s.flash.Wf → exec c s = .next t →
    (∀ j ∈ s.store.inFlight, ¬ j.op.writes k) → t.flash.read k = s.flash.read k

/-- The state after reset meets every one of these. -/
def Obligations.ResetMeetsEveryLaw : Prop :=
  let s := State.reset
  s.link.Bounded ∧ s.requests.Lawful ∧ s.mix.Lawful ∧ s.tracks.Lawful s.rate ∧ s.tracks.LinesLawful
    ∧ s.store.Bounded ∧ s.flash.Wf ∧ s.sources.InRange ∧ s.meter.InRange s.rate ∧ s.Sized
    ∧ s.NothingDue ∧ s.ReadoutNamed

/-! ## Archive and stream coding -/

/-- An archive packet gives back exactly the 256 samples it was coded from, from its words alone
(04_archive_coding.md, "Reading a packet back"). -/
def Obligations.ArchivePacketGivesBackItsSamples : Prop :=
  ∀ (xs : List Int) (maxOrder track index concealedCount : Nat) (f : PacketFlags),
    xs.length = 256 → (∀ x ∈ xs, -8388608 ≤ x ∧ x ≤ 8388607) → maxOrder ≤ 3 → track < 128 →
    index < 2 ^ 32 → concealedCount ≤ 256 →
    readPacket (packetWords track index concealedCount f (codeSamples xs maxOrder)) = xs

/-- Every archive packet is 4 to 195 words long; a CONSTANT payload is 24 bits, a VERBATIM one 6144, a
PREDICTED one at least 276 and below 6144, and the words number 3 + ceil(bits / 32) (R69, R73). Its header
words hold the mark, track, kind, order, flags, block index, payload length and concealed count, and 0 in
every other bit (R71, R199). -/
def Obligations.ArchivePacketSizes : Prop :=
  ∀ (xs : List Int) (maxOrder track index concealedCount : Nat) (f : PacketFlags),
    xs.length = 256 → maxOrder ≤ 3 →
    let c := codeSamples xs maxOrder
    let ws := packetWords track index concealedCount f c
    let n := ws.length
    n = 3 + (c.bits.length + 31) / 32 ∧ 4 ≤ n ∧ n ≤ 195
      ∧ ((c.kind = 0 ∧ c.bits.length = 24) ∨ (c.kind = 1 ∧ 276 ≤ c.bits.length ∧ c.bits.length < 6144)
        ∨ (c.kind = 2 ∧ c.bits.length = 6144))
      ∧ (track < 128 → index < 2 ^ 32 → concealedCount ≤ 256 →
        let w := ws.getD 0 0
        field w 31 24 = 0xA5 ∧ field w 23 17 = track ∧ field w 16 15 = c.kind ∧ field w 14 13 = c.order
          ∧ field w 12 5 = 0 ∧ bitSet w 0 = f.concealed ∧ bitSet w 1 = f.clipped ∧ bitSet w 2 = f.silent
          ∧ bitSet w 3 = f.loss ∧ bitSet w 4 = f.sourceChanged
          ∧ (ws.getD 1 0).toNat = index ∧ field (ws.getD 2 0) 31 16 = c.bits.length
          ∧ field (ws.getD 2 0) 15 0 = concealedCount)

/-- A residual maps to 2e when it is 0 or greater and to -2e - 1 when it is below 0; the map is undone by its
inverse; a residual of any order maps to at most 134217720, which fits 27 bits (R64). The Rice parameter of
a partition is the largest number from 0 to 22 that passes the test of R66, and 0 where none does. -/
def Obligations.ResidualMapAndRiceParameter : Prop :=
  (∀ e : Int, (0 ≤ e → (zigzag e : Int) = 2 * e) ∧ (e < 0 → (zigzag e : Int) = -2 * e - 1)
    ∧ unzigzag (zigzag e) = e
    ∧ (-67108860 ≤ e → e ≤ 67108860 → zigzag e ≤ 134217720 ∧ zigzag e < 2 ^ 27))
  ∧ ∀ us : List Nat,
    let c := us.length
    let u := us.sum
    let r := riceParameter us
    r ≤ 22 ∧ (c ≤ u → c * 2 ^ r ≤ u) ∧ (∀ k, k ≤ 22 → c * 2 ^ k ≤ u → k ≤ r)
      ∧ (u < c → r = 0) ∧ (c * 2 ^ 22 ≤ u → r = 22)

/-- The shift of a block is the smallest that fits its peak, at most 24 - M; a peak of 8388608 takes the
top shift, and a block of zeros 0 (R162). -/
def Obligations.StreamShiftIsSmallest : Prop :=
  ∀ (m : Nat) (ys : List Int), (m = 16 ∨ m = 20) → (∀ y ∈ ys, -8388608 ≤ y ∧ y ≤ 8388607) → ys ≠ [] →
    let p := blockPeak ys
    let s := blockShift m p
    (∀ y ∈ ys, y.natAbs ≤ p) ∧ (∃ y ∈ ys, y.natAbs = p) ∧ p ≤ 8388608 ∧ s ≤ 24 - m
      ∧ (∀ k, k < s → 2 ^ (m - 1 + k) ≤ p) ∧ (p ≠ 8388608 → p < 2 ^ (m - 1 + s))
      ∧ (p = 8388608 → s = 24 - m) ∧ (p = 0 → s = 0)

/-- A mantissa lies in its M bits; with shift 0 it is the sample; otherwise it reconstructs the sample to
within half a step, save that a positive sample rounded past the top is clamped to it (R163). -/
def Obligations.MantissaReconstructs : Prop :=
  ∀ (m : Nat) (ys : List Int) (y : Int), (m = 16 ∨ m = 20) → (∀ y ∈ ys, -8388608 ≤ y ∧ y ≤ 8388607) →
    y ∈ ys →
    let s := blockShift m (blockPeak ys)
    let v := mantissa m s y
    v ≤ 2 ^ (m - 1) - 1 ∧ -(2 ^ (m - 1) : Int) ≤ v ∧ (s = 0 → v = y)
      ∧ (0 < s → (v = 2 ^ (m - 1) - 1 ∧ 2 ^ (m - 1) * 2 ^ s - 2 ^ (s - 1) ≤ y)
        ∨ (-(2 ^ (s - 1) : Int) < v * 2 ^ s - y ∧ v * 2 ^ s - y ≤ 2 ^ (s - 1)))

/-! ## Words and frames -/

/-- A word taken in HUNT on a link that is UP (R3): a stray word and a framing error are counted and change
nothing else; a header begins a frame and changes nothing else. A body word is kept and summed, the last one
bringing the parser to CHECK, and an IDLE word in BODY or CHECK abandons the frame (R4): the abandoned count
rises, the parser is in HUNT, and nothing else changes. -/
def Obligations.EachWordTaken : Prop :=
  ∀ (d : Rx) (w : Word) (s : State), s.link.receiving d = true →
    (s.link.parser d = .hunt →
      (headerMark w ≠ 0xB4 → Completes (exec (.strayWord d w) s) fun t =>
        t = { s with link := { s.link with stray := s.link.stray.raise d } })
      ∧ (headerMark w = 0xB4 → headerLength w < 3 ∨ 64 < headerLength w →
        Completes (exec (.framingError d w) s) fun t =>
          t = { s with link := { s.link with framing := s.link.framing.raise d } })
      ∧ (headerMark w = 0xB4 → 3 ≤ headerLength w → headerLength w ≤ 64 →
        Completes (exec (.frameHeaderTaken d w) s) fun t =>
          t = { s with link := s.link.setParser d (.body w [] w) }))
    ∧ (∀ (h : Word) (taken : List Word) (sum : Word), s.link.parser d = .body h taken sum →
      (taken.length + 3 < headerLength h → Completes (exec (.bodyWordTaken d w) s) fun t =>
        t = { s with link := s.link.setParser d (.body h (taken ++ [w]) (sum + w)) })
      ∧ (headerLength h = taken.length + 3 → Completes (exec (.bodyWordTaken d w) s) fun t =>
        t = { s with link := s.link.setParser d (.check h (taken ++ [w]) (sum + w)) }))
    ∧ (s.link.parser d ≠ .hunt → Completes (exec (.frameAbandoned d) s) fun t =>
      t.link.parser d = .hunt
        ∧ t = { s with link := { s.link.setParser d .hunt with abandoned := s.link.abandoned.raise d } })

/-- A header of length n and n - 2 body words, whatever their values, bring the parser from HUNT to CHECK
with every word kept in order and their wrapping sum formed, and change nothing else (R3, R4). -/
def Obligations.FrameCollectedWordByWord : Prop :=
  ∀ (d : Rx) (h : Word) (body : List Word) (s : State),
    s.link.receiving d = true → s.link.parser d = .hunt → headerMark h = 0xB4 → 3 ≤ headerLength h →
    headerLength h ≤ 64 → body.length + 2 = headerLength h →
    s.pending = .frameHeaderTaken d h :: body.map (.bodyWordTaken d) →
    Host.Core.run Sys2Proof.core (body.length + 1) s
      = .next { s with pending := [], link := s.link.setParser d (.check h body (Word.sum (h :: body))) }

/-- A frame the part originates carries the mark, its kind, this unit's number, its true length and its
aux, and the wrapping sum of all its words plus 0x00005A33 is 0xFFFFFFFF (R2, R9). A REPLY holds the
request's station, number and code, the status and the alert summary, whose six bits are the six conditions
of R189, then the result words (R188, R196). A STREAM frame of a bus holds its block sequence, gap flag,
width and shift, then the 32 mantissas in fields of that width, most significant bit first (R164, R196). -/
def Obligations.OriginatedFramesAreSound : Prop :=
  (∀ (unit kind aux : Nat) (body : List Word), unit < 32 → kind < 16 → aux < 256 → body.length ≤ 62 →
    let f := makeFrame unit kind aux body
    let h := f.headD 0
    headerMark h = 0xB4 ∧ headerKind h = kind ∧ headerAux h = aux ∧ headerUnit h = unit
      ∧ headerLength h = f.length ∧ f.length = body.length + 2 ∧ (f.drop 1).take body.length = body
      ∧ Word.sum f + 0x00005A33 = 0xFFFFFFFF)
  ∧ (∀ (s : State) (station number : Nat) (c : RequestCode) (st : Status) (result : List Word),
    station < 8 → number < 256 →
    let f := s.replyFrame station number c.number st result
    let w := f.getD 1 0
    let a := f.getD 2 0
    f = makeFrame s.unit 3 0 (w :: a :: result)
      ∧ field w 31 24 = station ∧ field w 23 16 = number ∧ RequestCode.ofNumber (field w 15 8) = some c
      ∧ ([.done, .badRequest, .badOperand, .noSpace, .wrongState, .reserved, .isProtected, .queueFull,
          .duplicate, .aborted, .storeFault] : List Status)[field w 7 0]? = some st
      ∧ a.toNat < 64
      ∧ (bitSet a 0 = true ↔ ∃ r ∈ s.sources.records, r.presence = .lapsed)
      ∧ (bitSet a 1 = true ↔ ∃ k, s.liveTake = some k ∧ 0 < k.lossCount)
      ∧ (bitSet a 2 = true ↔ s.store.freeList.length < s.store.lowMark)
      ∧ (bitSet a 3 = true ↔
        (∃ ws, s.store.writeState = some ws ∧ ws.stalled = true) ∨ s.store.backlog < s.store.queue.length)
      ∧ (bitSet a 4 = true ↔ .fault ∈ s.store.modules ∨ s.store.state = .fault)
      ∧ bitSet a 5 = s.meter.clipAlert)
  ∧ ∀ (b : StreamBus) (unit bus m : Nat) (ys : List Int), m = 16 ∨ m = 20 → b.buffer = ys.map some →
    ys.length = 32 → (∀ y ∈ ys, -8388608 ≤ y ∧ y ≤ 8388607) →
    let f := b.frame unit bus m
    let w := f.getD 2 0
    let shift := blockShift m (blockPeak ys)
    f = makeFrame unit 4 bus (f.tail.dropLast) ∧ f.length = (if m = 16 then 20 else 24)
      ∧ (b.seq < 2 ^ 32 → (f.getD 1 0).toNat = b.seq)
      ∧ bitSet w 16 = b.gap ∧ field w 15 8 = m ∧ field w 7 0 = shift ∧ w.toNat < 2 ^ 17
      ∧ ∀ j, j < 32 → signedOf m (bitsNat (((unpackWords (f.drop 3)).drop (m * j)).take m))
        = mantissa m shift (ys.getD j 0)

/-- A complete stage frame is dealt with by its check, its kind and its unit field (R5): a failed check
delivers nothing and repeats the frame; SAMPLE goes to the Source Monitor and is repeated; MANAGE for
this unit is consumed; MANAGE for unit 31 is delivered and repeated; any other frame is repeated. -/
def Obligations.StageFrameComplete : Prop :=
  ∀ (s : State) (h check : Word) (body : List Word) (sum : Word),
    s.link.stageUp = true → s.link.rxStage = .check h body sum →
    let frame := h :: (body ++ [check])
    let bad := { s.link with rxStage := .hunt, checkFailures := s.link.checkFailures.raise .stageForward }
    let good := { s.link with rxStage := .hunt, accepted := s.link.accepted.raise .stageForward }
    (check ≠ ~~~(sum + 0x00005A33) → Completes (exec (.stageFrameComplete check) s) fun t =>
      t = { s with link := bad.offerRepeat frame })
    ∧ (check = ~~~(sum + 0x00005A33) → headerKind h = 1 →
      Completes (exec (.stageFrameComplete check) s) fun t =>
        t = { s with link := good.offerRepeat frame, sources := s.sources.sampleArrives h body })
    ∧ (check = ~~~(sum + 0x00005A33) → headerKind h = 2 → headerUnit h = s.unit →
      Completes (exec (.stageFrameComplete check) s) fun t =>
        t = ({ s with link := good } : State).requestArrives .stage false body)
    ∧ (check = ~~~(sum + 0x00005A33) → headerKind h = 2 → headerUnit h ≠ s.unit → headerUnit h = 31 →
      Completes (exec (.stageFrameComplete check) s) fun t =>
        t = ({ s with link := good.offerRepeat frame } : State).requestArrives .stage true body)
    ∧ (check = ~~~(sum + 0x00005A33) → headerKind h ≠ 1 →
      (headerKind h ≠ 2 ∨ (headerUnit h ≠ s.unit ∧ headerUnit h ≠ 31)) →
      Completes (exec (.stageFrameComplete check) s) fun t =>
        t = { s with link := good.offerRepeat frame })

/-- What a complete frame from downstream or from the rack does (R7, R8). -/
def Obligations.ReturnFramesComplete : Prop :=
  ∀ (s : State) (h check : Word) (body : List Word) (sum : Word),
    (s.link.throughUp = true → s.link.rxThrough = .check h body sum →
      let bad := { s.link with
        rxThrough := .hunt, checkFailures := s.link.checkFailures.raise .throughReturn }
      let good := { s.link with rxThrough := .hunt, accepted := s.link.accepted.raise .throughReturn }
      Completes (exec (.throughReturnFrameComplete check) s) fun t =>
        t = { s with link :=
          if check ≠ ~~~(sum + 0x00005A33) then bad
          else if headerKind h = 3 then good.offerRelay (h :: (body ++ [check]))
          else { good with wrongKindThrough := countUp s.link.wrongKindThrough 1 } })
    ∧ (s.link.programUp = true → s.link.rxProgram = .check h body sum →
      let bad := { s.link with
        rxProgram := .hunt, checkFailures := s.link.checkFailures.raise .programReturn }
      let good := { s.link with rxProgram := .hunt, accepted := s.link.accepted.raise .programReturn }
      Completes (exec (.programReturnFrameComplete check) s) fun t =>
        t = if check ≠ ~~~(sum + 0x00005A33) then { s with link := bad }
          else if headerKind h ≠ 2 then
            { s with link := { good with wrongKindProgram := countUp s.link.wrongKindProgram 1 } }
          else if headerUnit h = s.unit then
            ({ s with link := good } : State).requestArrives .program false body
          else if headerUnit h = 31 then
            ({ s with link := good } : State).requestArrives .program true body
          else { s with link := { good with misaddressed := countUp s.link.misaddressed 1 } })

/-- A sample frame's arrival at the Source Monitor, in the order of R22 and R23: foreign, malformed,
duplicate, overrun, or accepted with the gap counted; no other record changes. -/
def Obligations.SampleFrameArrival : Prop :=
  ∀ (m : SourceMonitor) (h : Word) (body : List Word) (r : SourceRecord),
    let n := headerAux h
    let count := field (body.getD 0 0) 21 16
    let seq := field (body.getD 0 0) 15 0
    let m' := m.sampleArrives h body
    (15 < n → m' = { m with foreign := countUp m.foreign 1 })
    ∧ (n ≤ 15 → m.records[n]? = some r → (∀ k, k ≠ n → m'.records[k]? = m.records[k]?)
      ∧ m' = { m with records := m'.records }
      ∧ (count = 0 ∨ 32 < count ∨ body.length ≠ count + 1 →
        m'.records[n]? = some { r with malformed := countUp r.malformed 1 })
      ∧ (1 ≤ count → count ≤ 32 → body.length = count + 1 →
        (r.lastSeq = some seq → m'.records[n]? = some { r with duplicates := countUp r.duplicates 1 })
        ∧ (r.lastSeq ≠ some seq → 4 ≤ r.fifo.length →
          m'.records[n]? = some { r with overruns := countUp r.overruns 1 })
        ∧ (r.lastSeq ≠ some seq → r.fifo.length < 4 →
          ∃ q, m'.records[n]? = some q ∧ q.fifo = r.fifo ++ [⟨seq, body.tail.map sampleOf⟩]
            ∧ q.lastSeq = some seq ∧ q.accepted = countUp r.accepted 1
            ∧ (r.lastSeq = none → q.gaps = r.gaps)
            ∧ (∀ l, r.lastSeq = some l → l < 65536 → ∃ d, 1 ≤ d ∧ d ≤ 65535 ∧ (l + d) % 65536 = seq
              ∧ q.gaps = countUp r.gaps (d - 1))
            ∧ q = { r with fifo := q.fifo, lastSeq := q.lastSeq, accepted := q.accepted, gaps := q.gaps })))

/-- A request's arrival, tested in the order DUPLICATE, QUEUE_FULL, BAD_REQUEST (R181): a refused
arrival is answered at once, or only counted when it is a broadcast (R190); any other is entered at the
tail as QUEUED under the next arrival number, unless it is a broadcast of a code that may not be. -/
def Obligations.RequestArrival : Prop :=
  ∀ (s : State) (o : Origin) (body : List Word),
    let w := body.getD 0 0
    let same := fun x : Entry => x.origin = o ∧ x.station = field w 26 24 ∧ x.number = field w 23 16
    let counted : State :=
      { s with requests := { s.requests with broadcastRefused := countUp s.requests.broadcastRefused 1 } }
    let answer := fun st : Status => s.replyFrame (field w 26 24) (field w 23 16) (field w 15 8) st []
    let refused := fun (b : Bool) (st : Status) =>
      s.requestArrives o b body = if b then counted else { s with link := s.link.offerReply o (answer st) }
    ∀ b : Bool,
      ((∃ x ∈ s.requests.entries, same x) → refused b .duplicate)
      ∧ ((∀ x ∈ s.requests.entries, ¬ same x) → 16 ≤ s.requests.entries.length → refused b .queueFull)
      ∧ ((∀ x ∈ s.requests.entries, ¬ same x) → s.requests.entries.length < 16 →
        RequestCode.ofNumber (field w 15 8) = none → refused b .badRequest)
      ∧ ∀ c, (∀ x ∈ s.requests.entries, ¬ same x) → s.requests.entries.length < 16 →
        RequestCode.ofNumber (field w 15 8) = some c →
        s.requestArrives o b body =
          if b = true ∧ c.broadcastable = false then counted
          else { s with requests := { s.requests with
              nextArrival := s.requests.nextArrival + 1
              entries := s.requests.entries ++ [
                { origin := o, station := field w 26 24, number := field w 23 16, code := c
                  priority := field w 5 4, urgent := bitSet w 0, operands := body.tail, broadcast := b
                  arrival := s.requests.nextArrival, active := false }] } }

/-- The queue server's choice (R182, R185, R186). A QUEUED request is eligible when its scope's reservation is
free or its own station's or it carries URGENT, it is no store operation or that slot is free, and it is not
READ_TAKE or the readout slot is free. Where some request is eligible one is chosen; the choice is eligible,
and no eligible request comes before it: an URGENT one first, then one whose station holds a reservation,
then by priority, and among those of one rank the oldest. -/
def Obligations.QueueServerChoice : Prop :=
  ∀ s : State, s.requests.Lawful → (∀ x ∈ s.requests.entries, x.priority ≤ 3) →
    let config : List RequestCode := [.trackSet, .trimCorrect, .mixSet, .mixTake, .streamSet, .meterConfig,
      .genLoad, .sourceConfig, .sourceClear]
    let operation : List RequestCode := [.takeOpen, .takePause, .takeResume, .takeClose, .takeProtect,
      .takeUnprotect, .takeDelete, .storeFormat]
    let store : List RequestCode := operation ++ [.storeConfig, .readTake, .readStop]
    let passes := fun (h : Option Station) (x : Entry) =>
      h = none ∨ h = some ⟨x.origin, x.station⟩ ∨ x.urgent = true
    let eligible := fun x : Entry => x ∈ s.requests.entries ∧ x.active = false
      ∧ (x.code ∈ config → passes s.requests.reserveConfig x)
      ∧ (x.code ∈ store → passes s.requests.reserveStore x)
      ∧ (x.code ∈ operation → s.requests.storeOp = none)
      ∧ (x.code = .readTake → s.readout.state = .idle)
    let holds := fun x : Entry => s.requests.reserveConfig = some ⟨x.origin, x.station⟩
      ∨ s.requests.reserveStore = some ⟨x.origin, x.station⟩
    let first := fun (x y : Entry) => x.arrival ≤ y.arrival
    ((∃ x, eligible x) → s.choice ≠ none)
    ∧ ∀ e, s.choice = some e → eligible e ∧ ∀ x, eligible x →
      (x.urgent = true → e.urgent = true ∧ first e x)
      ∧ ((∀ y, eligible y → y.urgent = false) → holds x → holds e ∧ first e x)
      ∧ ((∀ y, eligible y → y.urgent = false ∧ ¬ holds y) →
        x.priority < e.priority ∨ (x.priority = e.priority ∧ first e x))

/-- An offer to an egress queue (R6, R7, R10) and the end of a transmission (R6, R9, R11, R12). An offer to a
queue that is full or whose link is DOWN is refused and counted where the rules count it (a frame to repeat
with the through port DOWN nowhere); with its direction busy the frame joins the tail; with the direction idle
and its queues empty it starts at once. At an end the through port starts the oldest repeated frame; the stage
return the oldest frame of the queue its marker does not name when both hold one, else of the one that does;
the program link stream frames before replies before readout frames, and nothing else happens there while no
frame leaves the readout queue. -/
def Obligations.TransmissionEnds : Prop :=
  (∀ (l : LinkUnit) (f : Frame),
    (l.throughUp = false → l.offerRepeat f = l)
    ∧ (l.throughUp = true → 2 ≤ l.repeatQ.length →
      l.offerRepeat f = { l with repeatDrops := countUp l.repeatDrops 1 })
    ∧ (l.throughUp = true → l.repeatQ.length < 2 → l.txThrough ≠ none →
      l.offerRepeat f = { l with repeatQ := l.repeatQ ++ [f] })
    ∧ (l.throughUp = true → l.repeatQ = [] → l.txThrough = none →
      l.offerRepeat f = { l with txThrough := some f })
    ∧ (l.stageUp = false ∨ 8 ≤ l.relayQ.length →
      l.offerRelay f = { l with relayDrops := countUp l.relayDrops 1 })
    ∧ (l.stageUp = false ∨ 8 ≤ l.stageReplyQ.length →
      l.offerReply .stage f = { l with stageReplyDrops := countUp l.stageReplyDrops 1 })
    ∧ (l.stageUp = true → l.txStageReturn ≠ none →
      (l.relayQ.length < 8 → l.offerRelay f = { l with relayQ := l.relayQ ++ [f] })
      ∧ (l.stageReplyQ.length < 8 → l.offerReply .stage f = { l with stageReplyQ := l.stageReplyQ ++ [f] }))
    ∧ (l.stageUp = true → l.txStageReturn = none → l.stageReplyQ = [] → l.relayQ = [] →
      l.offerRelay f = { l with txStageReturn := some f, marker := .relay }
      ∧ l.offerReply .stage f = { l with txStageReturn := some f, marker := .reply })
    ∧ (l.programUp = false ∨ 8 ≤ l.programReplyQ.length →
      l.offerReply .program f = { l with programReplyDrops := countUp l.programReplyDrops 1 })
    ∧ (l.programUp = false ∨ 16 ≤ l.streamQ.length → l.offerStream f = (l, false))
    ∧ (l.programUp = true → l.txProgram ≠ none →
      (l.programReplyQ.length < 8 →
        l.offerReply .program f = { l with programReplyQ := l.programReplyQ ++ [f] })
      ∧ (l.streamQ.length < 16 → l.offerStream f = ({ l with streamQ := l.streamQ ++ [f] }, true)))
    ∧ (l.programUp = true → l.txProgram = none → l.streamQ = [] → l.programReplyQ = [] → l.readoutQ = [] →
      l.offerReply .program f = { l with txProgram := some f }
      ∧ l.offerStream f = ({ l with txProgram := some f }, true))
    ∧ (l.readoutRoom = true ↔ l.programUp = true ∧ l.readoutQ.length < 2))
  ∧ ∀ (s : State) (f : Frame),
    (s.link.throughUp = true → s.link.txThrough = some f → Completes (exec .throughFrameEnd s) fun t =>
      t = { s with link := { s.link with
        txThrough := s.link.repeatQ.head?, repeatQ := s.link.repeatQ.tail } })
    ∧ (s.link.stageUp = true → s.link.txStageReturn = some f →
      Completes (exec .stageReturnFrameEnd s) fun t =>
        t = { s with link := t.link }
        ∧ (∀ a q b r, s.link.stageReplyQ = a :: q → s.link.relayQ = b :: r → s.link.marker = .relay →
          t.link = { s.link with txStageReturn := some a, stageReplyQ := q, marker := .reply })
        ∧ (∀ a q b r, s.link.stageReplyQ = a :: q → s.link.relayQ = b :: r → s.link.marker = .reply →
          t.link = { s.link with txStageReturn := some b, relayQ := r, marker := .relay })
        ∧ (∀ a q, s.link.stageReplyQ = a :: q → s.link.relayQ = [] →
          t.link = { s.link with txStageReturn := some a, stageReplyQ := q, marker := .reply })
        ∧ (∀ b r, s.link.stageReplyQ = [] → s.link.relayQ = b :: r →
          t.link = { s.link with txStageReturn := some b, relayQ := r, marker := .relay })
        ∧ (s.link.stageReplyQ = [] → s.link.relayQ = [] →
          t.link = { s.link with txStageReturn := none }))
    ∧ (s.link.programUp = true → s.link.txProgram = some f →
      Completes (exec .programForwardFrameEnd s) fun t =>
        let only := fun l : LinkUnit => t = { s with
          link := l
          store := { s.store with inFlight := t.store.inFlight, waiting := t.store.waiting } }
        SamplePathKept s t
        ∧ (∀ a q, s.link.streamQ = a :: q → only { s.link with txProgram := some a, streamQ := q })
        ∧ (∀ a q, s.link.streamQ = [] → s.link.programReplyQ = a :: q →
          only { s.link with txProgram := some a, programReplyQ := q })
        ∧ (s.link.streamQ = [] → s.link.programReplyQ = [] → s.link.readoutQ = [] →
          only { s.link with txProgram := none })
        ∧ (∀ a q, s.link.streamQ = [] → s.link.programReplyQ = [] → s.link.readoutQ = a :: q →
          t.link.txProgram = some a))

/-- The stage link goes DOWN (R14, R143): its parser drops a frame in progress and counts it, its queues are
emptied and its frame is cut; the requests of its stations leave without a reply and their reservations
are cancelled; a readout of a stage station ends without a reply, its queued frames withdrawn and its fetch
no longer wanted (R139); nothing else changes. -/
def Obligations.StageLinkDown : Prop :=
  ∀ s : State, s.link.stageUp = true → Completes (exec .stageLinkDown s) fun t =>
    let busy : Bool := s.link.rxStage ≠ .hunt
    let link : LinkUnit := { s.link with
      stageUp := false, rxStage := .hunt, txStageReturn := none, stageReplyQ := [], relayQ := []
      abandoned := if busy then s.link.abandoned.raise .stageForward else s.link.abandoned }
    let kept : RequestQueue := { s.requests with
      entries := s.requests.entries.filter fun e => e.origin ≠ .stage
      reserveConfig := s.requests.reserveConfig.filter fun x => x.origin ≠ .stage
      reserveStore := s.requests.reserveStore.filter fun x => x.origin ≠ .stage }
    ((s.readout.origin = .program ∨ s.readout.state = .idle) →
      t = { s with link := link, requests := kept })
    ∧ (s.readout.origin = .stage → s.readout.state ≠ .idle → s.ReadoutNamed →
      t = { s with
        link := { link with readoutQ := [] }
        requests := kept
        readout := {}
        store := { s.store with
          inFlight := s.store.inFlight.map fun j => { j with op := j.op.unwant }
          waiting := s.store.waiting.map PortOp.unwant } })

/-- The program link goes DOWN (R15, R143, R166): its parser drops a frame in progress and counts it, its queues
are emptied and its frame is cut; the requests of its stations leave without a reply and their reservations are
cancelled; every enabled bus's gap mark is set. A readout ends whatever its origin, its fetch no longer wanted
(R139): without a reply for a program station, with ABORTED and its pages sent and failed for a stage
station. Nothing else changes. -/
def Obligations.ProgramLinkDown : Prop :=
  ∀ s : State, s.link.programUp = true → Completes (exec .programLinkDown s) fun t =>
    let busy : Bool := s.link.rxProgram ≠ .hunt
    let link : LinkUnit := { s.link with
      programUp := false, rxProgram := .hunt, txProgram := none
      streamQ := [], programReplyQ := [], readoutQ := []
      abandoned := if busy then s.link.abandoned.raise .programReturn else s.link.abandoned }
    let kept : RequestQueue := { s.requests with
      entries := s.requests.entries.filter fun e => e.origin ≠ .program
      reserveConfig := s.requests.reserveConfig.filter fun x => x.origin ≠ .program
      reserveStore := s.requests.reserveStore.filter fun x => x.origin ≠ .program }
    let stream := s.stream.map fun b : StreamBus =>
      if b.mode = .disabled then b else { b with gap := true }
    let store : StoreController := { s.store with
      inFlight := s.store.inFlight.map fun j => { j with op := j.op.unwant }
      waiting := s.store.waiting.map PortOp.unwant }
    (s.readout.state = .idle → t = { s with link := link, requests := kept, stream := stream })
    ∧ (s.readout.state ≠ .idle →
      t = { s with
        link := t.link, requests := t.requests, stream := stream, readout := {}, store := store }
      ∧ (s.readout.origin = .program → s.ReadoutNamed → t.link = link ∧ t.requests = kept)
      ∧ ∀ r ∈ s.requests.entries, s.requests.Lawful → r.origin = .stage → r.arrival = s.readout.arrival →
        Answered link kept r .aborted [natWord s.readout.pagesSent, natWord s.readout.pagesFailed] t)

/-- The through port goes DOWN, and a link comes UP (R16). -/
def Obligations.ThroughPortDownAndLinkUp : Prop :=
  ∀ s : State,
    (s.link.throughUp = true → Completes (exec .throughPortDown s) fun t =>
      let busy : Bool := s.link.rxThrough ≠ .hunt
      t = { s with link := { s.link with
        throughUp := false, rxThrough := .hunt, txThrough := none, repeatQ := []
        abandoned := if busy then s.link.abandoned.raise .throughReturn else s.link.abandoned } })
    ∧ (s.link.stageUp = false → Completes (exec (.linkUp .stage) s) fun t =>
      t = { s with link := { s.link with
        stageUp := true, rxStage := .hunt, stageReplyQ := [], relayQ := [] } })
    ∧ (s.link.throughUp = false → Completes (exec (.linkUp .through) s) fun t =>
      t = { s with link := { s.link with throughUp := true, rxThrough := .hunt, repeatQ := [] } })
    ∧ (s.link.programUp = false → Completes (exec (.linkUp .program) s) fun t =>
      t = { s with link := { s.link with
        programUp := true, rxProgram := .hunt, streamQ := [], programReplyQ := [], readoutQ := [] } })

/-! ## Rows and what a row brings due -/

/-- One row at the Source Monitor, whatever else the row brings (R19, R24, R25, R31): each source's oldest
frame is taken and its presence makes the one transition of R25's table; the generator and the row
counter advance, and every 32nd row signals a boundary. -/
def Obligations.SourcesInARow : Prop :=
  ∀ s : State, Completes (exec .rowEvent s) fun t =>
    t.sources.rowCounter = (s.sources.rowCounter + 1) % 256
      ∧ (t.sources.boundaryDue = true ↔ (s.sources.rowCounter + 1) % 32 = 0)
      ∧ t.sources.foreign = s.sources.foreign
      ∧ (let g := s.sources.generator
        t.sources.generator =
          if g.position + 1 < g.hold then { g with position := g.position + 1 }
          else if g.index + 1 < g.levels.length then { g with position := 0, index := g.index + 1 }
          else { g with position := 0, index := 0 })
      ∧ t.sources.records.length = s.sources.records.length
      ∧ ∀ (n : Nat) (r : SourceRecord), s.sources.records[n]? = some r →
        ∃ q, t.sources.records[n]? = some q ∧ q.fifo = r.fifo.tail
          ∧ (r.presence = .absent ∨ r.presence = .lapsed → r.fifo = [] → q = { r with fifo := [] })
          ∧ (r.presence = .absent ∨ r.presence = .lapsed → r.fifo ≠ [] →
            q = { r with fifo := r.fifo.tail, presence := .acquiring, acquire := 1 })
          ∧ (r.presence = .acquiring → r.fifo = [] → q = { r with fifo := [], acquire := 0 })
          ∧ (r.presence = .acquiring → r.fifo ≠ [] → r.acquire + 1 < 48 →
            q = { r with fifo := r.fifo.tail, acquire := r.acquire + 1 })
          ∧ (r.presence = .acquiring → r.fifo ≠ [] → 48 ≤ r.acquire + 1 →
            q = { r with fifo := r.fifo.tail, presence := .present, acquire := 48, misses := 0 })
          ∧ (r.presence = .present → r.fifo ≠ [] → q = { r with fifo := r.fifo.tail, misses := 0 })
          ∧ (r.presence = .present → r.fifo = [] → r.misses + 1 < r.limit →
            q = { r with fifo := [], misses := r.misses + 1 })
          ∧ (r.presence = .present → r.fifo = [] → r.limit ≤ r.misses + 1 →
            q = { r with
              fifo := [], presence := .lapsed, lapses := countUp r.lapses 1, misses := 0, acquire := 0 })

/-- The rows the table names by what happens in them (R25, R27, R31; log 3): each is the row event of that
row, and the source or the generator has made its step after it. -/
def Obligations.NamedRowEvents : Prop :=
  ∀ (s : State) (n : Nat) (r : SourceRecord), s.sources.records[n]? = some r →
    (r.presence = .present → r.fifo = [] → r.limit ≤ r.misses + 1 →
      exec (.sourceLapse n) s = exec .rowEvent s ∧ Completes (exec (.sourceLapse n) s) fun t =>
        t.sources.records[n]? = some { r with
          fifo := [], presence := .lapsed, lapses := countUp r.lapses 1, misses := 0, acquire := 0 }
        ∧ t.alertLapsed = true)
    ∧ (r.presence = .acquiring → r.fifo ≠ [] → 48 ≤ r.acquire + 1 →
      exec (.sourceAcquired n) s = exec .rowEvent s ∧ Completes (exec (.sourceAcquired n) s) fun t =>
        t.sources.records[n]? = some { r with
          fifo := r.fifo.tail, presence := .present, acquire := 48, misses := 0 })
    ∧ (s.sources.generator.hold ≤ s.sources.generator.position + 1 →
      exec .generatorLevelStep s = exec .rowEvent s ∧ Completes (exec .generatorLevelStep s) fun t =>
        t.sources.generator.position = 0
          ∧ t.sources.generator.index =
            if s.sources.generator.index + 1 < s.sources.generator.levels.length
            then s.sources.generator.index + 1 else 0)

/-- The j-th consecutive concealed row after a supplied one (R29): in FADE the held sample falls in 64
truncated steps to 0 and stays there; in MUTE it is 0 at once; the held sample is kept. -/
def Obligations.ConcealedRowsFade : Prop :=
  ∀ (c : Conceal) (j : Nat), c.fade = 0 →
    let after := fun (m : ConcealMode) (k : Nat) => (fun x : Conceal => (x.conceal m).after)^[k] c
    let row := (after .fade j).conceal .fade
    (j < 64 → row.sample = (c.held * (64 - (j + 1 : Nat))).tdiv 64 ∧ row.after.fade = j + 1)
      ∧ (64 ≤ j → row.sample = 0 ∧ row.after.fade = 64)
      ∧ row.concealed = true ∧ row.after.held = c.held
      ∧ row.sample.natAbs ≤ c.held.natAbs ∧ (0 ≤ c.held → 0 ≤ row.sample) ∧ (c.held ≤ 0 → row.sample ≤ 0)
      ∧ (let mute := (after .mute j).conceal .mute
        mute.sample = 0 ∧ mute.concealed = true ∧ mute.after = { c with fade := 64 })

/-- What one row does to a track (R26, R28, R29, R39, R41 to R47, R49, R52, R171, R174). An enabled track
forms its raw sample from the generator's level, from the sample its source supplies at its slot, from no
sample there, or by its concealment mode where its source supplies nothing; in the first row of a new route
its route-change mark is set. It passes the raw sample through polarity, delay line, trim and filter; each step
works on the output of the step before, and a row in which any of them saturates is counted once. The raw sample,
its concealed mark and the result are what the mix and the archive take from the track (R39, R57). Its meter
measures the result, and its over count the raw sample. A disabled track keeps everything, gives nothing and is
measured as 0. -/
def Obligations.TrackInARow : Prop :=
  ∀ (s : State) (n : Nat), s.Sized → s.NothingDue → n < 128 → Completes (exec .rowEvent s) fun t =>
    let p := s.track n
    let q := t.track n
    let r := p.route
    let raw := p.conceal.raw r s.sources.inputRow
    let a := if r.polarity = .invert then saturate (-raw.sample) else raw.sample
    let b := p.line.headD a
    let c := roundDiv (b * r.trim) (2 ^ 20)
    let fed := saturate c
    let d := match r.filter with
      | none => fed
      | some k => fed - p.filter.xPrev + p.filter.yPrev - p.filter.yPrev.fdiv (2 ^ k)
    let out := if r.filter = none then fed else saturate d
    let m := s.meter.levels.getD n {}
    let m' := t.meter.levels.getD n {}
    let o := s.meter.tracks.getD n {}
    let o' := t.meter.tracks.getD n {}
    q.route = r
      ∧ (r.enabled = false → q = p ∧ o' = o ∧ m' = m ∧ (p.rowIf s.sources.inputRow).2 = none)
      ∧ (r.source = 16 →
        let level := s.sources.generator.levels.getD s.sources.generator.index 0
        raw = ⟨level, false, ⟨level, 0⟩⟩)
      ∧ (r.source < 16 →
        let c := p.conceal
        let source := s.sources.records.getD r.source {}
        (∀ f fs, source.presence = .present → source.fifo = f :: fs →
          raw = if r.slot < f.samples.length
            then ⟨f.samples.getD r.slot 0, false, ⟨f.samples.getD r.slot 0, 0⟩⟩ else ⟨0, true, ⟨c.held, 64⟩⟩)
        ∧ (source.presence ≠ .present ∨ source.fifo = [] →
          let k := if c.fade < 64 then c.fade + 1 else c.fade
          raw = if r.mode = .mute then ⟨0, true, ⟨c.held, 64⟩⟩
            else ⟨(c.held * (64 - k : Nat)).tdiv 64, true, ⟨c.held, k⟩⟩))
      ∧ (r.enabled = true →
        (p.rowIf s.sources.inputRow).2 = some ⟨raw.sample, raw.concealed, out⟩
        ∧ q.conceal = raw.after
        ∧ q.mark = ⟨p.mark.marked || p.mark.firstRowDue, false⟩
        ∧ q.line = (if p.line = [] then [] else p.line.tail ++ [a])
        ∧ q.filter = (if r.filter = none then p.filter else ⟨fed, out⟩)
        ∧ q.saturations = (if (r.polarity = .invert ∧ saturate (-raw.sample) ≠ -raw.sample) ∨ fed ≠ c
            ∨ (r.filter ≠ none ∧ saturate d ≠ d) then countUp p.saturations 1 else p.saturations)
        ∧ m'.runPeak = max m.runPeak out.natAbs
        ∧ m'.runSum = m.runSum + out.natAbs ^ 2
        ∧ m' = { m with runPeak := m'.runPeak, runSum := m'.runSum }
        ∧ (if s.meter.overLevel ≤ raw.sample.natAbs
          then o' = { o with overs := countUp o.overs 1, overMark := true } else o' = o))

/-- What one row does to a bus (R146, R151, R153 to R156, R160, R171): the exact sum over the enabled
tracks of conditioned sample times coefficient in use, divided by 2^22, rounded half away from zero and
saturated; a row that saturates is counted; the bus's block buffer and meter take the bus sample. In a
glide the coefficient in use is the start plus the truncated (n + 1)/32 of the difference. -/
def Obligations.BusInARow : Prop :=
  ∀ (s : State) (b : Nat), s.Sized → s.NothingDue → b < 8 → Completes (exec .rowEvent s) fun t =>
    let n := s.sources.rowCounter % 32
    let inUse := fun k : Nat => match s.mix.glideStart with
      | none => s.mix.active.getD (8 * k + b) 0
      | some g => g.getD (8 * k + b) 0
        + ((s.mix.active.getD (8 * k + b) 0 - g.getD (8 * k + b) 0) * (n + 1)).tdiv 32
    let sample := fun k : Nat =>
      (((s.track k).rowIf s.sources.inputRow).2.map TrackSample.conditioned).getD 0
    let exact := roundDiv ((List.range 128).map fun k => sample k * inUse k).sum (2 ^ 22)
    let m := s.meter.levels.getD (128 + b) {}
    t.mix.clips.getD b 0 = (if saturate exact = exact then s.mix.clips.getD b 0
        else countUp (s.mix.clips.getD b 0) 1)
      ∧ t.mix = { s.mix with clips := t.mix.clips, rowGlided := s.mix.glideStart.isSome }
      ∧ (let old := s.stream.getD b {}
        t.stream.getD b {} = { old with buffer := old.buffer.set n (some (saturate exact)) })
      ∧ t.meter.levels.getD (128 + b) {} = { m with
          runPeak := max m.runPeak (saturate exact).natAbs
          runSum := m.runSum + (saturate exact).natAbs ^ 2 }

/-- What a row leaves as it was, while nothing is due and the mount has begun (R18): the links, the takes,
the module contents, the requests, the routes, the banks, the next block index; of the store it moves only
the port's timer and what the port takes up; of the readout only the hold countdown; of the meters' settings
nothing. The blocks of tracks outside the live take's set stay, and a set track's sample is stored at the
row's position (R57, R119, R132, R170). The eraser, where it has no erase at the port of a MOUNTED store, asks
for an erase of the first DIRTY extent (R117); a free port grants the oldest waiting operation of the
lowest class (R118), and a busy one leaves all of them waiting. -/
def Obligations.RowTouchesNothingElse : Prop :=
  ∀ s : State, s.Sized → s.NothingDue → s.store.state ≠ .unmounted →
    Completes (exec .rowEvent s) fun t =>
      t = { s with
          sources := t.sources, tracks := t.tracks, coder := t.coder, mix := t.mix, stream := t.stream
          meter := t.meter, readout := t.readout, store := t.store }
        ∧ t.tracks.routes = s.tracks.routes ∧ t.coder.nextIndex = s.coder.nextIndex
        ∧ t.mix = { s.mix with clips := t.mix.clips, rowGlided := s.mix.glideStart.isSome }
        ∧ t.store = { s.store with inFlight := t.store.inFlight, waiting := t.store.waiting }
        ∧ (let isErase := fun op : PortOp => match op with
            | .eraserErase _ => true
            | _ => false
          let erasing := s.store.waiting.any isErase || s.store.inFlight.any fun j => isErase j.op
          let cls := fun op : PortOp => match op with
            | .catalogProgram _ _ | .catalogVerify _ _ | .catalogErase _ | .mountFetch _ | .mountSpare _
            | .recoveryFetch _ => 1
            | .archiveProgram _ _ | .archiveVerify _ _ | .archiveBadMark _ => 2
            | .readoutFetch _ _ => 3
            | .eraserErase _ | .eraserBadMark _ | .formatErase _ => 4
          ∃ asked : List PortOp, asked = s.store.waiting ++ asked.drop s.store.waiting.length
            ∧ (s.store.state ≠ .mounted ∨ erasing = true ∨ (∀ y ∈ s.store.table, y.2.state ≠ .dirty) →
              asked = s.store.waiting)
            ∧ (∀ pre e x post, s.store.state = .mounted → erasing = false →
              s.store.table = pre ++ (e, x) :: post → x.state = .dirty → (∀ y ∈ pre, y.2.state ≠ .dirty) →
              asked = s.store.waiting ++ [.eraserErase e])
            ∧ (∀ j, s.store.inFlight = some j →
              t.store.inFlight = some { j with rows := j.rows + 1 } ∧ t.store.waiting = asked)
            ∧ (s.store.inFlight = none → asked = [] → t.store.inFlight = none ∧ t.store.waiting = [])
            ∧ ∀ before op behind, s.store.inFlight = none → asked = before ++ op :: behind →
              (∀ o ∈ before, cls op < cls o) → (∀ o ∈ behind, cls op ≤ cls o) →
              t.store.inFlight = some ⟨op, 0⟩ ∧ t.store.waiting = before ++ behind)
        ∧ t.readout = { s.readout with countdown := t.readout.countdown }
        ∧ (s.readout.state = .holding → t.readout.countdown + 1 = s.readout.countdown)
        ∧ (s.readout.state ≠ .holding → t.readout = s.readout)
        ∧ t.meter = { s.meter with
            levels := t.meter.levels, tracks := t.meter.tracks, windowCounter := s.meter.windowCounter + 1 }
        ∧ ∀ n, n < 128 →
          let old := s.coder.blocks.getD n {}
          match ((s.track n).rowIf s.sources.inputRow).2 with
          | some x => t.coder.blocks.getD n {} = if n ∈ s.liveSet then { old with
                cells := old.cells.set s.sources.rowCounter (some x.raw)
                concealed := old.concealed + x.concealed.toNat
                clipped := old.clipped || decide (s.meter.overLevel ≤ x.raw.natAbs) } else old
          | none => t.coder.blocks.getD n {} = old

/-- A mix boundary that is no archive boundary (R19, R150, R161, R164, R165): the banks swap into a glide,
or the glide ends; each bus takes its next mode and an empty block buffer; each enabled bus has coded its
block and offered its frame in ascending order, its sequence one higher. With room the frames join the
stream queue, buses' drops as they were and their gap marks clear; each frame that finds the queue full, or the
program link DOWN, is dropped and counted, and the gap mark set. With the direction idle and its queue empty the
first frame starts at once (R10, R12). That no frame leaves the queue between the offers of one boundary is the
model's choice (log 31). -/
def Obligations.MixBoundarySwapsAndCodes : Prop :=
  ∀ s : State, s.sources.boundaryDue = true → s.sources.rowCounter ≠ 0 → s.stream.length = 8 →
    Completes (exec .mixBoundary s) fun t =>
      t = { s with
          sources := { s.sources with boundaryDue := false }
          mix := t.mix, stream := t.stream, link := t.link }
        ∧ t.mix = (if s.mix.swapArmed then { s.mix with
            glideStart := some s.mix.active, active := s.mix.pendingBank, swapArmed := false }
          else { s.mix with glideStart := none })
        ∧ (let after := fun (accepted : Bool) (b : StreamBus) => ({
            mode := b.next, next := b.next
            seq := if b.mode = .disabled then (if b.next = .disabled then b.seq else 0)
              else (b.seq + 1) % 2 ^ 32
            gap := if b.mode = .disabled then (if b.next = .disabled then b.gap else false)
              else if b.next = .disabled then false else !accepted
            drops := if b.mode = .disabled ∨ accepted = true then b.drops else countUp b.drops 1
            buffer := List.replicate 32 none } : StreamBus)
          let frames := (s.stream.zipIdx.filterMap fun x =>
            x.1.mode.width.map fun m => x.1.frame s.unit x.2 m)
          (s.link.programUp = false → t.link = s.link ∧ t.stream = s.stream.map (after false))
          ∧ (s.link.programUp = true → s.link.txProgram ≠ none → s.link.streamQ.length + 8 ≤ 16 →
            t.link = { s.link with streamQ := s.link.streamQ ++ frames }
            ∧ t.stream = s.stream.map (after true))
          ∧ (s.link.programUp = true → s.link.txProgram ≠ none →
            let room := 16 - s.link.streamQ.length
            t.link = { s.link with streamQ := s.link.streamQ ++ frames.take room }
              ∧ t.stream = s.stream.zipIdx.map fun x =>
                after (decide ((s.stream.take x.2).countP (fun b => b.mode ≠ .disabled) < room)) x.1)
          ∧ (s.link.programUp = true → s.link.txProgram = none → s.link.streamQ = [] →
            t.stream = s.stream.map (after true)
              ∧ t.link = match frames with
                | [] => s.link
                | f :: fs => { s.link with txProgram := some f, streamQ := fs }))

/-- The window end (R170, R172, R173, R175, R176): every meter publishes its window and starts a new one,
each track's silence is settled by the new RMS, the clip alert by the over marks, and the counter
returns to 0; nothing else changes. -/
def Obligations.WindowEndPublishes : Prop :=
  ∀ s : State, s.meter.windowCounter = windowLength s.rate → s.meter.levels.length = 136 →
    s.meter.tracks.length = 128 → Completes (exec .windowEnd s) fun t =>
      t = { s with meter := { s.meter with
          levels := t.meter.levels, tracks := t.meter.tracks, clipAlert := t.meter.clipAlert
          windowCounter := 0 } }
        ∧ (t.meter.clipAlert = true ↔ ∃ m ∈ s.meter.tracks, m.overMark = true)
        ∧ (∀ (n : Nat) (m : LevelMeter), s.meter.levels[n]? = some m →
          ∃ q : LevelMeter, t.meter.levels[n]? = some q
          ∧ q.runPeak = 0 ∧ q.runSum = 0 ∧ q.peak = m.runPeak
          ∧ q.meanSquare = m.runSum / windowLength s.rate
          ∧ q.rms ^ 2 ≤ q.meanSquare ∧ q.meanSquare < (q.rms + 1) ^ 2
          ∧ q.ring = (if m.ring.length < 8 then m.ring else m.ring.drop 1) ++ [q.meanSquare]
          ∧ q.longRms ^ 2 ≤ q.ring.sum / q.ring.length ∧ q.ring.sum / q.ring.length < (q.longRms + 1) ^ 2)
        ∧ ∀ (n : Nat) (m : TrackMeter) (q : LevelMeter), s.meter.tracks[n]? = some m →
          t.meter.levels[n]? = some q →
          t.meter.tracks[n]? = some (
            if q.rms < s.meter.silenceThreshold then
              { m with
                overMark := false, quiet := min (m.quiet + 1) 255
                silent := m.silent || decide (s.meter.silenceWindows ≤ min (m.quiet + 1) 255) }
            else { m with overMark := false, quiet := 0, silent := false })

/-! ## Configuration requests -/

/-- TRACK_SET (R37, R38, R44, R45, R48, R50 to R52). Each refusal in its order; an accepted one writes the carried
fields, clears the line, the filter and the concealment state as R45, R48 and R30 say, notes a new source or slot of
a track that stays enabled for its first row (log 17), and touches no other track. That a request which disables a
track and changes its source or slot leaves its concealment state is the model's choice (log 39). -/
def Obligations.TrackSetWritesOneRoute : Prop :=
  ∀ (s : State) (e : Entry), Served s .trackSet e → s.Sized →
    let n := field (e.op 0) 31 16
    let old := (s.track n).route
    let refused := fun st : Status => Completes (exec .trackSet s) (Ends s e st [])
    (e.operands.length < 1 + e.trackFields.length ∨ 128 ≤ n → refused .badOperand)
    ∧ (1 + e.trackFields.length ≤ e.operands.length → n < 128 →
      old.writeAll e.trackFields (e.operands.drop 1) = none → refused .badOperand)
    ∧ ∀ new : Route, 1 + e.trackFields.length ≤ e.operands.length → n < 128 →
      old.writeAll e.trackFields (e.operands.drop 1) = some new →
      let tooHigh := s.rate = .k96 ∧ 64 ≤ n ∧ new.enabled = true
      let forbidden := ∃ k, s.liveTake = some k ∧
        ((n ∈ k.trackSet ∧ old.enabled = true ∧ new.enabled = false) ∨ old.archive ≠ new.archive)
      let pool := poolCount (s.tracks.routes.set n new)
      (e.trackFields = [] → Completes (exec .trackSet s) (Ends s e .done []))
      ∧ (e.trackFields ≠ [] → tooHigh → refused .badOperand)
      ∧ (e.trackFields ≠ [] → ¬ tooHigh → forbidden → refused .wrongState)
      ∧ (e.trackFields ≠ [] → ¬ tooHigh → ¬ forbidden → 262144 < pool → refused .noSpace)
      ∧ (e.trackFields ≠ [] → ¬ tooHigh → ¬ forbidden → pool ≤ 262144 →
        Completes (exec .trackSet s) fun t => ∃ u : State, Ends u e .done [] t
          ∧ u = { s with
              tracks := u.tracks
              sources := { s.sources with conceal := u.sources.conceal } }
          ∧ (∀ k, k ≠ n → u.track k = s.track k)
          ∧ (u.track n).route = new
          ∧ (u.track n).saturations = (s.track n).saturations
          ∧ (u.track n).line = (if new.enabled = false then []
            else if old.enabled = false ∨ old.delay ≠ new.delay then List.replicate new.delay 0
            else (s.track n).line)
          ∧ (u.track n).filter = (if (old.enabled = false ∧ new.enabled = true) ∨ old.filter ≠ new.filter
            then {} else (s.track n).filter)
          ∧ (u.track n).conceal = (if new.enabled = true ∧
              (old.enabled = false ∨ old.source ≠ new.source ∨ old.slot ≠ new.slot)
            then ⟨0, 64⟩ else (s.track n).conceal)
          ∧ (u.track n).mark.marked = (s.track n).mark.marked
          ∧ ((u.track n).mark.firstRowDue = true ↔ new.enabled = true ∧ ((s.track n).mark.firstRowDue = true
            ∨ (old.enabled = true ∧ (old.source ≠ new.source ∨ old.slot ≠ new.slot)))))

/-- A field TRACK_SET carries: the values R37 gives are written, any other is refused (R37, R50 test 2). -/
def Obligations.RouteFieldsInRangeOnly : Prop :=
  ∀ (r : Route) (w : Word),
    let v := w.toNat
    r.write 0 w = (if v = 0 then some { r with enabled := false }
      else if v = 1 then some { r with enabled := true } else none)
    ∧ (r.write 1 w = if v ≤ 16 then some { r with source := v } else none)
    ∧ (r.write 2 w = if v ≤ 31 then some { r with slot := v } else none)
    ∧ (r.write 3 w = if v = 0 then some { r with archive := false }
      else if v = 1 then some { r with archive := true } else none)
    ∧ (r.write 4 w = if v = 0 then some { r with mode := .mute }
      else if v = 1 then some { r with mode := .fade } else none)
    ∧ (r.write 5 w = if v = 0 then some { r with polarity := .normal }
      else if v = 1 then some { r with polarity := .invert } else none)
    ∧ (r.write 6 w = if v ≤ 8191 then some { r with delay := v } else none)
    ∧ (r.write 7 w = if v ≤ 16777215 then some { r with trim := v } else none)
    ∧ (r.write 8 w = if v = 0 then some { r with filter := none }
      else if v = 8 ∨ v = 9 ∨ v = 10 ∨ v = 11 then some { r with filter := some v } else none)
    ∧ (r.write 9 w = if v ≤ 3 then some { r with maxOrder := v } else none)

/-- TRIM_CORRECT (R53): refused out of range; otherwise the trim becomes G × 1000000 / (1000000 + e)
rounded to the nearest whole number, halves up, at most 16777215, and the result carries it. -/
def Obligations.TrimCorrectRescales : Prop :=
  ∀ (s : State) (e : Entry), Served s .trimCorrect e → s.Sized →
    let n := field (e.op 0) 31 16
    let err := (e.op 1).toInt
    let g := (s.track n).route.trim
    (e.operands.length < 2 ∨ 128 ≤ n ∨ err < -500000 ∨ 1000000 < err →
      Completes (exec .trimCorrect s) (Ends s e .badOperand []))
    ∧ (2 ≤ e.operands.length → n < 128 → -500000 ≤ err → err ≤ 1000000 →
      let d := (1000000 + err).toNat
      let g' := min 16777215 ((2 * g * 1000000 + d) / (2 * d))
      Completes (exec .trimCorrect s) (Ends { s with tracks := { s.tracks with
        routes := s.tracks.routes.set n { (s.track n).route with trim := g' } } } e .done [natWord g']))

/-- GEN_LOAD, SOURCE_CLEAR and SOURCE_CONFIG (R32, R33, R34). -/
def Obligations.SourceRequestsTakeHold : Prop :=
  ∀ (s : State) (e : Entry), s.Sized →
    let n := field (e.op 0) 31 16
    let put := fun r : SourceRecord =>
      ({ s with sources := { s.sources with records := s.sources.records.set n r } } : State)
    let r := s.sources.records.getD n {}
    (Served s .sourceClear e →
      (e.operands.length < 1 ∨ 16 ≤ n → Completes (exec .sourceClear s) (Ends s e .badOperand []))
      ∧ (1 ≤ e.operands.length → n < 16 →
        Completes (exec .sourceClear s) (Ends (put { limit := r.limit }) e .done [])))
    ∧ (Served s .sourceConfig e →
      (e.operands.length < 2 ∨ 16 ≤ n → Completes (exec .sourceConfig s) (Ends s e .badOperand []))
      ∧ (2 ≤ e.operands.length → n < 16 → Completes (exec .sourceConfig s)
        (Ends (put { r with limit := max 1 (min (e.op 1).toNat 255) }) e .done [])))
    ∧ (Served s .genLoad e →
      let count := field (e.op 0) 7 0
      let levels := (e.operands.drop 1).take count
      let isLevel := fun w : Word => -8388608 ≤ w.toInt ∧ w.toInt ≤ 8388607
      (e.operands.length < 1 + count ∨ count < 2 ∨ 16 < count ∨ n = 0 ∨ (∃ w ∈ levels, ¬ isLevel w) →
        Completes (exec .genLoad s) (Ends s e .badOperand []))
      ∧ (1 + count ≤ e.operands.length → 2 ≤ count → count ≤ 16 → n ≠ 0 → (∀ w ∈ levels, isLevel w) →
        Completes (exec .genLoad s) (Ends { s with sources := { s.sources with
          generator := { levels := levels.map BitVec.toInt, hold := n, index := 0, position := 0 } } }
          e .done [])))

/-- MIX_SET and MIX_TAKE (R147 to R149): a run of the PENDING bank takes the saturated values, each at its
place, and the result counts the values that were clamped; MIX_TAKE arms the swap. -/
def Obligations.MixRequestsTakeHold : Prop :=
  ∀ (s : State) (e : Entry), s.mix.Lawful →
    (Served s .mixTake e → Completes (exec .mixTake s)
      (Ends { s with mix := { s.mix with swapArmed := true } } e .done []))
    ∧ (Served s .mixSet e →
      let track := field (e.op 0) 31 16
      let bus := field (e.op 0) 15 8
      let count := field (e.op 0) 7 0
      let place := 8 * track + bus
      let bad := e.operands.length < 1 ∨ 128 ≤ track ∨ 8 ≤ bus ∨ count = 0 ∨ 32 < count
        ∨ e.operands.length ≠ 1 + count ∨ 1024 < place + count
      (bad → Completes (exec .mixSet s) (Ends s e .badOperand []))
      ∧ (¬ bad → Completes (exec .mixSet s) fun t => ∃ bank : List Int,
        Ends { s with mix := { s.mix with pendingBank := bank } } e .done
          [natWord ((List.range count).countP fun i => saturate (e.op (i + 1)).toInt ≠ (e.op (i + 1)).toInt)] t
        ∧ bank.length = 1024
        ∧ (∀ i, i < count → bank[place + i]? = some (saturate (e.op (i + 1)).toInt))
        ∧ ∀ k, k < place ∨ place + count ≤ k → bank[k]? = s.mix.pendingBank[k]?))

/-- STREAM_SET, METER_CONFIG and STORE_CONFIG (R125, R167, R177): a code that is not known refuses the
whole; otherwise each carried setting takes its value, clamped, a kept one stays, and the result holds the
settings as they then stand. STORE_CONFIG tests the store state before its operand words (the model's order, log 16). -/
def Obligations.SettingsRequestsTakeHold : Prop :=
  ∀ (s : State) (e : Entry),
    (Served s .streamSet e → s.stream.length = 8 →
      let code := fun b : Nat => field (e.op 0) (4 * b + 3) (4 * b)
      let mode := fun (b : Nat) (old : BusMode) =>
        if code b = 0 then old else if code b = 1 then BusMode.disabled
        else if code b = 2 then .m16 else .m20
      let stream := s.stream.zipIdx.map fun x : StreamBus × Nat => { x.1 with next := mode x.2 x.1.next }
      (e.operands.length < 1 ∨ (∃ b, b < 8 ∧ 3 < code b) →
        Completes (exec .streamSet s) (Ends s e .badOperand []))
      ∧ (1 ≤ e.operands.length → (∀ b, b < 8 → code b ≤ 3) → Completes (exec .streamSet s)
        (Ends { s with stream := stream } e .done
          (stream.map fun b => match b.next with
            | .disabled => 1
            | .m16 => 2
            | .m20 => 3))))
    ∧ (let code := fun i : Nat => field (e.op i) 31 30
      let value := fun i : Nat => field (e.op i) 29 0
      let set := fun (i old lo hi : Nat) => if code i = 0 then old else max lo (min (value i) hi)
      (Served s .meterConfig e →
        let level := set 0 s.meter.overLevel 1 8388608
        let threshold := set 1 s.meter.silenceThreshold 0 8388607
        let windows := set 2 s.meter.silenceWindows 1 255
        (e.operands.length < 3 ∨ (∃ i, i < 3 ∧ 1 < code i) →
          Completes (exec .meterConfig s) (Ends s e .badOperand []))
        ∧ (3 ≤ e.operands.length → (∀ i, i < 3 → code i ≤ 1) → Completes (exec .meterConfig s)
          (Ends { s with meter := { s.meter with
            overLevel := level, silenceThreshold := threshold, silenceWindows := windows } } e .done
            [natWord level, natWord threshold, natWord windows])))
      ∧ (Served s .storeConfig e →
        let verify := if code 0 = 0 then s.store.verify else decide (value 0 = 1)
        let backlog := set 1 s.store.backlog 1024 16384
        let hold := set 2 s.store.holdTime 1 65535
        let low := set 3 s.store.lowMark 0 131072
        let bad := e.operands.length < 4 ∨ (∃ i, i < 4 ∧ 1 < code i) ∨ (code 0 = 1 ∧ 1 < value 0)
        (s.store.state = .mounting → Completes (exec .storeConfig s) (Ends s e .wrongState []))
        ∧ (s.store.state ≠ .mounting → bad → Completes (exec .storeConfig s) (Ends s e .badOperand []))
        ∧ (s.store.state ≠ .mounting → ¬ bad → Completes (exec .storeConfig s)
          (Ends { s with store := { s.store with
            verify := verify, backlog := backlog, holdTime := hold, lowMark := low } } e .done
            [boolWord verify, natWord backlog, natWord hold, natWord low]))))

/-! ## Requests that read -/

/-- TRACK_READ, SOURCE_READ, STREAM_READ, METER_READ and MIX_READ (R35, R54, R157, R168, R178, R197): a bad
range is refused; otherwise the result holds the values of the state, and nothing changes but what the clear
option clears. A running glide reads as the glide row of the last row formed, 31 where that lay in the glide
before; where it lay in no glide R157 gives only the range 0 to 31 (log 9). The two mark words of a bus
meter are the model's reading of R178's mark (log 32). -/
def Obligations.SamplePathReads : Prop :=
  ∀ (s : State) (e : Entry), s.Sized →
    let first := field (e.op 0) 31 16
    let count := field (e.op 0) 15 8
    let bad := fun ends most : Nat =>
      e.operands.length < 1 ∨ ends ≤ first ∨ count = 0 ∨ most < count ∨ ends < first + count
    let inRange := fun k : Nat => decide (first ≤ k ∧ k < first + count)
    let range := List.range' first count
    (Served s .trackRead e →
      (bad 128 4 → Completes (exec .trackRead s) (Ends s e .badOperand []))
      ∧ (¬ bad 128 4 → Completes (exec .trackRead s) fun t => ∃ marks : List Nat,
        Ends { s with tracks := { s.tracks with saturations := marks } } e .done
          (natWord (poolCount s.tracks.routes) :: range.flatMap fun k =>
            let r := (s.track k).route
            [boolWord r.enabled, natWord r.source, natWord r.slot, boolWord r.archive,
              if r.mode = .mute then 0 else 1, if r.polarity = .normal then 0 else 1,
              natWord r.delay, natWord r.trim, natWord (r.filter.getD 0), natWord r.maxOrder,
              boolWord (s.liveSet.contains k), natWord (s.track k).saturations]) t
        ∧ marks.length = 128
        ∧ ∀ k, k < 128 → marks.getD k 0 =
          if bitSet (e.op 0) 0 && inRange k then 0 else (s.track k).saturations))
    ∧ (Served s .sourceRead e →
      (bad 17 4 → Completes (exec .sourceRead s) (Ends s e .badOperand []))
      ∧ (¬ bad 17 4 → Completes (exec .sourceRead s) (Ends s e .done
        (natWord s.sources.rowCounter :: natWord s.sources.foreign :: range.flatMap fun k =>
          let g := s.sources.generator
          let r := s.sources.records.getD k {}
          if k = 16 then [natWord g.levels.length, natWord g.hold, natWord g.index, natWord g.position]
            ++ g.levels.map intWord
          else [match r.presence with
              | .absent => 0
              | .acquiring => 1
              | .present => 2
              | .lapsed => 3,
            natWord r.acquire, natWord r.misses, natWord r.limit, natWord r.fifo.length,
            (r.lastSeq.map natWord).getD 0xFFFFFFFF, natWord r.accepted, natWord r.duplicates,
            natWord r.overruns, natWord r.gaps, natWord r.malformed, natWord r.lapses]))))
    ∧ (Served s .streamRead e → Completes (exec .streamRead s) (Ends s e .done
        (s.stream.flatMap fun b =>
          let code := fun m : BusMode => if m = .disabled then (1 : Word) else if m = .m16 then 2 else 3
          [code b.mode, code b.next, natWord b.seq, boolWord b.gap, natWord b.drops])))
    ∧ (Served s .meterRead e →
      (bad 136 8 → Completes (exec .meterRead s) (Ends s e .badOperand []))
      ∧ (¬ bad 136 8 → Completes (exec .meterRead s) fun t => ∃ ms : List TrackMeter,
        Ends { s with meter := { s.meter with tracks := ms } } e .done
          (natWord (windowLength s.rate) :: natWord s.meter.windowCounter :: range.flatMap fun k =>
            let m : LevelMeter := s.meter.levels.getD k {}
            let x : TrackMeter := s.meter.tracks.getD k {}
            [natWord m.peak, natWord m.rms, natWord m.longRms]
              ++ if k < 128 then [natWord x.overs, boolWord x.silent] else [0xFFFFFFFF, 0xFFFFFFFF]) t
        ∧ ms.length = 128
        ∧ ∀ k, k < 128 → ms.getD k {} =
          let x : TrackMeter := s.meter.tracks.getD k {}
          if bitSet (e.op 0) 0 && inRange k then { x with overs := 0 } else x))
    ∧ (Served s .mixRead e →
      let bus := field (e.op 0) 15 8
      let n := field (e.op 0) 7 0
      let code := field (e.op 1) 3 0
      let badRun := e.operands.length < 2 ∨ ¬ (code = 1 ∨ code = 2) ∨ 128 ≤ first ∨ 8 ≤ bus ∨ n = 0 ∨ 32 < n
        ∨ 1024 < 8 * first + bus + n
      let bank := if code = 1 then s.mix.active else s.mix.pendingBank
      let unformed := s.sources.rowCounter % 32 = 0 ∧ s.sources.boundaryDue = false
      (badRun → Completes (exec .mixRead s) (Ends s e .badOperand []))
      ∧ (¬ badRun → Completes (exec .mixRead s) fun t => ∃ glide : Word,
        Ends { s with
          freeCount := t.freeCount
          mix := { s.mix with clips := if bitSet (e.op 1) 8 then List.replicate 8 0 else s.mix.clips } }
          e .done (boolWord s.mix.swapArmed :: glide :: s.mix.clips.map natWord
            ++ ((bank.drop (8 * first + bus)).take n).map intWord) t
        ∧ (s.mix.glideStart = none → glide = 0xFFFFFFFF ∧ t.freeCount = s.freeCount)
        ∧ (s.mix.glideStart ≠ none → ¬ unformed ∨ s.mix.rowGlided = true →
          glide = natWord ((s.sources.rowCounter + 31) % 32) ∧ t.freeCount = s.freeCount)
        ∧ (s.mix.glideStart ≠ none → glide.toNat ≤ 31)))

/-- TAKE_LIST, STORE_STATUS, UNIT_STATUS and QUERY (R95, R126, R191, R192, R197): each result holds the
values of the state in the order its rule gives, and nothing changes but what a clear option clears. A record's
slot has the fields of R199 and R200 and loads as the record. The model's choices: which erase STORE_STATUS
names (log 20), a UNIT_STATUS and a QUERY that count themselves ACTIVE (log 21), WRONG_STATE before missing
words (log 16), UNIT_STATUS's holder of CONFIG before that of STORE (log 35). -/
def Obligations.StoreAndUnitReads : Prop :=
  ∀ (s : State) (e : Entry),
    (Served s .takeList e →
      let n := field (e.op 0) 15 0
      let kept := s.takes.records.filter fun k => !k.deleting
      let named := kept.filter fun k => decide (n ≤ k.number)
      (s.store.state ≠ .mounted → Completes (exec .takeList s) (Ends s e .wrongState []))
      ∧ (s.store.state = .mounted → e.operands = [] →
        Completes (exec .takeList s) (Ends s e .badOperand []))
      ∧ (s.store.state = .mounted → e.operands ≠ [] → bitSet (e.op 0) 16 = false →
        Completes (exec .takeList s) (Ends s e .done
          ([natWord kept.length, natWord s.takes.nextTake]
            ++ (named.take 8).flatMap (fun k => k.slotWords.take 4
              ++ [natWord (s.store.extentCount k.number * 256 + k.pauses.length)])
            ++ [if 8 < named.length then 1 else 0])))
      ∧ (s.store.state = .mounted → e.operands ≠ [] → bitSet (e.op 0) 16 = true →
        (¬ (∃ k ∈ kept, k.number = n) → Completes (exec .takeList s) (Ends s e .badOperand []))
        ∧ ∀ k, kept.find? (fun k => k.number = n) = some k →
          Completes (exec .takeList s) (Ends s e .done
            (k.slotWords ++ [match k.firstExtent with
                | some x => natWord (x / 32768 * 65536 + x % 32768)
                | none => 0xFFFFFFFF, natWord (s.store.extentCount k.number)]))))
    ∧ (Served s .storeStatus e →
      let c := s.store
      let states := fun x : ExtentState => natWord (c.table.countP fun y => y.2.state = x)
      let erase : Word := match c.inFlight.map PortJob.op with
        | some (.catalogErase x) | some (.eraserErase x) | some (.formatErase x) =>
          natWord (x / 32768 * 65536 + x % 32768)
        | _ => 0xFFFFFFFF
      let page := fun p : StagingPage => natWord p.state.code
        :: if p.state = .empty then [0xFFFFFFFF, 0xFFFFFFFF]
          else [natWord p.pageSeq, natWord (4 + p.words.length)]
      (e.operands = [] → Completes (exec .storeStatus s) (Ends s e .badOperand []))
      ∧ (e.operands ≠ [] → Completes (exec .storeStatus s) (Ends
        (if bitSet (e.op 0) 0 then { s with store := { c with
            programFailures := 0, verifyMismatches := 0, relocations := 0, eraseFailures := 0
            expiries := 0 } } else s) e .done
        ([natWord c.state.code, if s.liveTake = none then 0xFFFFFFFF else boolWord c.stalled]
          ++ c.modules.map (fun m => natWord m.code)
          ++ [states .free, states .owned, states .dirty, states .bad, states .catalog, states .fault,
            natWord c.freeList.length, natWord c.queue.length]
          ++ page c.pageA ++ page c.pageB
          ++ [boolWord c.verify, natWord c.backlog, natWord c.holdTime, natWord c.lowMark,
            natWord s.takes.catCurrent, natWord s.takes.catNext, natWord s.takes.catSeq, erase,
            natWord c.programFailures, natWord c.verifyMismatches, natWord c.relocations,
            natWord c.eraseFailures, natWord c.expiries]))))
    ∧ (Served s .unitStatus e →
      let l := s.link
      let per := fun c : RxCounts => [natWord c.stage, natWord c.through, natWord c.program]
      let holder := fun h : Option Station => match h with
        | some h => natWord ((if h.origin = .stage then 1 else 2) * 256 + h.station)
        | none => (0xFFFFFFFF : Word)
      (e.operands = [] → Completes (exec .unitStatus s) (Ends s e .badOperand []))
      ∧ (e.operands ≠ [] → Completes (exec .unitStatus s) (Ends
        (if bitSet (e.op 0) 0 then { s with
          link := { l with
            accepted := {}, stray := {}, framing := {}, abandoned := {}, checkFailures := {}
            wrongKindThrough := 0, wrongKindProgram := 0, misaddressed := 0, repeatDrops := 0
            relayDrops := 0, stageReplyDrops := 0, programReplyDrops := 0 }
          stream := s.stream.map fun b : StreamBus => { b with drops := 0 }
          requests := { s.requests with broadcastRefused := 0 } } else s) e .done
        ([natWord s.unit, if s.rate = .k48 then 0 else 1, natWord s.store.state.code,
            (s.liveTake.map fun k => natWord k.number).getD 0xFFFFFFFF,
            boolWord l.stageUp, boolWord l.throughUp, boolWord l.programUp]
          ++ per l.accepted ++ per l.stray ++ per l.framing ++ per l.abandoned ++ per l.checkFailures
          ++ [natWord l.wrongKindThrough, natWord l.wrongKindProgram, natWord l.misaddressed,
            natWord l.repeatDrops, natWord l.relayDrops, natWord l.stageReplyDrops,
            natWord l.programReplyDrops, s.sources.presenceWord]
          ++ s.stream.map (fun b => natWord b.drops)
          ++ [natWord s.requests.entries.length,
            natWord (s.requests.entries.countP fun x => x.active || x.arrival = e.arrival),
            holder s.requests.reserveConfig, holder s.requests.reserveStore,
            boolWord s.requests.storeOp.isSome, boolWord s.readout.busy,
            natWord s.requests.broadcastRefused]))))
    ∧ (Served s .query e →
      let origin := field (e.op 0) 31 24
      let station := field (e.op 0) 23 16
      let number := field (e.op 0) 15 8
      let bad := e.operands = [] ∨ (origin ≠ 1 ∧ origin ≠ 2) ∨ 7 < station
      let o : Origin := if origin = 1 then .stage else .program
      (bad → Completes (exec .query s) (Ends s e .badOperand []))
      ∧ (¬ bad → Completes (exec .query s) (Ends s e .done
        [match s.requests.entries.find? fun x => x.is o station number with
          | none => 2
          | some x => if x.active || x.arrival = e.arrival then 1 else 0])))
    ∧ (∀ (n : Nat) (r : SourceRecord), n < 16 → s.sources.records[n]? = some r →
      field s.sources.presenceWord (2 * n + 1) (2 * n) = match r.presence with
        | .absent => 0
        | .acquiring => 1
        | .present => 2
        | .lapsed => 3)
    ∧ ∀ k : TakeRecord, k.Storable →
      let w := fun i : Nat => k.slotWords.getD i 0
      k.slotWords.length = 48
      ∧ field (w 0) 31 16 = k.number ∧ field (w 0) 15 0 = k.lossCount
      ∧ bitSet (w 1) 31 = false ∧ bitSet (w 1) 30 = k.endIndex.isSome
      ∧ bitSet (w 1) 29 = decide (k.rate = .k96) ∧ bitSet (w 1) 28 = k.isProtected
      ∧ field (w 1) 27 25 = (match k.state with
        | .opened => 0
        | .paused => 1
        | .closing => 2
        | .closed => 3
        | .interrupted => 4)
      ∧ field (w 1) 24 0 = k.pageCount ∧ (w 2).toNat = k.packetCount
      ∧ (w 3).toNat = k.endIndex.getD 0
      ∧ (∀ n, n < 128 → bitSet (w (4 + n / 32)) (n % 32) = k.trackSet.contains n)
      ∧ (∀ i, i < 32 →
        field (w (8 + i / 4)) (31 - 8 * (i % 4)) (24 - 8 * (i % 4)) = (k.label.getD []).getD i 0)
      ∧ (∀ i, i < 16 → (w (16 + 2 * i)).toNat = ((k.pauses[i]?).map Interval.start).getD 0
        ∧ (w (17 + 2 * i)).toNat = ((k.pauses[i]?).bind Interval.stop).getD 0)
      ∧ TakeRecord.ofSlot k.slotWords = { k with begun := true, firstExtent := none, deleting := false }

/-! ## Take requests -/

/-- TAKE_OPEN (R84). Each refusal in its order; an accepted one creates the record, gives the take the lowest free
extent, holds the store operation slot and asks for a catalog write, which starts, or waits behind the one in flight
(R97), or, where module 0 does not answer or the catalog sequence is at its greatest value, fails at once: the
record goes, its extent is handed back, and TAKE_OPEN ends with STORE_FAULT (R98). The model's choices: WRONG_STATE
comes before a missing word (log 16); the next catalog page rises at the submission of the program (log 29); spare
words 5 to 15 of a catalog page are 0xFFFFFFFF (log 38); the sequence is tested before an erase of the other extent
(log 13). -/
def Obligations.TakeOpenCreatesTheRecord : Prop :=
  ∀ (s : State) (e : Entry), Served s .takeOpen e → s.Sized →
    let refused := fun st : Status => Completes (exec .takeOpen s) (Ends s e st [])
    let size := field (e.op 0) 5 0
    let label := e.labelCodes
    let badLabel := e.operands.length < 1 + (size + 3) / 4 ∨ 32 < size ∨ ∃ c ∈ label, c < 32 ∨ 126 < c
    let ready := s.store.state = .mounted ∧ s.liveTake = none
    let full := 64 ≤ s.takes.records.length ∨ 65536 ≤ s.takes.nextTake ∨ s.store.freeList = []
    (¬ ready → refused .wrongState)
    ∧ (ready → badLabel → refused .badOperand)
    ∧ (ready → ¬ badLabel → full → refused .noSpace)
    ∧ ∀ (first : Nat) (rest : List Nat), ready → ¬ badLabel → s.takes.records.length < 64 →
      s.takes.nextTake < 65536 → s.store.freeList = first :: rest →
      let opened := fun t : State =>
        t = { s with takes := t.takes, store := t.store, requests := t.requests }
          ∧ HoldsSlot s e (.openTake s.takes.nextTake) t
          ∧ t.takes.records = s.takes.records ++ [{
              number := s.takes.nextTake, state := .opened, begun := false, isProtected := false
              label := if size = 0 then none else some label
              rate := s.rate
              trackSet := (List.range 128).filter fun k => (s.track k).route.enabled && (s.track k).route.archive
              firstExtent := some first, pageCount := 0, packetCount := 0, lossCount := 0
              endIndex := none, pauses := [], deleting := false }]
          ∧ t.takes.nextTake = s.takes.nextTake + 1
          ∧ t.takes.armed = s.takes.armed ∧ t.takes.openReady = false
          ∧ t.store = { s.store with
              table := setExtent s.store.table first ⟨.owned, some ⟨s.takes.nextTake, 0, 0⟩⟩
              writeState := some ⟨some first, 0, 0, false⟩
              inFlight := t.store.inFlight, waiting := t.store.waiting }
      (s.CatalogReady →
        Completes (exec .takeOpen s) fun t => opened t ∧ CatalogWriteBegun s t .storeOperation)
      ∧ (s.takes.write ≠ none →
        Completes (exec .takeOpen s) fun t => opened t ∧ CatalogWriteJoined s t .storeOperation)
      ∧ (s.CatalogStopped → Completes (exec .takeOpen s) fun t =>
        t.takes.records = s.takes.records.filter (fun x => x.number ≠ s.takes.nextTake)
          ∧ t.takes.nextTake = s.takes.nextTake + 1 ∧ CatalogWriteFailed s t
          ∧ t.store.writeState = none ∧ t.store.extent first = some ⟨.free, none⟩
          ∧ Answered s.link s.requests e .storeFault [] t)

/-- TAKE_PAUSE, TAKE_RESUME and TAKE_CLOSE (R83, R86, R87, R89): each refusal; an accepted one is armed for the
next archive boundary and holds the store operation slot, and nothing else changes. -/
def Obligations.TransitionsAreArmed : Prop :=
  ∀ (s : State) (e : Entry),
    let arms := fun (i : Instr) (a : Transition) (k : StoreOpKind) => Completes (exec i s) fun t =>
      t = { s with takes := { s.takes with armed := some a }, requests := t.requests } ∧ HoldsSlot s e k t
    let refused := fun (i : Instr) (st : Status) => Completes (exec i s) (Ends s e st [])
    (Served s .takePause e →
      (s.store.state ≠ .mounted ∨ s.liveTake = none → refused .takePause .wrongState)
      ∧ ∀ k, s.store.state = .mounted → s.liveTake = some k →
        (k.state ≠ .opened → refused .takePause .wrongState)
        ∧ (k.state = .opened → 16 ≤ k.pauses.length → refused .takePause .noSpace)
        ∧ (k.state = .opened → k.pauses.length < 16 → arms .takePause .pause .pause))
    ∧ (Served s .takeResume e →
      (s.store.state ≠ .mounted ∨ s.liveTake = none → refused .takeResume .wrongState)
      ∧ ∀ k, s.store.state = .mounted → s.liveTake = some k →
        (k.state ≠ .paused → refused .takeResume .wrongState)
        ∧ (k.state = .paused → arms .takeResume .resume .resume))
    ∧ (Served s .takeClose e →
      ((s.store.state ≠ .mounted ∧ s.store.state ≠ .fault) ∨ s.liveTake = none →
        refused .takeClose .wrongState)
      ∧ ∀ k, s.store.state = .mounted ∨ s.store.state = .fault → s.liveTake = some k →
        (k.state = .closing → refused .takeClose .wrongState)
        ∧ (k.state = .opened ∨ k.state = .paused → arms .takeClose .close .close))

/-- TAKE_PROTECT, TAKE_UNPROTECT and TAKE_DELETE (R83, R93, R94): each refusal in its order; a protected field that
already holds its value completes at once; otherwise the record's field is set and a catalog write asked for, which
starts, or waits behind the one in flight (R97), and nothing else changes; or, where it fails at once (R98), the
field has its former value again and the request ends with STORE_FAULT. The model's choices: WRONG_STATE comes
before a missing operand word (log 16); the next catalog page rises at the submission of the program (log 29); spare
words 5 to 15 of a catalog page are 0xFFFFFFFF (log 38); the sequence is tested before an erase of the other extent
(log 13). -/
def Obligations.ProtectAndDeleteAskTheCatalog : Prop :=
  ∀ (s : State) (e : Entry),
    let n := field (e.op 0) 15 0
    let known := if e.operands = [] then none else s.takes.record n
    let refused := fun (i : Instr) (st : Status) => Completes (exec i s) (Ends s e st [])
    let records := fun f : TakeRecord → TakeRecord =>
      s.takes.records.map fun x => if x.number = n then f x else x
    let ports := fun t : State =>
      t.store = { s.store with inFlight := t.store.inFlight, waiting := t.store.waiting }
    let asks := fun (i : Instr) (k : StoreOpKind) (f back : TakeRecord → TakeRecord) =>
      let held := fun t : State =>
        t = { s with takes := t.takes, store := t.store, requests := t.requests }
          ∧ HoldsSlot s e k t ∧ t.takes.records = records f
          ∧ t.takes.nextTake = s.takes.nextTake ∧ t.takes.armed = s.takes.armed
          ∧ t.takes.openReady = s.takes.openReady ∧ ports t
      (s.CatalogReady → Completes (exec i s) fun t => held t ∧ CatalogWriteBegun s t .storeOperation)
      ∧ (s.takes.write ≠ none → Completes (exec i s) fun t =>
        held t ∧ CatalogWriteJoined s t .storeOperation)
      ∧ (s.CatalogStopped → Completes (exec i s) fun t =>
        t = { s with takes := t.takes, store := t.store, link := t.link, requests := t.requests }
          ∧ t.takes = { s.takes with records := records back } ∧ ports t
          ∧ Answered s.link s.requests e .storeFault [] t)
    let protects := fun (i : Instr) (v : Bool) =>
      (s.store.state ≠ .mounted → refused i .wrongState)
      ∧ (s.store.state = .mounted → known = none → refused i .badOperand)
      ∧ ∀ k, s.store.state = .mounted → known = some k →
        (k.state.live = true → refused i .wrongState)
        ∧ (k.state.live = false → k.isProtected = v → refused i .done)
        ∧ (k.state.live = false → k.isProtected ≠ v → asks i (.protect n k.isProtected)
          (fun x => { x with isProtected := v }) fun x => { x with isProtected := k.isProtected })
    (Served s .takeProtect e → protects .takeProtect true)
    ∧ (Served s .takeUnprotect e → protects .takeUnprotect false)
    ∧ (Served s .takeDelete e →
      (s.store.state ≠ .mounted → refused .takeDelete .wrongState)
      ∧ (s.store.state = .mounted → known = none → refused .takeDelete .badOperand)
      ∧ ∀ k, s.store.state = .mounted → known = some k →
        let inUse := k.state.live = true ∨ (s.readout.state ≠ .idle ∧ s.readout.take = n)
        (k.isProtected = true → refused .takeDelete .isProtected)
        ∧ (k.isProtected = false → inUse → refused .takeDelete .wrongState)
        ∧ (k.isProtected = false → ¬ inUse → asks .takeDelete (.delete n)
          (fun x => { x with deleting := true }) fun x => { x with deleting := false }))

/-! ## Archive boundaries -/

/-- An archive boundary (R19, R41, R58 to R60, R72, R75, R76, R85, R92, R110). Blocks and route-change marks are
cleared. A take that waits for it begins; the ended block of a take that was OPEN or PAUSED takes the next
index; an OPEN one has the packet of each track of its set offered in ascending order: a packet that fits in
the queue is appended whole, its words following those already there; the others are dropped, counted and
marked; words move on, in order, from the head of the queue into the staging pages. No other block is indexed
or coded. `u` is what the mix part leaves: it comes first, so that stream frames go before the TAKE_OPEN reply
(the model's choice, log 26). -/
def Obligations.ArchiveBoundaryIndexesAndCodes : Prop :=
  ∀ s : State, s.Sized → s.sources.boundaryDue = true → s.sources.rowCounter = 0 →
    Completes (exec .archiveBoundary s) fun t =>
      let u := s.mixBoundary
      let ports := t.store = { s.store with inFlight := t.store.inFlight, waiting := t.store.waiting }
      let loss := fun (x : State) (n : Nat) => (x.coder.blocks.getD n {}).loss
      (t.sources = { s.sources with boundaryDue := false }
        ∧ t.mix = (if s.mix.swapArmed then { s.mix with
            glideStart := some s.mix.active, active := s.mix.pendingBank, swapArmed := false }
          else { s.mix with glideStart := none })
        ∧ t.stream = u.stream ∧ t.meter = s.meter ∧ t.flash = s.flash
        ∧ t.tracks = { s.tracks with routeMarks := t.tracks.routeMarks }
        ∧ ∀ n, n < 128 → (t.track n).mark = { (s.track n).mark with marked := false }
          ∧ t.coder.blocks.getD n {} = { loss := loss t n })
      ∧ (s.liveTake = none → t.takes = s.takes ∧ t.coder.nextIndex = s.coder.nextIndex ∧ ports
        ∧ t.requests = s.requests ∧ t.link = u.link ∧ t.readout = s.readout
        ∧ ∀ n, n < 128 → loss t n = loss s n)
      ∧ ∀ k, s.liveTake = some k →
        (k.state = .closing ∨ k.begun = false ∧ s.takes.openReady = false →
          t.takes = s.takes ∧ t.coder.nextIndex = s.coder.nextIndex ∧ ports ∧ t.requests = s.requests)
        ∧ (k.state = .opened → k.begun = false → s.takes.openReady = true →
          t.coder.nextIndex = some 0 ∧ ports
          ∧ (∀ n, n < 128 → loss t n = false)
          ∧ t.takes = { s.takes with
              openReady := false
              records := s.takes.records.map fun x =>
                if x.number = k.number then { x with begun := true } else x }
          ∧ ∀ (op : StoreOp) (e : Entry), s.requests.storeOp = some op → s.requests.Lawful →
            e ∈ s.requests.entries → e.arrival = op.arrival →
            Answered u.link { s.requests with storeOp := none } e .done [natWord k.number] t)
        ∧ ∀ i, k.begun = true → s.coder.nextIndex = some i → i < 4294967295 → s.takes.armed = none →
          (k.state = .paused → t.coder.nextIndex = some (i + 1) ∧ t.takes = s.takes ∧ ports
            ∧ t.requests = s.requests
            ∧ ∀ n, n < 128 → loss t n = loss s n)
          ∧ (k.state = .opened →
            let c := s.store
            let packet := fun n : Nat =>
              let b : BlockRecord := s.coder.blocks.getD n {}
              packetWords n i b.concealed
                { concealed := decide (0 < b.concealed), clipped := b.clipped
                  silent := (s.meter.tracks.getD n {}).silent, loss := b.loss
                  sourceChanged := (s.track n).mark.marked }
                (codeSamples (b.cells.map fun x => x.getD 0) (s.track n).route.maxOrder)
            t.coder.nextIndex = some (i + 1) ∧ t.requests = s.requests ∧ t.link = u.link
            ∧ t.readout = s.readout
            ∧ t.store = { c with
                table := t.store.table, queue := t.store.queue, writeState := t.store.writeState
                pageA := t.store.pageA, pageB := t.store.pageB, relocations := t.store.relocations
                inFlight := t.store.inFlight, waiting := t.store.waiting }
            ∧ ∃ (kept : List Nat) (a b : List PacketWord), kept.Sublist k.trackSet
              ∧ (let p := kept.length
                let l := k.trackSet.length - kept.length
                t.takes = { s.takes with
                  records := s.takes.records.map fun x =>
                    if x.number = k.number then { x with
                      packetCount := if p = 0 then x.packetCount else min (x.packetCount + p) 4294967295
                      lossCount := if l = 0 then x.lossCount else min (x.lossCount + l) 65535 }
                    else x })
              ∧ (∀ n, n < 128 → loss t n = if n ∈ k.trackSet then decide (n ∉ kept) else loss s n)
              ∧ (∀ n ∈ k.trackSet,
                let before := kept.filter fun m => decide (m < n)
                let room := decide (c.queue.length + (before.map fun m => (packet m).length).sum
                  + (packet n).length ≤ 16384)
                (room = true → n ∈ kept)
                ∧ (before = [] ∨ c.writeState = none
                    ∨ (∀ p ∈ [c.pageA, c.pageB], p.state ≠ .empty ∧ p.state ≠ .filling) →
                  n ∈ kept → room = true))
              ∧ (kept = [] → ports)
              ∧ (if c.pageA.state ≠ .filling ∧ c.pageB.state = .filling then b ++ a else a ++ b) ++ t.store.queue
                = c.queue ++ kept.flatMap (fun n => match packet n with
                  | [] => []
                  | w :: ws => ⟨w, true⟩ :: ws.map fun v => (⟨v, false⟩ : PacketWord))
              ∧ (c.writeState = none → a = [] ∧ b = [] ∧ t.store.pageA = c.pageA ∧ t.store.pageB = c.pageB)
              ∧ ∀ ws, c.writeState = some ws →
                c.pageA.Took t.store.pageA k.number ws.nextStaging a
                ∧ c.pageB.Took t.store.pageB k.number
                  (ws.nextStaging + (decide (c.pageA.state = .empty)).toNat) b
                ∧ (t.store.writeState.map fun v => v.nextStaging) = some (ws.nextStaging
                  + (decide (c.pageA.state = .empty ∧ a ≠ [])).toNat
                  + (decide (c.pageB.state = .empty ∧ b ≠ [])).toNat)
                ∧ (kept ≠ [] → t.store.queue = []
                  ∨ ∀ p ∈ [t.store.pageA, t.store.pageB], p.state ≠ .empty ∧ p.state ≠ .filling))

/-- What takes hold at an archive boundary that gives index `i` (R59, R86, R87, R89 to R91): an armed pause opens an
interval at i + 1 and an armed resume ends the open one at i; a close, or the greatest index, ends the take at i and
begins its drain: a partly filled page is flushed (R115); a STALLED take's queue and unprogrammed pages are
discarded, their packets counted, and the take is CLOSED (R116, R90). A pause, a resume and a completed drain each
ask for a catalog write, which starts, or waits behind the one in flight (R97), or fails at once, when the request
that waits on it ends with STORE_FAULT and the record stays as changed (R98). At the greatest index an armed pause
or resume does not take hold and ends with WRONG_STATE (R91). The model's choices: INDEX_EXHAUSTION is the archive
boundary that gives that index (log 3); stream frames go before the reply (log 26); the WRONG_STATE reply shows the
alerts of the take before its close (log 34); the next catalog page rises at the submission of the program (log 29);
spare words 5 to 15 of a catalog page are 0xFFFFFFFF (log 38); the sequence is tested before an erase of the other
extent (log 13). -/
def Obligations.TransitionsTakeHold : Prop :=
  ∀ (s : State) (k : TakeRecord) (i : Nat), s.sources.boundaryDue = true → s.sources.rowCounter = 0 →
    s.liveTake = some k → k.begun = true → s.coder.nextIndex = some i →
    let c := s.store
    let ended := fun ps : List Interval => ps.map fun q =>
      if q.stop = none then { q with stop := some i } else q
    let answered := fun (kind : StoreOpKind) (t : State) => ∀ (op : StoreOp) (e : Entry),
      s.requests.storeOp = some op → op.kind = kind → s.requests.Lawful → e ∈ s.requests.entries →
      e.arrival = op.arrival →
      Answered s.mixBoundary.link { s.requests with storeOp := none } e .storeFault [] t
    let asks := fun t : State =>
      let w : Waiter := match s.requests.storeOp with
        | some ⟨.close, _⟩ => .storeOperation
        | _ => .exhaustionClose
      (s.CatalogReady → CatalogWriteBegun s t w)
      ∧ (s.takes.write ≠ none → CatalogWriteJoined s t w)
      ∧ (s.CatalogStopped → CatalogWriteFailed s t ∧ (s.readout.state ≠ .following →
        answered .close t
          ∧ (w = .exhaustionClose → t.link = s.mixBoundary.link ∧ t.requests = s.requests)))
    let holds := fun (kind : StoreOpKind) (changed : State → Prop) =>
      let next := fun t : State => t.coder.nextIndex = some (i + 1) ∧ t.takes.armed = none ∧ changed t
      (s.CatalogReady → Completes (exec .archiveBoundary s) fun t =>
        next t ∧ t.requests = s.requests ∧ CatalogWriteBegun s t .storeOperation)
      ∧ (s.takes.write ≠ none → Completes (exec .archiveBoundary s) fun t =>
        next t ∧ t.requests = s.requests ∧ CatalogWriteJoined s t .storeOperation)
      ∧ (s.CatalogStopped → (∀ op, s.requests.storeOp = some op → op.kind = kind) →
        Completes (exec .archiveBoundary s) fun t =>
          next t ∧ CatalogWriteFailed s t ∧ answered kind t)
    let closes := fun t : State => t.takes.armed = none
      ∧ t.takes.records.map TakeRecord.number = s.takes.records.map TakeRecord.number
      ∧ (∀ x ∈ t.takes.records, x.number = k.number → x.endIndex = some i
        ∧ (x.state = .closing ∨ x.state = .closed) ∧ ∀ q ∈ x.pauses, q.stop ≠ none)
      ∧ (c.pageA.state = .programming ∨ c.pageA.state = .verifying →
        t.liveTake.map TakeRecord.number = some k.number)
      ∧ (k.state = .paused → c.queue = [] → c.pageA.state = .empty → c.pageB.state = .empty →
        c.writeState ≠ none →
        t.coder.nextIndex = none ∧ t.store.writeState = none
          ∧ (∀ x ∈ t.takes.records, x.number = k.number → x.state = .closed)
          ∧ (s.takes.armed = none ∨ s.takes.armed = some .close → asks t))
      ∧ (∀ (ws : WriteState) (e : Nat) (x : Extent), k.state = .paused → c.queue = [] →
        c.pageA.state = .filling → c.pageB.state = .empty → c.writeState = some ws →
        ws.current = some e → c.extent e = some x → x.state = .owned → c.answers e = true →
        ws.writePage < 128 →
        (∀ y ∈ t.takes.records, y.number = k.number → y.state = .closing)
          ∧ t.store.pageA = { c.pageA with state := .programming, failedBefore := false }
          ∧ t.store.pageB = c.pageB ∧ t.store.queue = []
          ∧ ∃ img : PageImage, img.Holds c.pageA ((x.owner.map Owner.seq).getD 0)
            ∧ t.AtPort (.archiveProgram ⟨e, ws.writePage⟩ img))
      ∧ (∀ ws : WriteState, k.state = .paused → c.writeState = some ws → c.freeList = [] →
        (∀ e x, ws.current = some e → c.extent e = some x → x.state ≠ .owned) →
        c.pageA.state = .waiting → c.pageB.state ≠ .programming → c.pageB.state ≠ .verifying →
        c.pageA.pageSeq ≤ (if c.pageB.state = .empty then ws.nextStaging else c.pageB.pageSeq) →
        let gone := c.pageA.words ++ (if c.pageB.state = .empty then [] else c.pageB.words) ++ c.queue
        let packets := gone.countP PacketWord.first + match gone with
          | w :: _ => (!w.first).toNat
          | [] => 0
        t.store.queue = [] ∧ t.store.pageA = {} ∧ t.store.pageB.state = .empty ∧ t.store.writeState = none
          ∧ t.coder.nextIndex = none ∧ t.store.table = c.table
          ∧ (t.takes.records = s.takes.records.map fun y =>
            if y.number = k.number then { y with
              state := .closed, endIndex := some i, pauses := ended y.pauses
              lossCount := min (y.lossCount + packets) 65535 } else y)
          ∧ (s.takes.armed = none ∨ s.takes.armed = some .close → asks t))
    (i < 4294967295 → s.takes.armed = some .pause → k.state = .opened → holds .pause fun t =>
      ∃ p l : Nat, p + l = k.trackSet.length ∧ t.takes.records = s.takes.records.map fun x =>
        if x.number = k.number then { x with
          state := .paused
          pauses := x.pauses ++ [⟨i + 1, none⟩]
          packetCount := if p = 0 then x.packetCount else min (x.packetCount + p) 4294967295
          lossCount := if l = 0 then x.lossCount else min (x.lossCount + l) 65535 }
        else x)
    ∧ (i < 4294967295 → s.takes.armed = some .resume → k.state = .paused → holds .resume fun t =>
      t.takes.records = s.takes.records.map fun x =>
        if x.number = k.number then { x with state := .opened, pauses := ended x.pauses } else x)
    ∧ (i < 4294967295 → s.takes.armed = some .close → k.state = .opened ∨ k.state = .paused →
      Completes (exec .archiveBoundary s) closes)
    ∧ (4294967295 ≤ i → k.state = .opened ∨ k.state = .paused →
      exec .indexExhaustion s = exec .archiveBoundary s
      ∧ Completes (exec .indexExhaustion s) fun t => closes t
        ∧ ∀ op : StoreOp, s.requests.storeOp = some op →
          s.takes.armed = some .pause ∨ s.takes.armed = some .resume →
          t.requests.storeOp = none ∧ (∀ e ∈ t.requests.entries, e.arrival ≠ op.arrival)
          ∧ ∀ e ∈ s.requests.entries, s.requests.Lawful → e.arrival = op.arrival →
            s.readout.state ≠ .following →
            AnsweredIn (s.mixBoundary.codeEnded k i) s.mixBoundary.link { s.requests with storeOp := none } e
              .wrongState [] t)

/-! ## Format and readout -/

/-- STORE_FORMAT (R123, R124): each refusal in its order; an accepted one makes the store UNFORMATTED at once,
holds the store operation slot and has the erase of the lowest extent at the port, and changes nothing else
but that this extent, were it FREE, is DIRTY. -/
def Obligations.StoreFormatIsAccepted : Prop :=
  ∀ (s : State) (e : Entry), Served s .storeFormat e →
    let refused := fun st : Status => Completes (exec .storeFormat s) (Ends s e st [])
    let ready := (s.store.state = .mounted ∨ s.store.state = .unformatted) ∧ s.store.module 0 = .answering
    let held := ∃ k ∈ s.takes.records, k.isProtected = true
    let busy := s.liveTake ≠ none ∨ s.readout.state ≠ .idle
    (¬ ready → refused .wrongState)
    ∧ (ready → held → refused .isProtected)
    ∧ (ready → ¬ held → busy → refused .wrongState)
    ∧ (ready → ¬ held → ¬ busy → Completes (exec .storeFormat s) fun t =>
      t = { s with store := t.store, requests := t.requests } ∧ HoldsSlot s e .format t
        ∧ t.store = { s.store with
            state := .unformatted
            format := some ⟨false, false⟩
            table := match s.store.extent 0 with
              | some x => if x.state = .free then setExtent s.store.table 0 ⟨.dirty, none⟩ else s.store.table
              | none => s.store.table
            inFlight := t.store.inFlight, waiting := t.store.waiting }
        ∧ t.AtPort (.formatErase 0))

/-- READ_TAKE and READ_STOP (R129 to R133, R139, R141, R142): each refusal in its order (WRONG_STATE before
missing words is the model's choice, log 16); a readout starts with its page step, which fetches the page,
defers the fetch, or follows the live take, and ends it at once with STORE_FAULT where the page is absent or its
module does not answer; a stop ends it with ABORTED, READ_TAKE's reply before its own. -/
def Obligations.ReadoutStartsAndStops : Prop :=
  ∀ (s : State) (e : Entry),
    (Served s .readTake e →
      let n := field (e.op 0) 15 0
      let page := field (e.op 1) 23 0
      let offset := field (e.op 2) 31 16
      let mode := field (e.op 2) 3 0
      let refused := fun st : Status => Completes (exec .readTake s) (Ends s e st [])
      (s.store.state ≠ .mounted → refused .wrongState)
      ∧ (s.store.state = .mounted → e.operands.length < 3 ∨ s.takes.known n = none → refused .badOperand)
      ∧ ∀ k, s.store.state = .mounted → 3 ≤ e.operands.length → s.takes.record n = some k →
        k.deleting = false →
        let bad := 4095 < offset ∨ (mode ≠ 1 ∧ mode ≠ 2) ∨ (k.state.live = false ∧ k.pageCount ≤ page)
        let starts := fun (r : ReadoutEngine) (p : State → Prop) => Completes (exec .readTake s) fun t =>
          t = { s with store := t.store, readout := t.readout, requests := t.requests }
            ∧ HeldActive s e t ∧ t.requests = { s.requests with entries := t.requests.entries }
            ∧ t.store = { s.store with inFlight := t.store.inFlight, waiting := t.store.waiting }
            ∧ t.readout = { r with
                origin := e.origin, arrival := e.arrival, take := n, run := decide (mode = 2)
                nextPage := page, startOffset := offset, firstPage := true }
            ∧ p t
        (bad → refused .badOperand)
        ∧ (¬ bad → k.pageCount ≤ page → starts { state := .following } fun _ => True)
        ∧ (¬ bad → page < k.pageCount → s.store.backlog < s.store.queue.length →
          starts { state := .holding, countdown := s.store.holdTime } fun _ => True)
        ∧ (¬ bad → page < k.pageCount → s.store.queue.length ≤ s.store.backlog →
          ∀ a, s.store.locate n page = some a → s.store.answers a.extent = true →
            starts { state := .fetching } fun t => t.AtPort (.readoutFetch a true))
        ∧ (¬ bad → page < k.pageCount → s.store.queue.length ≤ s.store.backlog →
          (∀ a, s.store.locate n page = some a → s.store.answers a.extent = false) →
          Completes (exec .readTake s) fun t =>
            t = { s with store := t.store, readout := {}, link := t.link, requests := t.requests }
              ∧ t.store = { s.store with inFlight := t.store.inFlight, waiting := t.store.waiting }
              ∧ Answered { s.link with readoutQ := [] } s.requests e .storeFault [0, 0] t))
    ∧ (Served s .readStop e →
      (s.readout.state = .idle → Completes (exec .readStop s) (Ends s e .wrongState []))
      ∧ ∀ r ∈ s.requests.entries, s.readout.state ≠ .idle → r.arrival = s.readout.arrival →
        r.arrival ≠ e.arrival → Completes (exec .readStop s) fun t =>
          t = { s with store := t.store, readout := {}, link := t.link, requests := t.requests }
            ∧ t.store = { s.store with
                inFlight := s.store.inFlight.map fun j => { j with op := j.op.unwant }
                waiting := s.store.waiting.map PortOp.unwant }
            ∧ ∃ m : State, m = { t with link := m.link, requests := m.requests }
              ∧ Answered { s.link with readoutQ := [] } s.requests r .aborted
                [natWord s.readout.pagesSent, natWord s.readout.pagesFailed] m
              ∧ Answered m.link m.requests e .done [] t)

/-- The end of a hold countdown, of a readout fetch and of a frame's transmission (R131 to R137, R139 to R141).
A countdown of 0 brings the backlog test again; an unwanted outcome is discarded; a failed fetch, and one asked
for a page that is absent or whose module does not answer, ends the readout with STORE_FAULT; a page is cut from
its offset into frames of 56 words, two offered to an empty queue and the next one held, and a single last
frame of a PAGE readout carries LAST. A frame that leaves the queue takes its departure note and lets the held
frame in: the next frame is built, or the page step taken, or after LAST the readout is ENDING; the start of
the frame that carries LAST ends it with DONE. -/
def Obligations.ReadoutGoesOn : Prop :=
  ∀ s : State,
    (s.readout.state = .holding → s.readout.countdown = 0 →
      (s.store.backlog < s.store.queue.length → Completes (exec .holdCountdownExpiry s) fun t =>
        t = { s with store := t.store, readout := { s.readout with countdown := s.store.holdTime } }
          ∧ t.store = { s.store with inFlight := t.store.inFlight, waiting := t.store.waiting })
      ∧ (s.store.queue.length ≤ s.store.backlog → ∀ a,
        s.store.locate s.readout.take s.readout.nextPage = some a → s.store.answers a.extent = true →
        Completes (exec .holdCountdownExpiry s) fun t =>
          t = { s with store := t.store, readout := { s.readout with state := .fetching } }
            ∧ t.store = { s.store with inFlight := t.store.inFlight, waiting := t.store.waiting }
            ∧ t.AtPort (.readoutFetch a true))
      ∧ (s.store.queue.length ≤ s.store.backlog →
        (∀ a, s.store.locate s.readout.take s.readout.nextPage = some a → s.store.answers a.extent = false) →
        ∀ e ∈ s.requests.entries, s.requests.Lawful → e.arrival = s.readout.arrival →
        Completes (exec .holdCountdownExpiry s) fun t =>
          t.readout = {} ∧ t.takes = s.takes ∧ t.store.table = s.store.table
            ∧ Answered { s.link with readoutQ := [] } s.requests e .storeFault
              [natWord s.readout.pagesSent, natWord s.readout.pagesFailed] t))
    ∧ (∀ (f : Frame) (q : List Frame) (n : DepartureNote) (ns : List DepartureNote), s.link.programUp = true →
      s.link.txProgram ≠ none → s.link.streamQ = [] → s.link.programReplyQ = [] → s.link.readoutQ = f :: q →
      s.readout.notes = n :: ns →
      let sent := s.readout.pagesSent + n.endsPage.toNat
      let failed := s.readout.pagesFailed + (n.endsPage && n.checkFailed).toNat
      (n.last = true → ∀ e ∈ s.requests.entries, s.requests.Lawful → e.arrival = s.readout.arrival →
        Completes (exec .programForwardFrameEnd s) fun t => t.readout = {} ∧ t.takes = s.takes
          ∧ t.store.table = s.store.table
          ∧ Answered { s.link with txProgram := some f, readoutQ := q } s.requests e .done
            [natWord sent, natWord failed] t)
      ∧ ∀ (g : Frame) (b : BuiltFrame), n.last = false → q = [g] → s.readout.held = some b →
        s.readout.state = .sending ∨ s.readout.state = .final →
        let r : ReadoutEngine := { s.readout with
          notes := ns ++ [b.note], pagesSent := sent, pagesFailed := failed, held := none }
        let leaves := fun (r' : ReadoutEngine) (p : State → Prop) =>
          Completes (exec .programForwardFrameEnd s) fun t =>
            t = { s with
                link := { s.link with txProgram := some f, readoutQ := [g, b.words] }
                store := { s.store with inFlight := t.store.inFlight, waiting := t.store.waiting }
                readout := r' } ∧ p t
        let pages := ((s.takes.record r.take).map TakeRecord.pageCount).getD 0
        let live := (s.takes.record r.take).any fun k => k.state.live
        let word := fun (last failed first : Bool) (offset : Nat) =>
          natWord (last.toNat * 2 ^ 18 + failed.toNat * 2 ^ 17 + first.toNat * 2 ^ 16 + offset)
        (b.note.last = true → leaves { r with state := .ending, buffer := [] } fun _ => True)
        ∧ (b.note.last = false → b.note.endsPage = false → r.state = .sending →
          let data : List Word := (r.buffer.drop r.cut).take 56
          let ends := decide (4096 ≤ r.cut + data.length)
          let last := ends && (!r.run || (!live && decide (r.nextPage + 1 = pages)))
          leaves { r with
            cut := r.cut + data.length, fresh := false
            held := some {
              words := makeFrame s.unit kindReadout 0
                ([natWord r.take, natWord r.nextPage, word last r.checkFailed r.fresh r.cut] ++ data)
              note := ⟨ends, r.checkFailed, last⟩ } } fun _ => True)
        ∧ (b.note.last = false → b.note.endsPage = true →
          let r : ReadoutEngine := { r with buffer := [], nextPage := r.nextPage + 1, firstPage := false }
          let deep := s.store.backlog < s.store.queue.length
          (r.nextPage < pages → deep →
            leaves { r with state := .holding, countdown := s.store.holdTime } fun _ => True)
          ∧ (r.nextPage < pages → ¬ deep → ∀ a, s.store.locate r.take r.nextPage = some a →
            s.store.answers a.extent = true →
            leaves { r with state := .fetching } fun t => t.AtPort (.readoutFetch a true))
          ∧ (pages ≤ r.nextPage → live = true → leaves { r with state := .following } fun _ => True)
          ∧ (pages ≤ r.nextPage → live = false → leaves { r with
            state := .final
            held := some {
              words := makeFrame s.unit kindReadout 0
                [natWord r.take, natWord r.nextPage, word true false false 0]
              note := ⟨false, false, true⟩ } } fun _ => True)))
    ∧ ∀ (a : PageAddress) (wanted : Bool) (rows : Nat) (answer : Answer) (g : Bool),
      s.store.inFlight = some ⟨.readoutFetch a wanted, rows⟩ →
      (wanted = false → Completes (exec (.readoutFetchEnd answer g) s) fun t =>
        t = { s with store := { s.store with inFlight := t.store.inFlight, waiting := t.store.waiting } })
      ∧ (wanted = true → answer = .failed → ∀ e ∈ s.requests.entries, s.requests.Lawful →
        e.arrival = s.readout.arrival → Completes (exec (.readoutFetchEnd answer g) s) fun t =>
          t.readout = {} ∧ t.takes = s.takes ∧ t.store.table = s.store.table
            ∧ Answered { s.link with readoutQ := [] } s.requests e .storeFault
              [natWord s.readout.pagesSent, natWord s.readout.pagesFailed] t)
      ∧ ∀ page : PageImage, wanted = true → s.fetched a answer = some page → page.data.length = 4096 →
        s.readout.held = none → s.link.programUp = true → s.link.txProgram ≠ none → s.link.readoutQ = [] →
        let r := s.readout
        let offset := if r.firstPage then r.startOffset else 0
        let bad := decide (page.spare.getD 3 0 ≠ ~~~(Word.sum page.data))
        let frame := fun (last : Bool) (j : Nat) => makeFrame s.unit kindReadout 0
          ([natWord r.take, natWord r.nextPage,
              natWord (last.toNat * 2 ^ 18 + bad.toNat * 2 ^ 17 + (decide (j = 0)).toNat * 2 ^ 16
                + (offset + 56 * j))]
            ++ (page.data.drop (offset + 56 * j)).take 56)
        (offset + 168 < 4096 → Completes (exec (.readoutFetchEnd answer g) s) fun t =>
          t = { s with
              store := { s.store with inFlight := t.store.inFlight, waiting := t.store.waiting }
              link := { s.link with readoutQ := [frame false 0, frame false 1] }
              readout := { r with
                state := .sending, buffer := page.data, checkFailed := bad, cut := offset + 168, fresh := false
                held := some ⟨frame false 2, ⟨false, bad, false⟩⟩
                notes := r.notes ++ [⟨false, bad, false⟩, ⟨false, bad, false⟩] } })
        ∧ (r.run = false → 4040 ≤ offset → offset < 4096 →
          Completes (exec (.readoutFetchEnd answer g) s) fun t =>
            t = { s with
                store := { s.store with inFlight := t.store.inFlight, waiting := t.store.waiting }
                link := { s.link with readoutQ := [frame true 0] }
                readout := { r with
                  state := .ending, buffer := [], checkFailed := bad, cut := 4096, fresh := false
                  notes := r.notes ++ [⟨true, bad, true⟩] } })

/-! ## The request queue's own requests and power-on -/

/-- RESERVE, RELEASE, UNIT_RESET and POWER_ON (R17, R36, R55, R78, R102, R127, R158, R159, R179, R183, R193 to R195,
R201). UNIT_RESET keeps the takes, the module contents, the store but its counts, the line states and the frames in
transmission; POWER_ON takes the straps. The model's choices: a boundary that is due at a UNIT_RESET is lost with it
(log 2); POWER_ON keeps the waiting commands and the module contents, but for what an operation in flight was
writing (log 7); after it the catalog position and the fields of the IDLE readout are 0 and empty (log 5) and the
arrival number is 0 (log 33). -/
def Obligations.ReservationsAndResets : Prop :=
  ∀ (s : State) (e : Entry),
    let scope := field (e.op 0) 7 0
    let badScope := e.operands = [] ∨ (scope ≠ 1 ∧ scope ≠ 2)
    let me : Station := ⟨e.origin, e.station⟩
    let holder := if scope = 1 then s.requests.reserveConfig else s.requests.reserveStore
    let put := fun h : Option Station => ({ s with requests := { s.requests with
      reserveConfig := if scope = 1 then h else s.requests.reserveConfig
      reserveStore := if scope = 1 then s.requests.reserveStore else h } } : State)
    let fresh := fun t : State =>
      t.sources.rowCounter = 0 ∧ t.sources.boundaryDue = false ∧ t.sources.foreign = 0
        ∧ t.sources.records = List.replicate 16 {
            presence := .absent, acquire := 0, misses := 0, limit := 8, fifo := [], lastSeq := none
            accepted := 0, duplicates := 0, overruns := 0, gaps := 0, malformed := 0, lapses := 0 }
        ∧ t.sources.conceal = List.replicate 128 ⟨0, 64⟩ ∧ t.sources.generator = ⟨[0, 0], 48, 0, 0⟩
        ∧ t.tracks.routes = List.replicate 128 {
            enabled := false, source := 0, slot := 0, archive := true, mode := .fade, polarity := .normal
            delay := 0, trim := 1048576, filter := none, maxOrder := 3 }
        ∧ t.tracks.lines = List.replicate 128 [] ∧ t.tracks.filters = List.replicate 128 ⟨0, 0⟩
        ∧ t.tracks.routeMarks = List.replicate 128 ⟨false, false⟩
        ∧ t.tracks.saturations = List.replicate 128 0
        ∧ t.coder.blocks = List.replicate 128 ⟨List.replicate 256 none, 0, false, false⟩
        ∧ t.coder.nextIndex = none
        ∧ t.mix = ⟨List.replicate 1024 0, List.replicate 1024 0, false, none, List.replicate 8 0, false⟩
        ∧ t.stream = List.replicate 8 ⟨.disabled, .disabled, 0, false, 0, List.replicate 32 none⟩
        ∧ t.meter.levels = List.replicate 136 ⟨0, 0, 0, 0, 0, [], 0⟩
        ∧ t.meter.tracks = List.replicate 128 ⟨0, false, 0, false⟩
        ∧ t.meter.overLevel = 8388000 ∧ t.meter.silenceThreshold = 84 ∧ t.meter.silenceWindows = 50
        ∧ t.meter.clipAlert = false ∧ t.meter.windowCounter = 0 ∧ t.readout.state = .idle
        ∧ t.requests.reserveConfig = none ∧ t.requests.reserveStore = none
        ∧ t.requests.broadcastRefused = 0
        ∧ t.store.programFailures = 0 ∧ t.store.verifyMismatches = 0 ∧ t.store.relocations = 0
        ∧ t.store.eraseFailures = 0 ∧ t.store.expiries = 0
    (Served s .reserve e →
      (badScope → Completes (exec .reserve s) (Ends s e .badOperand []))
      ∧ (¬ badScope → holder ≠ none → Completes (exec .reserve s) (Ends s e .reserved []))
      ∧ (¬ badScope → holder = none → Completes (exec .reserve s) (Ends (put (some me)) e .done [])))
    ∧ (Served s .release e →
      (badScope → Completes (exec .release s) (Ends s e .badOperand []))
      ∧ (¬ badScope → holder ≠ some me → Completes (exec .release s) (Ends s e .reserved []))
      ∧ (¬ badScope → holder = some me → Completes (exec .release s) (Ends (put none) e .done [])))
    ∧ (Served s .unitReset e →
      let busy := s.liveTake ≠ none ∨ s.readout.state ≠ .idle
      (busy → Completes (exec .unitReset s) (Ends s e .wrongState []))
      ∧ (¬ busy → Completes (exec .unitReset s) fun t => fresh t
        ∧ t.pending = s.pending ∧ t.freeCount = s.freeCount ∧ t.rate = s.rate ∧ t.unit = s.unit
        ∧ t.takes = s.takes ∧ t.flash = s.flash
        ∧ t.store = { s.store with
            programFailures := 0, verifyMismatches := 0, relocations := 0, eraseFailures := 0, expiries := 0 }
        ∧ t.requests.entries = [] ∧ t.requests.storeOp = s.requests.storeOp
        ∧ (let l : LinkUnit := {
            stageUp := s.link.stageUp, throughUp := s.link.throughUp, programUp := s.link.programUp
            rxStage := .hunt, rxThrough := .hunt, rxProgram := .hunt, marker := .relay
            repeatQ := [], stageReplyQ := [], relayQ := [], streamQ := [], programReplyQ := [], readoutQ := []
            txThrough := s.link.txThrough, txStageReturn := s.link.txStageReturn
            txProgram := s.link.txProgram }
          t.link = if e.broadcast then l
            else l.offerReply e.origin (t.replyFrame e.station e.number e.code.number .done []))))
    ∧ ∀ (high : Bool) (pins : BitVec 5) (m0 m1 m2 m3 up0 up1 up2 : Bool),
      let port := fun fitted : Bool => if fitted then ModuleState.answering else .notFitted
      Completes (exec (.powerOn high pins m0 m1 m2 m3 up0 up1 up2) s) fun t => fresh t
        ∧ t.pending = s.pending ∧ t.rate = (if high then .k96 else .k48) ∧ t.unit = min pins.toNat 30
        ∧ t.link = { stageUp := up0, throughUp := up1, programUp := up2 }
        ∧ t.takes = {} ∧ t.requests = {} ∧ t.readout = {}
        ∧ t.store.modules = [port m0, port m1, port m2, port m3]
        ∧ t.store.state = .unmounted ∧ t.store.table = [] ∧ t.store.queue = []
        ∧ t.store.writeState = none ∧ t.store.pageA.state = .empty ∧ t.store.pageB.state = .empty
        ∧ t.store.inFlight = none ∧ t.store.waiting = [] ∧ t.store.format = none ∧ t.store.mount = none
        ∧ t.store.verify = true ∧ t.store.backlog = 8192 ∧ t.store.holdTime = 4800 ∧ t.store.lowMark = 64
        ∧ ∀ k, (∀ j, s.store.inFlight = some j → ¬ j.op.writes k) → t.flash.read k = s.flash.read k

/-! ## Ends of module operations -/

/-- ARCHIVE_PROGRAM_END, VERIFY_FETCH_END and BAD_MARK_WRITE_END (R90, R92, R104, R107, R110 to R115, R126, R137). A
good program is verified, or with verify off counts as verified; a verified page is counted and released: the page
waiting behind it is submitted, to the next page of the current extent or to a new one, the freed page fills from
the queue, and a CLOSING take's last page completes the drain, of which a FOLLOWING readout is told; the closing
catalog write starts, or waits behind the one in flight (R97), or fails at once, when a TAKE_CLOSE that waits on it
ends with STORE_FAULT (R98). A failure or a mismatch is counted, the extent becomes BAD with its owner kept and its
bad mark asked for, and the page is relocated to the lowest free extent or the take is STALLED. The model's choices:
a FOLLOWING readout compares the backlog before words move into the freed page (log 30); a difference in spare words
alone is a mismatch (log 14); the next catalog page rises at the submission of the program (log 29); spare words 5
to 15 of a catalog page are 0xFFFFFFFF (log 38); the sequence is tested before an erase of the other extent (log
13). -/
def Obligations.ArchivePageEnds : Prop :=
  ∀ (s : State) (g : Bool),
    let ports := fun t : State => t.store =
      { s.store with inFlight := t.store.inFlight, waiting := t.store.waiting }
    let A := s.store.pageA
    let B := s.store.pageB
    let verified := fun (now : StagingState) (a : PageAddress) (t : State) =>
      ∀ k, s.liveTake = some k →
        let counted := fun x : TakeRecord => { x with pageCount := min (x.pageCount + 1) 16777216 }
        (k.state = .opened ∨ k.state = .paused →
          t.takes = { s.takes with
            records := s.takes.records.map fun x => if x.number = k.number then counted x else x }
          ∧ (s.readout.state ≠ .following → t.readout = s.readout ∧ t.link = s.link
            ∧ t.requests = s.requests)
          ∧ (A.state = now → B.state = .empty → s.store.queue = [] →
            t.store.pageA = {} ∧ t.store.pageB = B)
          ∧ (s.readout.state = .following → s.readout.take = k.number → s.takes.record k.number = some k →
            k.pageCount < 16777216 → s.readout.nextPage = k.pageCount →
            s.store.backlog < s.store.queue.length →
            t.readout = { s.readout with state := .holding, countdown := s.store.holdTime })
          ∧ ∀ ws, s.store.writeState = some ws →
            (A.state = now → B.state = .empty → s.store.queue ≠ [] → s.store.queue.length < 4092 →
              t.store.queue = [] ∧ t.store.pageB = B
              ∧ t.store.pageA = {
                  state := .filling, take := k.number, pageSeq := ws.nextStaging, words := s.store.queue
                  firstOffset := match s.store.queue.findIdx? PacketWord.first with
                    | some j => 4 + j
                    | none => 0 }
              ∧ (t.store.writeState.map fun v => v.nextStaging) = some (ws.nextStaging + 1))
            ∧ (A.state = now → B.state = .waiting → s.store.queue = [] →
              let page := if now = .programming ∧ ws.current = some a.extent then ws.writePage + 1
                else ws.writePage
              let goes := fun (target : PageAddress) (seq : Nat) =>
                t.store.pageA = {} ∧ t.store.pageB = { B with state := .programming, failedBefore := false }
                  ∧ t.store.stalled = false
                  ∧ ∃ img : PageImage, img.Holds B seq ∧ t.AtPort (.archiveProgram target img)
              (∀ e x, ws.current = some e → s.store.extent e = some x → x.state = .owned →
                s.store.answers e = true → page < 128 →
                t.store.table = s.store.table ∧ goes ⟨e, page⟩ ((x.owner.map Owner.seq).getD 0))
              ∧ ∀ e es, 128 ≤ page → s.store.freeList = e :: es →
                t.store.table = setExtent s.store.table e
                    ⟨.owned, some ⟨B.take, s.store.chainNext B.take, B.pageSeq⟩⟩
                  ∧ t.store.writeState = some { ws with current := some e, writePage := 0, stalled := false }
                  ∧ goes ⟨e, 0⟩ (s.store.chainNext B.take)))
        ∧ (k.state = .closing → A.state = now → B.state = .empty → s.store.queue = [] →
          s.store.writeState ≠ none → s.store.stalled = false →
          let w : Waiter := match s.requests.storeOp with
            | some ⟨.close, _⟩ => .storeOperation
            | _ => .exhaustionClose
          let replies := fun (r : ReadoutEngine) (l : LinkUnit) => t.readout = r
            ∧ (¬ s.CatalogStopped ∨ w = .exhaustionClose → t.link = l ∧ t.requests = s.requests)
            ∧ ∀ (op : StoreOp) (e : Entry), s.CatalogStopped → s.requests.storeOp = some op →
              op.kind = .close → s.requests.Lawful → e ∈ s.requests.entries → e.arrival = op.arrival →
              Answered l { s.requests with storeOp := none } e .storeFault [] t
          t.takes.records = s.takes.records.map (fun x =>
              if x.number = k.number then { counted x with state := .closed } else x)
            ∧ t.coder.nextIndex = none ∧ t.store.writeState = none ∧ t.store.pageA = {} ∧ t.store.pageB = B
            ∧ (s.CatalogReady → CatalogWriteBegun s t w)
            ∧ (s.takes.write ≠ none → CatalogWriteJoined s t w)
            ∧ (s.CatalogStopped → CatalogWriteFailed s t)
            ∧ (s.readout.state ≠ .following → replies s.readout s.link)
            ∧ (s.readout.state = .following → s.readout.take = k.number → s.takes.record k.number = some k →
              k.pageCount < s.readout.nextPage → s.readout.held = none → s.link.programUp = true →
              s.link.txProgram ≠ none → s.link.readoutQ = [] →
              replies
                { s.readout with
                  state := .ending, buffer := [], notes := s.readout.notes ++ [⟨false, false, true⟩] }
                { s.link with readoutQ := [makeFrame s.unit kindReadout 0
                  [natWord k.number, natWord s.readout.nextPage, natWord (2 ^ 18)]] }))
    let failed := fun (a : PageAddress) (now : StagingState) (t : State) =>
      (∀ x, s.store.extent a.extent = some x →
        t.store.extent a.extent = some { state := .bad, owner := x.owner })
      ∧ t.AtPort (.archiveBadMark a.extent)
      ∧ ∀ (k : TakeRecord) (ws : WriteState) (x : Extent), s.liveTake = some k → k.state = .opened →
        s.store.writeState = some ws → ws.current = some a.extent → s.store.extent a.extent = some x →
        a.extent ∉ s.store.freeList →
        s.store.queue = [] → A.state = now → B.state = .empty →
        let next := { s.store with
          table := setExtent s.store.table a.extent { state := .bad, owner := x.owner } }.chainNext A.take
        t.takes = s.takes
          ∧ (s.store.freeList = [] → t.store.stalled = true ∧ t.store.relocations = s.store.relocations
            ∧ t.store.pageA = { A with state := .waiting, failedBefore := true })
          ∧ ∀ (e : Nat) (es : List Nat), s.store.freeList = e :: es →
            t.store.stalled = false ∧ t.store.relocations = countUp s.store.relocations 1
              ∧ t.store.pageA = { A with state := .programming, failedBefore := false }
              ∧ t.store.extent e = some ⟨.owned, some ⟨A.take, next, A.pageSeq⟩⟩
              ∧ ∃ p : PageImage, p.Holds A next ∧ t.AtPort (.archiveProgram ⟨e, 0⟩ p)
    (∀ (a : PageAddress) (p : PageImage) (n : Nat), s.store.inFlight = some ⟨.archiveProgram a p, n⟩ →
      (s.store.verify = true → Completes (exec (.archiveProgramEnd true g) s) fun t =>
        t = { s with flash := t.flash, store := t.store }
          ∧ (s.flash.Wf → t.flash.read a.key = p) ∧ t.AtPort (.archiveVerify a p)
          ∧ t.store = { s.store with
              writeState := s.store.writeState.map fun w =>
                if w.current = some a.extent then { w with writePage := w.writePage + 1 } else w
              pageA := if A.state = .programming
                then { A with state := .verifying, failedBefore := false } else A
              pageB := if A.state ≠ .programming ∧ B.state = .programming
                then { B with state := .verifying, failedBefore := false } else B
              inFlight := t.store.inFlight, waiting := t.store.waiting })
      ∧ (s.store.verify = false → Completes (exec (.archiveProgramEnd true g) s) (verified .programming a))
      ∧ Completes (exec (.archiveProgramEnd false g) s) fun t => failed a .programming t
        ∧ t.store.programFailures = countUp s.store.programFailures 1)
    ∧ (∀ (a : PageAddress) (p : PageImage) (n : Nat) (answer : Answer),
      s.store.inFlight = some ⟨.archiveVerify a p, n⟩ →
      (s.fetched a answer = some p →
        Completes (exec (.verifyFetchEnd answer g) s) fun t => verified .verifying a t ∧ t.flash = s.flash)
      ∧ (s.fetched a answer ≠ some p →
        Completes (exec (.verifyFetchEnd answer g) s) fun t => failed a .verifying t
          ∧ t.store.verifyMismatches = countUp s.store.verifyMismatches 1 ∧ t.flash = s.flash))
    ∧ ∀ (e n : Nat) (ok : Bool),
      s.store.inFlight = some ⟨.archiveBadMark e, n⟩ ∨ s.store.inFlight = some ⟨.eraserBadMark e, n⟩ →
      Completes (exec (.badMarkWriteEnd ok g) s) fun t =>
        t = { s with freeCount := t.freeCount, flash := t.flash, store := t.store } ∧ ports t
          ∧ (ok = true → s.flash.Wf → (t.flash.read (e * 128)).data = (s.flash.read (e * 128)).data
            ∧ (t.flash.read (e * 128)).spare = (s.flash.read (e * 128)).spare.set 4 0)

/-- CATALOG_PROGRAM_END, CATALOG_VERIFY_END and CATALOG_ERASE_END (R84, R86, R87, R90, R91, R93, R94, R96 to R99,
R101, R121, R124). A good program is verified or ends the write; a failed attempt is made again in the next page, or
after an erase of the other extent where the current one is full, and the fourth, or one that module 0 or the
sequence no longer lets be made again, ends the write with failure; a good erase makes the other extent current, a
failed one ends the write. The store operation, the close or the mount that waits on the write then has its outcome;
a write that waits starts, or fails at once with the store operation that waits on it (R97, R98). A catalog page has
the data and spare words of R96. The model's choices: a difference in its spare words alone fails the verify (log
14); a readout that follows a take whose TAKE_OPEN write fails is left as it was, its record gone (log 25); a
waiting write builds its image after the outcome of the other is told (log 12); the next catalog page rises at the
submission of the program (log 29); spare words 5 to 15 of a catalog page are 0xFFFFFFFF (log 38); the sequence is
tested before an erase of the other extent (log 13). -/
def Obligations.CatalogWriteEnds : Prop :=
  ∀ (s : State) (g : Bool) (w : CatalogWrite), s.takes.write = some w →
    let rest := fun t : State => t = { s with
      freeCount := t.freeCount, flash := t.flash, takes := t.takes, store := t.store, link := t.link
      requests := t.requests }
    let attempts := s.store.answers 0 = true ∧ s.takes.catSeq < 4294967295
    -- what the outcome of a write does to the store operation that waits on it
    let outcome := fun (ok : Bool) (t : State) => ∀ (op : StoreOp) (e : Entry), s.requests.storeOp = some op →
      s.requests.Lawful → e ∈ s.requests.entries → e.arrival = op.arrival →
      let answered := fun st : Status =>
        Answered s.link { s.requests with storeOp := none } e st [] t
      let records := fun (n : Nat) (f : TakeRecord → TakeRecord) =>
        t.takes.records = s.takes.records.map fun x => if x.number = n then f x else x
      let gone := fun n : Nat => t.takes.records = s.takes.records.filter fun x => x.number ≠ n
      let extents := fun (n : Nat) (x : ExtentState) => t.store.table = s.store.table.map fun y =>
        (y.1, if y.2.owner.any (fun o => o.take = n) then
          ⟨if y.2.state = .owned then x else y.2.state, none⟩ else y.2)
      match op.kind, ok with
      | .openTake _, true => t.takes.openReady = true ∧ t.takes.records = s.takes.records
        ∧ t.requests = s.requests ∧ t.link = s.link
      | .openTake n, false => gone n ∧ extents n .free ∧ t.store.writeState = none ∧ answered .storeFault
      | .pause, _ | .resume, _ | .close, _ => t.takes.records = s.takes.records
        ∧ answered (if ok then .done else .storeFault)
      | .protect _ _, true => t.takes.records = s.takes.records ∧ answered .done
      | .protect n former, false => records n (fun x => { x with isProtected := former })
        ∧ answered .storeFault
      | .delete n, true => gone n ∧ extents n .dirty ∧ answered .done
      | .delete n, false => records n (fun x => { x with deleting := false })
        ∧ t.store.table = s.store.table ∧ answered .storeFault
      | .format, _ => t.store.format = none
        ∧ t.store.state = (if ok then .mounted else s.store.state)
        ∧ answered (if ok then .done else .storeFault)
    let asked := fun ws : List Waiter => ws.filter (· ≠ .exhaustionClose) = [.storeOperation]
    let nobody := fun ws : List Waiter => ∀ x ∈ ws, x = .exhaustionClose
    -- what becomes of the write that waits, the catalog position being that of `c`
    let next := fun (c : TakeController) (t : State) => t.takes.waiting = none ∧ t.takes.catCurrent = c.catCurrent
      ∧ (s.takes.waiting = none ∨ ¬ attempts →
        t.takes.write = none ∧ t.takes.catNext = c.catNext ∧ t.takes.catSeq = c.catSeq)
      ∧ ∀ ws, s.takes.waiting = some ws → attempts →
        t.takes.write = some ⟨t.takes.image, 0, ws⟩
          ∧ (c.catNext < 128 → t.takes.catNext = c.catNext + 1 ∧ t.takes.catSeq = c.catSeq + 1
            ∧ t.AtPort (.catalogProgram ⟨c.catCurrent, c.catNext⟩
              (catalogPage t.takes.image (c.catSeq + 1) c.catNext)))
          ∧ (128 ≤ c.catNext → t.takes.catNext = c.catNext ∧ t.takes.catSeq = c.catSeq
            ∧ t.AtPort (.catalogErase (1 - c.catCurrent)))
    let unanswered := fun t : State => t.requests = s.requests ∧ t.link = s.link
      ∧ t.takes = { s.takes with
          write := t.takes.write, waiting := t.takes.waiting
          catCurrent := t.takes.catCurrent, catNext := t.takes.catNext, catSeq := t.takes.catSeq }
    -- the write in flight has ended, with the catalog position of `c`
    let told := fun (c : TakeController) (ok : Bool) (t : State) => rest t
      ∧ (asked w.waiters → (∀ ws, s.takes.waiting = some ws → nobody ws) → next c t ∧ outcome ok t)
      ∧ (w.waiters = [.mount] → s.takes.waiting = none → ∀ m, s.store.mount = some m →
        t.takes.write = none ∧ t.takes.records = s.takes.records ∧ t.store.mount = none
          ∧ t.store.state = (if .answering ∈ s.store.modules then
              if m.loaded then .mounted else .unformatted else .fault)
          ∧ t.requests = s.requests ∧ t.link = s.link)
      ∧ (nobody w.waiters →
        (s.takes.waiting = none ∨ attempts → next c t ∧ unanswered t)
        ∧ ∀ ws, s.takes.waiting = some ws → ¬ attempts →
          (nobody ws → next c t ∧ unanswered t) ∧ (asked ws → next c t ∧ outcome false t))
    let again := fun t : State => rest t ∧ t.requests = s.requests ∧ t.link = s.link
      ∧ (s.takes.catNext < 128 →
        t.takes = { s.takes with
            write := some { w with failed := w.failed + 1 }
            catSeq := s.takes.catSeq + 1, catNext := s.takes.catNext + 1 }
          ∧ t.AtPort (.catalogProgram ⟨s.takes.catCurrent, s.takes.catNext⟩
            (catalogPage w.image (s.takes.catSeq + 1) s.takes.catNext)))
      ∧ (128 ≤ s.takes.catNext →
        t.takes = { s.takes with write := some { w with failed := w.failed + 1 } }
          ∧ t.AtPort (.catalogErase (1 - s.takes.catCurrent)))
    (∀ (a : PageAddress) (p : PageImage) (n : Nat), s.store.inFlight = some ⟨.catalogProgram a p, n⟩ →
      (s.store.verify = true → Completes (exec (.catalogProgramEnd true g) s) fun t =>
        rest t ∧ t.takes = s.takes ∧ t.requests = s.requests ∧ t.link = s.link
          ∧ t.AtPort (.catalogVerify a p) ∧ (s.flash.Wf → t.flash.read a.key = p))
      ∧ (s.store.verify = false → Completes (exec (.catalogProgramEnd true g) s) fun t =>
        told s.takes true t ∧ (s.flash.Wf → t.flash.read a.key = p))
      ∧ (w.failed < 3 → attempts → Completes (exec (.catalogProgramEnd false g) s) fun t =>
        again t ∧ t.store.programFailures = countUp s.store.programFailures 1)
      ∧ (3 ≤ w.failed ∨ ¬ attempts → Completes (exec (.catalogProgramEnd false g) s) fun t =>
        told s.takes false t ∧ t.store.programFailures = countUp s.store.programFailures 1))
    ∧ (∀ (a : PageAddress) (p : PageImage) (n : Nat) (answer : Answer),
      s.store.inFlight = some ⟨.catalogVerify a p, n⟩ →
      (s.fetched a answer = some p → Completes (exec (.catalogVerifyEnd answer g) s) (told s.takes true))
      ∧ (s.fetched a answer ≠ some p → w.failed < 3 → attempts →
        Completes (exec (.catalogVerifyEnd answer g) s) fun t =>
          again t ∧ t.store.verifyMismatches = countUp s.store.verifyMismatches 1)
      ∧ (s.fetched a answer ≠ some p → 3 ≤ w.failed ∨ ¬ attempts →
        Completes (exec (.catalogVerifyEnd answer g) s) fun t =>
          told s.takes false t ∧ t.store.verifyMismatches = countUp s.store.verifyMismatches 1))
    ∧ (∀ e n : Nat, s.store.inFlight = some ⟨.catalogErase e, n⟩ →
      (attempts →
        Completes (exec (.catalogEraseEnd true g) s) fun t =>
          rest t ∧ t.requests = s.requests ∧ t.link = s.link
            ∧ t.takes = { s.takes with catCurrent := e, catNext := 1, catSeq := s.takes.catSeq + 1 }
            ∧ t.AtPort (.catalogProgram ⟨e, 0⟩ (catalogPage w.image (s.takes.catSeq + 1) 0))
            ∧ ∀ k, k / 128 = e → t.flash.read k = erasedPage)
      ∧ (¬ attempts → Completes (exec (.catalogEraseEnd true g) s) fun t =>
        told { s.takes with catCurrent := e, catNext := 0 } false t ∧ ∀ k, k / 128 = e → t.flash.read k = erasedPage)
      ∧ Completes (exec (.catalogEraseEnd false g) s) (told s.takes false))
    ∧ ∀ seq page : Nat,
      let kept := s.takes.records.filter fun k => !k.deleting
      let p := catalogPage s.takes.image seq page
      p.spare = [0, natWord page, 0, ~~~(Word.sum p.data)] ++ List.replicate 12 0xFFFFFFFF
        ∧ p.data.length = 4096 ∧ p.data.take 2 = [0x4E5A4341, natWord seq]
        ∧ (p.data.drop 2).take 2 = [natWord s.takes.nextTake, natWord kept.length]
        ∧ (kept.length ≤ 64 → (∀ k ∈ kept, k.Storable) →
          (∀ (j : Nat) (k : TakeRecord), kept[j]? = some k → (p.data.drop (4 + 48 * j)).take 48 = k.slotWords)
          ∧ ∀ j, 4 + 48 * kept.length ≤ j → j < 4096 → p.data.getD j 0 = 0)

/-- ERASE_END and FORMAT_ERASE_END (R103, R105, R107, R111, R114, R117, R124, R126). A good erase leaves every page
of the extent erased and frees it, and a STALLED take is given it at once; a failed one is counted and makes the
extent BAD; a format goes on to the next extent of a module that answers, and after the last one empties the take
table and asks for the catalog on the lower catalog extent that was erased, which starts, waits or fails at once
(R97, R98), or ends with STORE_FAULT. The model's choices: the next catalog page rises at the submission of the
program (log 29); spare words 5 to 15 of a catalog page are 0xFFFFFFFF (log 38). -/
def Obligations.ErasesEnd : Prop :=
  ∀ (s : State) (e n : Nat) (g : Bool),
    (s.store.inFlight = some ⟨.eraserErase e, n⟩ →
      Completes (exec (.eraseEnd true g) s) (fun t => t.flash = s.flash.eraseExtent e
        ∧ (∀ k, k / 128 = e → t.flash.read k = erasedPage)
        ∧ (s.store.writeState = none → t = { s with flash := t.flash, store := { s.store with
            table := setExtent s.store.table e ⟨.free, none⟩
            inFlight := t.store.inFlight, waiting := t.store.waiting } })
        ∧ ∀ (k : TakeRecord) (ws : WriteState), s.liveTake = some k → k.state = .opened →
          s.store.writeState = some ws → s.store.queue = [] →
          (∀ c x, ws.current = some c → s.store.extent c = some x → x.state ≠ .owned) →
          s.store.pageA.state = .waiting → s.store.pageB.state = .empty → s.store.freeList = [] →
          s.store.extent e ≠ none →
          let A := s.store.pageA
          let next := { s.store with table := setExtent s.store.table e ⟨.free, none⟩ }.chainNext A.take
          t.store.stalled = false ∧ t.takes = s.takes
            ∧ t.store.pageA = { A with state := .programming, failedBefore := false }
            ∧ t.store.extent e = some ⟨.owned, some ⟨A.take, next, A.pageSeq⟩⟩
            ∧ ∃ p : PageImage, p.Holds A next ∧ t.AtPort (.archiveProgram ⟨e, 0⟩ p))
      ∧ Completes (exec (.eraseEnd false g) s) fun t => t.AtPort (.eraserBadMark e)
        ∧ t = { s with
            freeCount := t.freeCount
            flash := t.flash
            store := { s.store with
              table := setExtent s.store.table e ⟨.bad, none⟩
              eraseFailures := countUp s.store.eraseFailures 1
              inFlight := t.store.inFlight, waiting := t.store.waiting } })
    ∧ ∀ (f : Format) (ok : Bool), s.store.inFlight = some ⟨.formatErase e, n⟩ → s.store.format = some f →
      let f' : Format := ⟨f.erased0 || (ok && e = 0), f.erased1 || (ok && e = 1)⟩
      let done := fun t : State => t.store.eraseFailures =
          (if ok then s.store.eraseFailures else countUp s.store.eraseFailures 1)
        ∧ (ok = true → t.flash = s.flash.eraseExtent e ∧ ∀ k, k / 128 = e → t.flash.read k = erasedPage)
      let left := fun x : Extent => if x.state = .catalog then x
        else if ok then ⟨.free, none⟩ else ⟨.bad, none⟩
      let marks := fun t : State => ∀ x, s.store.extent e = some x → x.state ≠ .catalog → x.state ≠ .bad →
        ok = false → t.AtPort (.eraserBadMark e)
      let last := ∀ x, e < x → x < 131072 → s.store.answers x = false
      let position : State := { s with takes := { s.takes with
        catCurrent := if f'.erased0 then 0 else 1, catNext := 0 } }
      let bare := fun t : State => ∀ x v, s.store.extent x = some v →
        t.store.extent x = some { (if x = e then left v else v) with owner := none }
      let fails := fun t : State => done t ∧ marks t ∧ bare t ∧ t.store.format = none
        ∧ t.store.state = s.store.state
        ∧ ∀ (op : StoreOp) (x : Entry), s.requests.storeOp = some op → s.requests.Lawful →
          x ∈ s.requests.entries → x.arrival = op.arrival →
          Answered s.link { s.requests with storeOp := none } x .storeFault [] t
      (∀ next, e < next → next < 131072 → s.store.answers next = true →
        (∀ x, e < x → x < next → s.store.answers x = false) →
        Completes (exec (.formatEraseEnd ok g) s) fun t =>
          t = { s with freeCount := t.freeCount, flash := t.flash, store := t.store } ∧ done t ∧ marks t
            ∧ t.store.format = some f' ∧ t.AtPort (.formatErase next)
            ∧ (∀ x, s.store.extent e = some x → t.store.extent e = some (left x))
            ∧ (∀ x, s.store.extent next = some x →
              t.store.extent next = some (if x.state = .free then ⟨.dirty, none⟩ else x))
            ∧ ∀ x, x ≠ e → x ≠ next → t.store.extent x = s.store.extent x)
      ∧ (last → f'.erased0 = true ∨ f'.erased1 = true → s.store.answers 0 = true →
        let written := fun t : State =>
          t = { s with freeCount := t.freeCount, flash := t.flash, takes := t.takes, store := t.store }
            ∧ done t ∧ marks t ∧ bare t ∧ t.takes.records = [] ∧ t.takes.nextTake = 1
        (s.CatalogReady → Completes (exec (.formatEraseEnd ok g) s) fun t =>
          written t ∧ CatalogWriteBegun position t .storeOperation)
        ∧ (s.takes.write ≠ none → Completes (exec (.formatEraseEnd ok g) s) fun t =>
          written t ∧ CatalogWriteJoined position t .storeOperation)
        ∧ (s.CatalogStopped → (∀ op, s.requests.storeOp = some op → op.kind = .format) →
          s.requests.storeOp ≠ none → Completes (exec (.formatEraseEnd ok g) s) fun t =>
            fails t ∧ t.takes = { position.takes with records := [], nextTake := 1 }))
      ∧ (last → (f'.erased0 = false ∧ f'.erased1 = false) ∨ s.store.answers 0 = false →
        Completes (exec (.formatEraseEnd ok g) s) fun t =>
          fails t ∧ t.takes = { s.takes with records := [], nextTake := 1 })

/-- The mount (R100, R101, R120 to R122). It begins at a row, reads every catalog page, keeps the newest valid one
and loads it, classifies every other extent by its spare words, recovers a take that was live from its pages, and
ends MOUNTED or UNFORMATTED. A recovery that yields no page goes on at the extents of lower sequence; one that
yields a single page without a packet start also reads the page before it; the settled record is INTERRUPTED, and
its catalog write starts or fails at once (R98). The model's choices: the catalog pages are fetched in address order
(log 40); of two pages of one sequence the first is kept, an unreadable page counts as used, a take's end index is
absent where no packet is whole, where the only recovered page holds no packet start the page before it is fetched
and its packets count for the end index and for an open pause (log 19); a take count above 64 loads 64 slots (log
28); the next take number is loaded as its word reads (log 36); records and catalog position are loaded, and the
catalog extents become CATALOG, after the last catalog fetch and before the scan (log 37); the next catalog page
rises at the submission of the program (log 29); spare words 5 to 15 of a catalog page are 0xFFFFFFFF (log 38); the
sequence is tested before an erase of the other extent (log 13). -/
def Obligations.MountGoesOn : Prop :=
  ∀ s : State,
    (s.store.state = .unmounted → s.Sized → s.NothingDue →
      ((∀ m ∈ s.store.modules, m = .notFitted) → Completes (exec .rowEvent s) fun t => t.store.state = .fault)
      ∧ (s.store.answers 0 = true → Completes (exec .rowEvent s) fun t =>
        t.store.state = .mounting ∧ t.store.mount = some ⟨.catalog 0 none 0 0, false⟩
          ∧ t.AtPort (.mountFetch ⟨0, 0⟩)))
    ∧ ∀ (answer : Answer) (g loaded : Bool) (n : Nat),
      (∀ (a : PageAddress) (i used0 used1 : Nat) (best : Option FoundCatalog),
        s.store.inFlight = some ⟨.mountFetch a, n⟩ → s.store.answers 0 = true → i < 256 →
        s.store.mount = some ⟨.catalog i best used0 used1, loaded⟩ →
        let got := s.fetched a answer
        let best' := match got with
          | some p =>
            if p.data.getD 0 0 = 0x4E5A4341 ∧ p.spare.getD 3 0 = ~~~(Word.sum p.data)
                ∧ (∀ b, best = some b → b.seq < (p.data.getD 1 0).toNat)
              then some ⟨i / 128, (p.data.getD 1 0).toNat, p.data⟩ else best
          | none => best
        let used0' := if got ≠ some erasedPage ∧ i < 128 then i + 1 else used0
        let used1' := if got ≠ some erasedPage ∧ 128 ≤ i then i - 127 else used1
        (i < 255 → Completes (exec (.mountCatalogFetchEnd answer g) s) fun t =>
          t = { s with store := t.store }
            ∧ t.store = { s.store with
                mount := some ⟨.catalog (i + 1) best' used0' used1', loaded⟩
                inFlight := t.store.inFlight, waiting := t.store.waiting }
            ∧ t.AtPort (.mountFetch ⟨(i + 1) / 128, (i + 1) % 128⟩))
        ∧ (i = 255 → Completes (exec (.mountCatalogFetchEnd answer g) s) fun t =>
          t = { s with store := t.store, takes := t.takes }
            ∧ t.store.table = [(0, ⟨.catalog, none⟩), (1, ⟨.catalog, none⟩)]
            ∧ t.store.mount = some ⟨.scan 2, best'.isSome⟩ ∧ t.AtPort (.mountSpare 2)
            ∧ (best' = none → t.takes = { s.takes with
                records := [], nextTake := 1, catCurrent := 0, catNext := 0, catSeq := 0 })
            ∧ ∀ b, best' = some b → t.takes = { s.takes with
                records := (List.range (min (b.data.getD 3 0).toNat 64)).map fun j =>
                  TakeRecord.ofSlot ((b.data.drop (4 + 48 * j)).take 48)
                nextTake := (b.data.getD 2 0).toNat, catCurrent := b.extent, catSeq := b.seq
                catNext := if b.extent = 0 then used0' else used1' }))
      ∧ (∀ e x : Nat, s.store.inFlight = some ⟨.mountSpare e, n⟩ → s.store.mount = some ⟨.scan x, loaded⟩ →
        let found := (s.fetched ⟨e, 0⟩ answer).map PageImage.spare
        let entry : Extent := match found with
          | none => ⟨.bad, none⟩
          | some ws =>
            let o : Owner := ⟨(ws.getD 0 0).toNat, (ws.getD 2 0).toNat, (ws.getD 1 0).toNat⟩
            let named := (s.takes.record o.take).isSome && s.store.table.all fun y =>
              match y.2.owner with
              | some q => !(decide (q.take = o.take) && decide (q.seq = o.seq))
              | none => true
            if ∀ v ∈ ws, v = 0xFFFFFFFF then ⟨.free, none⟩
            else if ws.getD 4 0 ≠ 0xFFFFFFFF then ⟨.bad, if named then some o else none⟩
            else if named then ⟨.owned, some o⟩
            else ⟨.dirty, none⟩
        (e + 1 < 131072 → s.store.answers (e + 1) = true →
          Completes (exec (.mountSpareFetchEnd answer g) s) fun t =>
            t = { s with store := t.store } ∧ t.AtPort (.mountSpare (e + 1))
              ∧ t.store = { s.store with
                  table := s.store.table ++ [(e, entry)]
                  mount := some ⟨.scan (e + 1), loaded⟩
                  inFlight := t.store.inFlight, waiting := t.store.waiting })
        ∧ (e = 131071 → (∀ k ∈ s.takes.records, k.state.live = false) →
          Completes (exec (.mountSpareFetchEnd answer g) s) fun t =>
            t.store.table = s.store.table ++ [(e, entry)] ∧ t.store.mount = none
              ∧ t.store.state = (if s.store.anyAnswers then if loaded then .mounted else .unformatted
                else .fault)
              ∧ t.takes = { s.takes with records := s.takes.records.map fun k =>
                  { k with firstExtent := t.store.firstExtentOf k.number } }))
      ∧ ∀ (a : PageAddress) (r : Recovery), s.store.inFlight = some ⟨.recoveryFetch a, n⟩ →
        s.store.mount = some ⟨.recover r, loaded⟩ →
        let got := s.fetched a answer
        let good := fun (page : Nat) (p : PageImage) => p ≠ erasedPage ∧ p.spare.getD 3 0 = ~~~(Word.sum p.data)
          ∧ p.spare.getD 0 0 = natWord r.take ∧ p.spare.getD 1 0 = natWord page
          ∧ p.spare.getD 2 0 = natWord (s.store.seqOf a.extent)
        let from_ := fun (page : Nat) (b : PageAddress) =>
          s.store.locate r.take page = some b ∧ s.store.answers b.extent = true
        let goesOn := fun (r' : Recovery) (b : PageAddress) =>
          Completes (exec (.recoveryFetchEnd answer g) s) fun t =>
            t = { s with store := t.store } ∧ t.AtPort (.recoveryFetch b)
              ∧ t.store = { s.store with
                  mount := some ⟨.recover r', loaded⟩
                  inFlight := t.store.inFlight, waiting := t.store.waiting }
        let settles := fun pages : List (Nat × List Word) =>
          let indices := recoveredIndices pages
          let last := indices.getLast?
          let interval := fun q : Interval => match q.stop, (indices.filter (q.start ≤ ·)).min?, last with
            | some _, _, _ => some q
            | none, some m, _ => some { q with stop := some (m - 1) }
            | none, none, some l => if q.start ≤ l then some { q with stop := some l } else none
            | none, none, none => none
          let records := s.takes.records.map fun x => if x.number = r.take then { x with
              state := .interrupted
              pageCount := match pages.getLast? with
                | some p => min (p.1 + 1) 16777216
                | none => 0
              endIndex := last
              pauses := x.pauses.filterMap interval } else x
          (∀ k ∈ s.takes.records, k.state.live = true → k.number = r.take) →
          (s.CatalogReady → Completes (exec (.recoveryFetchEnd answer g) s) fun t =>
            t = { s with store := t.store, takes := t.takes } ∧ t.takes.records = records
              ∧ t.store = { s.store with
                  mount := some ⟨.writing, loaded⟩
                  inFlight := t.store.inFlight, waiting := t.store.waiting }
              ∧ CatalogWriteBegun s t .mount)
          ∧ (s.CatalogStopped → Completes (exec (.recoveryFetchEnd answer g) s) fun t =>
            t = { s with store := t.store, takes := { s.takes with records := records } }
              ∧ t.store = { s.store with
                  mount := none
                  state := if s.store.anyAnswers then if loaded then .mounted else .unformatted else .fault
                  inFlight := t.store.inFlight, waiting := t.store.waiting })
        let stops := fun r' : Recovery =>
          (2 ≤ r'.recovered.length → settles r'.recovered)
          ∧ ∀ (page : Nat) (d : List Word), r'.recovered = [(page, d)] →
            let starts := (d.getD 2 0).toNat ≠ 0
            (starts ∨ page = 0 ∨ (∀ b, ¬ from_ (page - 1) b) → settles r'.recovered)
            ∧ ∀ b, ¬ starts → page ≠ 0 → from_ (page - 1) b → goesOn { r' with pageBefore := true } b
        (r.pageBefore = false →
          (∀ p, got = some p → good r.page p →
            let more : Recovery := { r with
              recovered := r.recovered ++ [(r.page, p.data)], page := r.page + 1 }
            (∀ b, from_ (r.page + 1) b → goesOn more b)
            ∧ ((∀ b, ¬ from_ (r.page + 1) b) → stops more))
          ∧ ((∀ p, got = some p → ¬ good r.page p) → stops r
            ∧ (r.recovered = [] →
              let lower := fun (o : Owner) (b : PageAddress) => o.take = r.take ∧ o.seq < r.chainSeq
                ∧ (∃ y ∈ s.store.table, y.2.owner = some o) ∧ from_ o.first b
              ((∀ o b, ¬ lower o b) → settles [])
              ∧ ∀ o b, lower o b → (∀ q b', lower q b' → q.seq ≤ o.seq ∧ (q.seq = o.seq → q = o)) →
                goesOn ⟨r.take, o.seq, o.first, [], false⟩ b)))
        ∧ ∀ (page : Nat) (d : List Word), r.pageBefore = true → r.recovered = [(page, d)] →
          (∀ p, got = some p → good (page - 1) p → settles ((page - 1, p.data) :: r.recovered))
          ∧ ((∀ p, got = some p → ¬ good (page - 1) p) → settles r.recovered)

/-- The time limit (R113, R114, R119, R126, R133, R141). The module of the operation in flight becomes FAULT;
with no module answering so is the store, but in a mount; an erase lost so leaves its extent FAULT with the
module; a readout whose fetch is lost or withdrawn ends with STORE_FAULT; a page whose program is lost waits
again. The model's choices: such an erase counts as an erase failure (log 15), withdrawn operations end after
the one in flight (log 27), and each clause holds whichever of the end and the submissions that follow is
taken first (log 11). -/
def Obligations.TimeLimitExpires : Prop :=
  ∀ (s : State) (op : PortOp) (n : Nat), s.store.inFlight = some ⟨op, n⟩ → 4800 ≤ n →
    let m := op.extent / 32768
    let modules := s.store.modules.set m .fault
    let lost := s.store.table.map fun y =>
      if y.1 / 32768 = m then (y.1, ({ state := .fault, owner := y.2.owner } : Extent)) else y
    Completes (exec .timeLimitExpiry s) fun t =>
      t.store.modules = modules ∧ t.store.expiries = countUp s.store.expiries 1 ∧ SamplePathKept s t
        ∧ (s.store.state ≠ .mounting → (∀ x ∈ modules, x ≠ .answering) → t.store.state = .fault)
        ∧ ((∀ o ∈ s.store.waiting, o.extent / 32768 ≠ m) →
          (∀ e, op = .eraserErase e →
            t = { s with freeCount := t.freeCount, flash := t.flash, store := t.store }
              ∧ t.store.table = lost ∧ t.store.eraseFailures = countUp s.store.eraseFailures 1)
          ∧ (∀ (a : PageAddress) (p : PageImage) (k : TakeRecord) (ws : WriteState),
            op = .archiveProgram a p → s.liveTake = some k → k.state = .opened →
            s.store.writeState = some ws → ws.current = some a.extent → s.store.extent a.extent ≠ none →
            s.store.queue = [] → s.store.pageA.state = .programming → s.store.pageB.state = .empty →
            s.store.freeList = [] →
            t.store.table = lost ∧ t.store.stalled = true ∧ t.takes = s.takes
              ∧ t.store.programFailures = countUp s.store.programFailures 1
              ∧ t.store.pageA = { s.store.pageA with state := .waiting, failedBefore := true }))
        ∧ ∀ (a : PageAddress) (e : Entry), s.requests.Lawful → e ∈ s.requests.entries →
          e.arrival = s.readout.arrival →
          (op = .readoutFetch a true ∧ s.store.waiting = [])
            ∨ ((∃ x, op = .eraserErase x) ∧ a.extent / 32768 = m
              ∧ s.store.waiting = [.readoutFetch a true]) →
          t.readout = {} ∧ t.store.table = lost ∧ Answered { s.link with readoutQ := [] } s.requests e .storeFault
            [natWord s.readout.pagesSent, natWord s.readout.pagesFailed] t
end

