-- ==== Sys2Proof/Laws/Catalog.lean ====
section
/-!
SUPPORT. What asking for a catalog write can do (R97, R98): it waits, fails at once, or starts; and to whom the
outcome of one goes; one lemma for each, cited in place of the definition.
-/

namespace Sys2Proof.Machine

/-- A catalog write asked for while one is in flight waits behind it (R97). -/
theorem State.askCatalog_joins (s : State) (w : Waiter) (h : s.takes.write ≠ none) :
    s.askCatalog w = s.setTakes { s.takes with waiting := some (s.takes.waiting.getD [] ++ [w]) } := by
  unfold State.askCatalog
  split
  · contradiction
  · rfl

/-- A catalog write that fails at once only tells the one that asked (R98). -/
theorem State.askCatalog_stopped (s : State) (w : Waiter) (h : s.CatalogStopped) :
    s.askCatalog w = s.waiterTold false w := by
  obtain ⟨hw, hs⟩ := h
  have hs' : s.store.answers 0 = true → Config.indexMax ≤ s.takes.catSeq := by
    intro ha; simpa [ha] using hs
  have keep : s.setTakes { s.takes with write := none } = s := by
    show ({ s with takes := { s.takes with write := none } } : State) = s
    rw [← hw]
  by_cases ha : s.store.answers 0 = true <;>
    simp_all [State.askCatalog, State.writeStart, State.catalogAttempt, State.writeOutcome, State.setTakes]

/-- A catalog write that can start programs the next catalog page, or erases the other extent where the current
one is full (R97, R99). -/
theorem State.askCatalog_starts (s : State) (w : Waiter) (h : s.CatalogReady) :
    s.askCatalog w =
      if Config.extentPages ≤ s.takes.catNext then
        (s.setTakes { s.takes with write := some ⟨s.takes.image, 0, [w]⟩ }).submit
          (.catalogErase (1 - s.takes.catCurrent))
      else
        (s.setTakes { s.takes with
            write := some ⟨s.takes.image, 0, [w]⟩
            catSeq := s.takes.catSeq + 1, catNext := s.takes.catNext + 1 }).submit
          (.catalogProgram ⟨s.takes.catCurrent, s.takes.catNext⟩
            (catalogPage s.takes.image (s.takes.catSeq + 1) s.takes.catNext)) := by
  obtain ⟨hw, ha, hs⟩ := h
  unfold State.askCatalog State.writeStart State.catalogAttempt
  by_cases hp : Config.extentPages ≤ s.takes.catNext <;> simp [hw, ha, Nat.not_le.mpr hs, hp]

/-- An outcome that only closes without a request wait for changes nothing (R91, R98). -/
theorem State.told_nobody (ok : Bool) (ws : List Waiter) (h : ∀ x ∈ ws, x = .exhaustionClose) (s : State) :
    ws.foldl (State.waiterTold ok) s = s := by
  induction ws generalizing s with
  | nil => rfl
  | cons w ws ih =>
    rw [h w (by simp)]
    exact ih (fun x hx => h x (by simp [hx])) s

/-- An outcome that one store operation waits for reaches it once, whoever else waits without a request. -/
theorem State.told_asked (ok : Bool) (ws : List Waiter)
    (h : ws.filter (· ≠ .exhaustionClose) = [.storeOperation]) (s : State) :
    ws.foldl (State.waiterTold ok) s = s.storeOpWritten ok := by
  induction ws generalizing s with
  | nil => simp at h
  | cons w ws ih =>
    cases w with
    | exhaustionClose => exact ih (by simpa using h) s
    | mount => simp at h
    | storeOperation =>
      exact State.told_nobody ok ws (fun x hx => by
        have : ws.filter (· ≠ .exhaustionClose) = [] := by simpa using h
        simpa using List.filter_eq_nil_iff.mp this x hx) _

end Sys2Proof.Machine
end

