-- ==== Sys2Proof/Laws/State.lean ====
section
/-!
SUPPORT. What the plain updates of the state leave and what they put: one lemma for each field of the
state and each update, true by definition, so that no later proof unfolds a record update.
-/

namespace Sys2Proof.Machine

variable (s : State)

/-! ### setLink -/

@[simp] theorem State.setLink_pending (l : LinkUnit) : (s.setLink l).pending = s.pending := rfl
@[simp] theorem State.setLink_freeCount (l : LinkUnit) :
    (s.setLink l).freeCount = s.freeCount := rfl
@[simp] theorem State.setLink_rate (l : LinkUnit) : (s.setLink l).rate = s.rate := rfl
@[simp] theorem State.setLink_unit (l : LinkUnit) : (s.setLink l).unit = s.unit := rfl
@[simp] theorem State.setLink_link (l : LinkUnit) : (s.setLink l).link = l := rfl
@[simp] theorem State.setLink_sources (l : LinkUnit) : (s.setLink l).sources = s.sources := rfl
@[simp] theorem State.setLink_tracks (l : LinkUnit) : (s.setLink l).tracks = s.tracks := rfl
@[simp] theorem State.setLink_coder (l : LinkUnit) : (s.setLink l).coder = s.coder := rfl
@[simp] theorem State.setLink_takes (l : LinkUnit) : (s.setLink l).takes = s.takes := rfl
@[simp] theorem State.setLink_store (l : LinkUnit) : (s.setLink l).store = s.store := rfl
@[simp] theorem State.setLink_flash (l : LinkUnit) : (s.setLink l).flash = s.flash := rfl
@[simp] theorem State.setLink_readout (l : LinkUnit) : (s.setLink l).readout = s.readout := rfl
@[simp] theorem State.setLink_mix (l : LinkUnit) : (s.setLink l).mix = s.mix := rfl
@[simp] theorem State.setLink_stream (l : LinkUnit) : (s.setLink l).stream = s.stream := rfl
@[simp] theorem State.setLink_meter (l : LinkUnit) : (s.setLink l).meter = s.meter := rfl
@[simp] theorem State.setLink_requests (l : LinkUnit) : (s.setLink l).requests = s.requests := rfl

/-! ### setTakes -/

@[simp] theorem State.setTakes_pending (c : TakeController) :
    (s.setTakes c).pending = s.pending := rfl
@[simp] theorem State.setTakes_freeCount (c : TakeController) :
    (s.setTakes c).freeCount = s.freeCount := rfl
@[simp] theorem State.setTakes_rate (c : TakeController) : (s.setTakes c).rate = s.rate := rfl
@[simp] theorem State.setTakes_unit (c : TakeController) : (s.setTakes c).unit = s.unit := rfl
@[simp] theorem State.setTakes_link (c : TakeController) : (s.setTakes c).link = s.link := rfl
@[simp] theorem State.setTakes_sources (c : TakeController) :
    (s.setTakes c).sources = s.sources := rfl
@[simp] theorem State.setTakes_tracks (c : TakeController) : (s.setTakes c).tracks = s.tracks := rfl
@[simp] theorem State.setTakes_coder (c : TakeController) : (s.setTakes c).coder = s.coder := rfl
@[simp] theorem State.setTakes_takes (c : TakeController) : (s.setTakes c).takes = c := rfl
@[simp] theorem State.setTakes_store (c : TakeController) : (s.setTakes c).store = s.store := rfl
@[simp] theorem State.setTakes_flash (c : TakeController) : (s.setTakes c).flash = s.flash := rfl
@[simp] theorem State.setTakes_readout (c : TakeController) :
    (s.setTakes c).readout = s.readout := rfl
@[simp] theorem State.setTakes_mix (c : TakeController) : (s.setTakes c).mix = s.mix := rfl
@[simp] theorem State.setTakes_stream (c : TakeController) : (s.setTakes c).stream = s.stream := rfl
@[simp] theorem State.setTakes_meter (c : TakeController) : (s.setTakes c).meter = s.meter := rfl
@[simp] theorem State.setTakes_requests (c : TakeController) :
    (s.setTakes c).requests = s.requests := rfl

/-! ### setReadout -/

@[simp] theorem State.setReadout_pending (r : ReadoutEngine) :
    (s.setReadout r).pending = s.pending := rfl
@[simp] theorem State.setReadout_freeCount (r : ReadoutEngine) :
    (s.setReadout r).freeCount = s.freeCount := rfl
@[simp] theorem State.setReadout_rate (r : ReadoutEngine) : (s.setReadout r).rate = s.rate := rfl
@[simp] theorem State.setReadout_unit (r : ReadoutEngine) : (s.setReadout r).unit = s.unit := rfl
@[simp] theorem State.setReadout_link (r : ReadoutEngine) : (s.setReadout r).link = s.link := rfl
@[simp] theorem State.setReadout_sources (r : ReadoutEngine) :
    (s.setReadout r).sources = s.sources := rfl
@[simp] theorem State.setReadout_tracks (r : ReadoutEngine) :
    (s.setReadout r).tracks = s.tracks := rfl
@[simp] theorem State.setReadout_coder (r : ReadoutEngine) : (s.setReadout r).coder = s.coder := rfl
@[simp] theorem State.setReadout_takes (r : ReadoutEngine) : (s.setReadout r).takes = s.takes := rfl
@[simp] theorem State.setReadout_store (r : ReadoutEngine) : (s.setReadout r).store = s.store := rfl
@[simp] theorem State.setReadout_flash (r : ReadoutEngine) : (s.setReadout r).flash = s.flash := rfl
@[simp] theorem State.setReadout_readout (r : ReadoutEngine) : (s.setReadout r).readout = r := rfl
@[simp] theorem State.setReadout_mix (r : ReadoutEngine) : (s.setReadout r).mix = s.mix := rfl
@[simp] theorem State.setReadout_stream (r : ReadoutEngine) :
    (s.setReadout r).stream = s.stream := rfl
@[simp] theorem State.setReadout_meter (r : ReadoutEngine) : (s.setReadout r).meter = s.meter := rfl
@[simp] theorem State.setReadout_requests (r : ReadoutEngine) :
    (s.setReadout r).requests = s.requests := rfl

/-! ### submit -/

@[simp] theorem State.submit_pending (op : PortOp) : (s.submit op).pending = s.pending := rfl
@[simp] theorem State.submit_freeCount (op : PortOp) : (s.submit op).freeCount = s.freeCount := rfl
@[simp] theorem State.submit_rate (op : PortOp) : (s.submit op).rate = s.rate := rfl
@[simp] theorem State.submit_unit (op : PortOp) : (s.submit op).unit = s.unit := rfl
@[simp] theorem State.submit_link (op : PortOp) : (s.submit op).link = s.link := rfl
@[simp] theorem State.submit_sources (op : PortOp) : (s.submit op).sources = s.sources := rfl
@[simp] theorem State.submit_tracks (op : PortOp) : (s.submit op).tracks = s.tracks := rfl
@[simp] theorem State.submit_coder (op : PortOp) : (s.submit op).coder = s.coder := rfl
@[simp] theorem State.submit_takes (op : PortOp) : (s.submit op).takes = s.takes := rfl
@[simp] theorem State.submit_store (op : PortOp) :
    (s.submit op).store = { s.store with waiting := s.store.waiting ++ [op] } := rfl
@[simp] theorem State.submit_flash (op : PortOp) : (s.submit op).flash = s.flash := rfl
@[simp] theorem State.submit_readout (op : PortOp) : (s.submit op).readout = s.readout := rfl
@[simp] theorem State.submit_mix (op : PortOp) : (s.submit op).mix = s.mix := rfl
@[simp] theorem State.submit_stream (op : PortOp) : (s.submit op).stream = s.stream := rfl
@[simp] theorem State.submit_meter (op : PortOp) : (s.submit op).meter = s.meter := rfl
@[simp] theorem State.submit_requests (op : PortOp) : (s.submit op).requests = s.requests := rfl

/-! ### setExtent -/

@[simp] theorem State.setExtent_pending (e : Nat) (x : Extent) :
    (s.setExtent e x).pending = s.pending := rfl
@[simp] theorem State.setExtent_freeCount (e : Nat) (x : Extent) :
    (s.setExtent e x).freeCount = s.freeCount := rfl
@[simp] theorem State.setExtent_rate (e : Nat) (x : Extent) : (s.setExtent e x).rate = s.rate := rfl
@[simp] theorem State.setExtent_unit (e : Nat) (x : Extent) : (s.setExtent e x).unit = s.unit := rfl
@[simp] theorem State.setExtent_link (e : Nat) (x : Extent) : (s.setExtent e x).link = s.link := rfl
@[simp] theorem State.setExtent_sources (e : Nat) (x : Extent) :
    (s.setExtent e x).sources = s.sources := rfl
@[simp] theorem State.setExtent_tracks (e : Nat) (x : Extent) :
    (s.setExtent e x).tracks = s.tracks := rfl
@[simp] theorem State.setExtent_coder (e : Nat) (x : Extent) :
    (s.setExtent e x).coder = s.coder := rfl
@[simp] theorem State.setExtent_takes (e : Nat) (x : Extent) :
    (s.setExtent e x).takes = s.takes := rfl
@[simp] theorem State.setExtent_store (e : Nat) (x : Extent) :
    (s.setExtent e x).store = { s.store with table := Machine.setExtent s.store.table e x } := rfl
@[simp] theorem State.setExtent_flash (e : Nat) (x : Extent) :
    (s.setExtent e x).flash = s.flash := rfl
@[simp] theorem State.setExtent_readout (e : Nat) (x : Extent) :
    (s.setExtent e x).readout = s.readout := rfl
@[simp] theorem State.setExtent_mix (e : Nat) (x : Extent) : (s.setExtent e x).mix = s.mix := rfl
@[simp] theorem State.setExtent_stream (e : Nat) (x : Extent) :
    (s.setExtent e x).stream = s.stream := rfl
@[simp] theorem State.setExtent_meter (e : Nat) (x : Extent) :
    (s.setExtent e x).meter = s.meter := rfl
@[simp] theorem State.setExtent_requests (e : Nat) (x : Extent) :
    (s.setExtent e x).requests = s.requests := rfl

/-! ### mapExtents -/

@[simp] theorem State.mapExtents_pending (f : Extent → Extent) :
    (s.mapExtents f).pending = s.pending := rfl
@[simp] theorem State.mapExtents_freeCount (f : Extent → Extent) :
    (s.mapExtents f).freeCount = s.freeCount := rfl
@[simp] theorem State.mapExtents_rate (f : Extent → Extent) : (s.mapExtents f).rate = s.rate := rfl
@[simp] theorem State.mapExtents_unit (f : Extent → Extent) : (s.mapExtents f).unit = s.unit := rfl
@[simp] theorem State.mapExtents_link (f : Extent → Extent) : (s.mapExtents f).link = s.link := rfl
@[simp] theorem State.mapExtents_sources (f : Extent → Extent) :
    (s.mapExtents f).sources = s.sources := rfl
@[simp] theorem State.mapExtents_tracks (f : Extent → Extent) :
    (s.mapExtents f).tracks = s.tracks := rfl
@[simp] theorem State.mapExtents_coder (f : Extent → Extent) :
    (s.mapExtents f).coder = s.coder := rfl
@[simp] theorem State.mapExtents_takes (f : Extent → Extent) :
    (s.mapExtents f).takes = s.takes := rfl
@[simp] theorem State.mapExtents_store (f : Extent → Extent) :
    (s.mapExtents f).store = { s.store with table := s.store.table.map fun y => (y.1, f y.2) } := rfl
@[simp] theorem State.mapExtents_flash (f : Extent → Extent) :
    (s.mapExtents f).flash = s.flash := rfl
@[simp] theorem State.mapExtents_readout (f : Extent → Extent) :
    (s.mapExtents f).readout = s.readout := rfl
@[simp] theorem State.mapExtents_mix (f : Extent → Extent) : (s.mapExtents f).mix = s.mix := rfl
@[simp] theorem State.mapExtents_stream (f : Extent → Extent) :
    (s.mapExtents f).stream = s.stream := rfl
@[simp] theorem State.mapExtents_meter (f : Extent → Extent) :
    (s.mapExtents f).meter = s.meter := rfl
@[simp] theorem State.mapExtents_requests (f : Extent → Extent) :
    (s.mapExtents f).requests = s.requests := rfl

/-! ### mapTake -/

@[simp] theorem State.mapTake_pending (n : Nat) (f : TakeRecord → TakeRecord) :
    (s.mapTake n f).pending = s.pending := rfl
@[simp] theorem State.mapTake_freeCount (n : Nat) (f : TakeRecord → TakeRecord) :
    (s.mapTake n f).freeCount = s.freeCount := rfl
@[simp] theorem State.mapTake_rate (n : Nat) (f : TakeRecord → TakeRecord) :
    (s.mapTake n f).rate = s.rate := rfl
@[simp] theorem State.mapTake_unit (n : Nat) (f : TakeRecord → TakeRecord) :
    (s.mapTake n f).unit = s.unit := rfl
@[simp] theorem State.mapTake_link (n : Nat) (f : TakeRecord → TakeRecord) :
    (s.mapTake n f).link = s.link := rfl
@[simp] theorem State.mapTake_sources (n : Nat) (f : TakeRecord → TakeRecord) :
    (s.mapTake n f).sources = s.sources := rfl
@[simp] theorem State.mapTake_tracks (n : Nat) (f : TakeRecord → TakeRecord) :
    (s.mapTake n f).tracks = s.tracks := rfl
@[simp] theorem State.mapTake_coder (n : Nat) (f : TakeRecord → TakeRecord) :
    (s.mapTake n f).coder = s.coder := rfl
@[simp] theorem State.mapTake_takes (n : Nat) (f : TakeRecord → TakeRecord) :
    (s.mapTake n f).takes = { s.takes with records := s.takes.records.map fun t => if t.number = n then f t else t } := rfl
@[simp] theorem State.mapTake_store (n : Nat) (f : TakeRecord → TakeRecord) :
    (s.mapTake n f).store = s.store := rfl
@[simp] theorem State.mapTake_flash (n : Nat) (f : TakeRecord → TakeRecord) :
    (s.mapTake n f).flash = s.flash := rfl
@[simp] theorem State.mapTake_readout (n : Nat) (f : TakeRecord → TakeRecord) :
    (s.mapTake n f).readout = s.readout := rfl
@[simp] theorem State.mapTake_mix (n : Nat) (f : TakeRecord → TakeRecord) :
    (s.mapTake n f).mix = s.mix := rfl
@[simp] theorem State.mapTake_stream (n : Nat) (f : TakeRecord → TakeRecord) :
    (s.mapTake n f).stream = s.stream := rfl
@[simp] theorem State.mapTake_meter (n : Nat) (f : TakeRecord → TakeRecord) :
    (s.mapTake n f).meter = s.meter := rfl
@[simp] theorem State.mapTake_requests (n : Nat) (f : TakeRecord → TakeRecord) :
    (s.mapTake n f).requests = s.requests := rfl

/-! ### dropTake -/

@[simp] theorem State.dropTake_pending (n : Nat) : (s.dropTake n).pending = s.pending := rfl
@[simp] theorem State.dropTake_freeCount (n : Nat) : (s.dropTake n).freeCount = s.freeCount := rfl
@[simp] theorem State.dropTake_rate (n : Nat) : (s.dropTake n).rate = s.rate := rfl
@[simp] theorem State.dropTake_unit (n : Nat) : (s.dropTake n).unit = s.unit := rfl
@[simp] theorem State.dropTake_link (n : Nat) : (s.dropTake n).link = s.link := rfl
@[simp] theorem State.dropTake_sources (n : Nat) : (s.dropTake n).sources = s.sources := rfl
@[simp] theorem State.dropTake_tracks (n : Nat) : (s.dropTake n).tracks = s.tracks := rfl
@[simp] theorem State.dropTake_coder (n : Nat) : (s.dropTake n).coder = s.coder := rfl
@[simp] theorem State.dropTake_takes (n : Nat) :
    (s.dropTake n).takes = { s.takes with records := s.takes.records.filter fun t => t.number ≠ n } := rfl
@[simp] theorem State.dropTake_store (n : Nat) : (s.dropTake n).store = s.store := rfl
@[simp] theorem State.dropTake_flash (n : Nat) : (s.dropTake n).flash = s.flash := rfl
@[simp] theorem State.dropTake_readout (n : Nat) : (s.dropTake n).readout = s.readout := rfl
@[simp] theorem State.dropTake_mix (n : Nat) : (s.dropTake n).mix = s.mix := rfl
@[simp] theorem State.dropTake_stream (n : Nat) : (s.dropTake n).stream = s.stream := rfl
@[simp] theorem State.dropTake_meter (n : Nat) : (s.dropTake n).meter = s.meter := rfl
@[simp] theorem State.dropTake_requests (n : Nat) : (s.dropTake n).requests = s.requests := rfl

/-! ### dropEntry -/

@[simp] theorem State.dropEntry_pending (a : Nat) : (s.dropEntry a).pending = s.pending := rfl
@[simp] theorem State.dropEntry_freeCount (a : Nat) : (s.dropEntry a).freeCount = s.freeCount := rfl
@[simp] theorem State.dropEntry_rate (a : Nat) : (s.dropEntry a).rate = s.rate := rfl
@[simp] theorem State.dropEntry_unit (a : Nat) : (s.dropEntry a).unit = s.unit := rfl
@[simp] theorem State.dropEntry_link (a : Nat) : (s.dropEntry a).link = s.link := rfl
@[simp] theorem State.dropEntry_sources (a : Nat) : (s.dropEntry a).sources = s.sources := rfl
@[simp] theorem State.dropEntry_tracks (a : Nat) : (s.dropEntry a).tracks = s.tracks := rfl
@[simp] theorem State.dropEntry_coder (a : Nat) : (s.dropEntry a).coder = s.coder := rfl
@[simp] theorem State.dropEntry_takes (a : Nat) : (s.dropEntry a).takes = s.takes := rfl
@[simp] theorem State.dropEntry_store (a : Nat) : (s.dropEntry a).store = s.store := rfl
@[simp] theorem State.dropEntry_flash (a : Nat) : (s.dropEntry a).flash = s.flash := rfl
@[simp] theorem State.dropEntry_readout (a : Nat) : (s.dropEntry a).readout = s.readout := rfl
@[simp] theorem State.dropEntry_mix (a : Nat) : (s.dropEntry a).mix = s.mix := rfl
@[simp] theorem State.dropEntry_stream (a : Nat) : (s.dropEntry a).stream = s.stream := rfl
@[simp] theorem State.dropEntry_meter (a : Nat) : (s.dropEntry a).meter = s.meter := rfl
@[simp] theorem State.dropEntry_requests (a : Nat) :
    (s.dropEntry a).requests = { s.requests with entries := s.requests.entries.filter fun e => e.arrival ≠ a } := rfl

/-! ### countBroadcast -/

@[simp] theorem State.countBroadcast_pending : (s.countBroadcast).pending = s.pending := rfl
@[simp] theorem State.countBroadcast_freeCount : (s.countBroadcast).freeCount = s.freeCount := rfl
@[simp] theorem State.countBroadcast_rate : (s.countBroadcast).rate = s.rate := rfl
@[simp] theorem State.countBroadcast_unit : (s.countBroadcast).unit = s.unit := rfl
@[simp] theorem State.countBroadcast_link : (s.countBroadcast).link = s.link := rfl
@[simp] theorem State.countBroadcast_sources : (s.countBroadcast).sources = s.sources := rfl
@[simp] theorem State.countBroadcast_tracks : (s.countBroadcast).tracks = s.tracks := rfl
@[simp] theorem State.countBroadcast_coder : (s.countBroadcast).coder = s.coder := rfl
@[simp] theorem State.countBroadcast_takes : (s.countBroadcast).takes = s.takes := rfl
@[simp] theorem State.countBroadcast_store : (s.countBroadcast).store = s.store := rfl
@[simp] theorem State.countBroadcast_flash : (s.countBroadcast).flash = s.flash := rfl
@[simp] theorem State.countBroadcast_readout : (s.countBroadcast).readout = s.readout := rfl
@[simp] theorem State.countBroadcast_mix : (s.countBroadcast).mix = s.mix := rfl
@[simp] theorem State.countBroadcast_stream : (s.countBroadcast).stream = s.stream := rfl
@[simp] theorem State.countBroadcast_meter : (s.countBroadcast).meter = s.meter := rfl
@[simp] theorem State.countBroadcast_requests :
    (s.countBroadcast).requests = { s.requests with broadcastRefused := countUp s.requests.broadcastRefused 1 } := rfl

/-! ### activate -/

@[simp] theorem State.activate_pending (a : Nat) : (s.activate a).pending = s.pending := rfl
@[simp] theorem State.activate_freeCount (a : Nat) : (s.activate a).freeCount = s.freeCount := rfl
@[simp] theorem State.activate_rate (a : Nat) : (s.activate a).rate = s.rate := rfl
@[simp] theorem State.activate_unit (a : Nat) : (s.activate a).unit = s.unit := rfl
@[simp] theorem State.activate_link (a : Nat) : (s.activate a).link = s.link := rfl
@[simp] theorem State.activate_sources (a : Nat) : (s.activate a).sources = s.sources := rfl
@[simp] theorem State.activate_tracks (a : Nat) : (s.activate a).tracks = s.tracks := rfl
@[simp] theorem State.activate_coder (a : Nat) : (s.activate a).coder = s.coder := rfl
@[simp] theorem State.activate_takes (a : Nat) : (s.activate a).takes = s.takes := rfl
@[simp] theorem State.activate_store (a : Nat) : (s.activate a).store = s.store := rfl
@[simp] theorem State.activate_flash (a : Nat) : (s.activate a).flash = s.flash := rfl
@[simp] theorem State.activate_readout (a : Nat) : (s.activate a).readout = s.readout := rfl
@[simp] theorem State.activate_mix (a : Nat) : (s.activate a).mix = s.mix := rfl
@[simp] theorem State.activate_stream (a : Nat) : (s.activate a).stream = s.stream := rfl
@[simp] theorem State.activate_meter (a : Nat) : (s.activate a).meter = s.meter := rfl
@[simp] theorem State.activate_requests (a : Nat) :
    (s.activate a).requests = { s.requests with entries := s.requests.entries.map fun e => if e.arrival = a then { e with active := true } else e } := rfl

/-! ### holdSlot -/

@[simp] theorem State.holdSlot_pending (e : Entry) (k : StoreOpKind) :
    (s.holdSlot e k).pending = s.pending := rfl
@[simp] theorem State.holdSlot_freeCount (e : Entry) (k : StoreOpKind) :
    (s.holdSlot e k).freeCount = s.freeCount := rfl
@[simp] theorem State.holdSlot_rate (e : Entry) (k : StoreOpKind) :
    (s.holdSlot e k).rate = s.rate := rfl
@[simp] theorem State.holdSlot_unit (e : Entry) (k : StoreOpKind) :
    (s.holdSlot e k).unit = s.unit := rfl
@[simp] theorem State.holdSlot_link (e : Entry) (k : StoreOpKind) :
    (s.holdSlot e k).link = s.link := rfl
@[simp] theorem State.holdSlot_sources (e : Entry) (k : StoreOpKind) :
    (s.holdSlot e k).sources = s.sources := rfl
@[simp] theorem State.holdSlot_tracks (e : Entry) (k : StoreOpKind) :
    (s.holdSlot e k).tracks = s.tracks := rfl
@[simp] theorem State.holdSlot_coder (e : Entry) (k : StoreOpKind) :
    (s.holdSlot e k).coder = s.coder := rfl
@[simp] theorem State.holdSlot_takes (e : Entry) (k : StoreOpKind) :
    (s.holdSlot e k).takes = s.takes := rfl
@[simp] theorem State.holdSlot_store (e : Entry) (k : StoreOpKind) :
    (s.holdSlot e k).store = s.store := rfl
@[simp] theorem State.holdSlot_flash (e : Entry) (k : StoreOpKind) :
    (s.holdSlot e k).flash = s.flash := rfl
@[simp] theorem State.holdSlot_readout (e : Entry) (k : StoreOpKind) :
    (s.holdSlot e k).readout = s.readout := rfl
@[simp] theorem State.holdSlot_mix (e : Entry) (k : StoreOpKind) :
    (s.holdSlot e k).mix = s.mix := rfl
@[simp] theorem State.holdSlot_stream (e : Entry) (k : StoreOpKind) :
    (s.holdSlot e k).stream = s.stream := rfl
@[simp] theorem State.holdSlot_meter (e : Entry) (k : StoreOpKind) :
    (s.holdSlot e k).meter = s.meter := rfl
@[simp] theorem State.holdSlot_requests (e : Entry) (k : StoreOpKind) :
    (s.holdSlot e k).requests = { s.requests with storeOp := some ⟨k, e.arrival⟩ } := rfl

/-! ### mountStep -/

@[simp] theorem State.mountStep_pending (m : MountStep) : (s.mountStep m).pending = s.pending := rfl
@[simp] theorem State.mountStep_freeCount (m : MountStep) :
    (s.mountStep m).freeCount = s.freeCount := rfl
@[simp] theorem State.mountStep_rate (m : MountStep) : (s.mountStep m).rate = s.rate := rfl
@[simp] theorem State.mountStep_unit (m : MountStep) : (s.mountStep m).unit = s.unit := rfl
@[simp] theorem State.mountStep_link (m : MountStep) : (s.mountStep m).link = s.link := rfl
@[simp] theorem State.mountStep_sources (m : MountStep) : (s.mountStep m).sources = s.sources := rfl
@[simp] theorem State.mountStep_tracks (m : MountStep) : (s.mountStep m).tracks = s.tracks := rfl
@[simp] theorem State.mountStep_coder (m : MountStep) : (s.mountStep m).coder = s.coder := rfl
@[simp] theorem State.mountStep_takes (m : MountStep) : (s.mountStep m).takes = s.takes := rfl
@[simp] theorem State.mountStep_store (m : MountStep) :
    (s.mountStep m).store = { s.store with mount := s.store.mount.map fun x => { x with step := m } } := rfl
@[simp] theorem State.mountStep_flash (m : MountStep) : (s.mountStep m).flash = s.flash := rfl
@[simp] theorem State.mountStep_readout (m : MountStep) : (s.mountStep m).readout = s.readout := rfl
@[simp] theorem State.mountStep_mix (m : MountStep) : (s.mountStep m).mix = s.mix := rfl
@[simp] theorem State.mountStep_stream (m : MountStep) : (s.mountStep m).stream = s.stream := rfl
@[simp] theorem State.mountStep_meter (m : MountStep) : (s.mountStep m).meter = s.meter := rfl
@[simp] theorem State.mountStep_requests (m : MountStep) :
    (s.mountStep m).requests = s.requests := rfl

/-! ### stall -/

@[simp] theorem State.stall_pending (w : WriteState) : (s.stall w).pending = s.pending := rfl
@[simp] theorem State.stall_freeCount (w : WriteState) : (s.stall w).freeCount = s.freeCount := rfl
@[simp] theorem State.stall_rate (w : WriteState) : (s.stall w).rate = s.rate := rfl
@[simp] theorem State.stall_unit (w : WriteState) : (s.stall w).unit = s.unit := rfl
@[simp] theorem State.stall_link (w : WriteState) : (s.stall w).link = s.link := rfl
@[simp] theorem State.stall_sources (w : WriteState) : (s.stall w).sources = s.sources := rfl
@[simp] theorem State.stall_tracks (w : WriteState) : (s.stall w).tracks = s.tracks := rfl
@[simp] theorem State.stall_coder (w : WriteState) : (s.stall w).coder = s.coder := rfl
@[simp] theorem State.stall_takes (w : WriteState) : (s.stall w).takes = s.takes := rfl
@[simp] theorem State.stall_store (w : WriteState) :
    (s.stall w).store = { s.store with writeState := some { w with stalled := true } } := rfl
@[simp] theorem State.stall_flash (w : WriteState) : (s.stall w).flash = s.flash := rfl
@[simp] theorem State.stall_readout (w : WriteState) : (s.stall w).readout = s.readout := rfl
@[simp] theorem State.stall_mix (w : WriteState) : (s.stall w).mix = s.mix := rfl
@[simp] theorem State.stall_stream (w : WriteState) : (s.stall w).stream = s.stream := rfl
@[simp] theorem State.stall_meter (w : WriteState) : (s.stall w).meter = s.meter := rfl
@[simp] theorem State.stall_requests (w : WriteState) : (s.stall w).requests = s.requests := rfl

/-! ### countEraseFailure -/

@[simp] theorem State.countEraseFailure_pending : (s.countEraseFailure).pending = s.pending := rfl
@[simp] theorem State.countEraseFailure_freeCount :
    (s.countEraseFailure).freeCount = s.freeCount := rfl
@[simp] theorem State.countEraseFailure_rate : (s.countEraseFailure).rate = s.rate := rfl
@[simp] theorem State.countEraseFailure_unit : (s.countEraseFailure).unit = s.unit := rfl
@[simp] theorem State.countEraseFailure_link : (s.countEraseFailure).link = s.link := rfl
@[simp] theorem State.countEraseFailure_sources : (s.countEraseFailure).sources = s.sources := rfl
@[simp] theorem State.countEraseFailure_tracks : (s.countEraseFailure).tracks = s.tracks := rfl
@[simp] theorem State.countEraseFailure_coder : (s.countEraseFailure).coder = s.coder := rfl
@[simp] theorem State.countEraseFailure_takes : (s.countEraseFailure).takes = s.takes := rfl
@[simp] theorem State.countEraseFailure_store :
    (s.countEraseFailure).store = { s.store with eraseFailures := countUp s.store.eraseFailures 1 } := rfl
@[simp] theorem State.countEraseFailure_flash : (s.countEraseFailure).flash = s.flash := rfl
@[simp] theorem State.countEraseFailure_readout : (s.countEraseFailure).readout = s.readout := rfl
@[simp] theorem State.countEraseFailure_mix : (s.countEraseFailure).mix = s.mix := rfl
@[simp] theorem State.countEraseFailure_stream : (s.countEraseFailure).stream = s.stream := rfl
@[simp] theorem State.countEraseFailure_meter : (s.countEraseFailure).meter = s.meter := rfl
@[simp] theorem State.countEraseFailure_requests :
    (s.countEraseFailure).requests = s.requests := rfl

/-! ### countProgramFailure -/

@[simp] theorem State.countProgramFailure_pending :
    (s.countProgramFailure).pending = s.pending := rfl
@[simp] theorem State.countProgramFailure_freeCount :
    (s.countProgramFailure).freeCount = s.freeCount := rfl
@[simp] theorem State.countProgramFailure_rate : (s.countProgramFailure).rate = s.rate := rfl
@[simp] theorem State.countProgramFailure_unit : (s.countProgramFailure).unit = s.unit := rfl
@[simp] theorem State.countProgramFailure_link : (s.countProgramFailure).link = s.link := rfl
@[simp] theorem State.countProgramFailure_sources :
    (s.countProgramFailure).sources = s.sources := rfl
@[simp] theorem State.countProgramFailure_tracks : (s.countProgramFailure).tracks = s.tracks := rfl
@[simp] theorem State.countProgramFailure_coder : (s.countProgramFailure).coder = s.coder := rfl
@[simp] theorem State.countProgramFailure_takes : (s.countProgramFailure).takes = s.takes := rfl
@[simp] theorem State.countProgramFailure_store :
    (s.countProgramFailure).store = { s.store with programFailures := countUp s.store.programFailures 1 } := rfl
@[simp] theorem State.countProgramFailure_flash : (s.countProgramFailure).flash = s.flash := rfl
@[simp] theorem State.countProgramFailure_readout :
    (s.countProgramFailure).readout = s.readout := rfl
@[simp] theorem State.countProgramFailure_mix : (s.countProgramFailure).mix = s.mix := rfl
@[simp] theorem State.countProgramFailure_stream : (s.countProgramFailure).stream = s.stream := rfl
@[simp] theorem State.countProgramFailure_meter : (s.countProgramFailure).meter = s.meter := rfl
@[simp] theorem State.countProgramFailure_requests :
    (s.countProgramFailure).requests = s.requests := rfl

/-! ### countMismatch -/

@[simp] theorem State.countMismatch_pending : (s.countMismatch).pending = s.pending := rfl
@[simp] theorem State.countMismatch_freeCount : (s.countMismatch).freeCount = s.freeCount := rfl
@[simp] theorem State.countMismatch_rate : (s.countMismatch).rate = s.rate := rfl
@[simp] theorem State.countMismatch_unit : (s.countMismatch).unit = s.unit := rfl
@[simp] theorem State.countMismatch_link : (s.countMismatch).link = s.link := rfl
@[simp] theorem State.countMismatch_sources : (s.countMismatch).sources = s.sources := rfl
@[simp] theorem State.countMismatch_tracks : (s.countMismatch).tracks = s.tracks := rfl
@[simp] theorem State.countMismatch_coder : (s.countMismatch).coder = s.coder := rfl
@[simp] theorem State.countMismatch_takes : (s.countMismatch).takes = s.takes := rfl
@[simp] theorem State.countMismatch_store :
    (s.countMismatch).store = { s.store with verifyMismatches := countUp s.store.verifyMismatches 1 } := rfl
@[simp] theorem State.countMismatch_flash : (s.countMismatch).flash = s.flash := rfl
@[simp] theorem State.countMismatch_readout : (s.countMismatch).readout = s.readout := rfl
@[simp] theorem State.countMismatch_mix : (s.countMismatch).mix = s.mix := rfl
@[simp] theorem State.countMismatch_stream : (s.countMismatch).stream = s.stream := rfl
@[simp] theorem State.countMismatch_meter : (s.countMismatch).meter = s.meter := rfl
@[simp] theorem State.countMismatch_requests : (s.countMismatch).requests = s.requests := rfl

/-! ### moduleFault -/

@[simp] theorem State.moduleFault_pending (m : Nat) : (s.moduleFault m).pending = s.pending := rfl
@[simp] theorem State.moduleFault_freeCount (m : Nat) :
    (s.moduleFault m).freeCount = s.freeCount := rfl
@[simp] theorem State.moduleFault_rate (m : Nat) : (s.moduleFault m).rate = s.rate := rfl
@[simp] theorem State.moduleFault_unit (m : Nat) : (s.moduleFault m).unit = s.unit := rfl
@[simp] theorem State.moduleFault_link (m : Nat) : (s.moduleFault m).link = s.link := rfl
@[simp] theorem State.moduleFault_sources (m : Nat) : (s.moduleFault m).sources = s.sources := rfl
@[simp] theorem State.moduleFault_tracks (m : Nat) : (s.moduleFault m).tracks = s.tracks := rfl
@[simp] theorem State.moduleFault_coder (m : Nat) : (s.moduleFault m).coder = s.coder := rfl
@[simp] theorem State.moduleFault_takes (m : Nat) : (s.moduleFault m).takes = s.takes := rfl
@[simp] theorem State.moduleFault_flash (m : Nat) : (s.moduleFault m).flash = s.flash := rfl
@[simp] theorem State.moduleFault_readout (m : Nat) : (s.moduleFault m).readout = s.readout := rfl
@[simp] theorem State.moduleFault_mix (m : Nat) : (s.moduleFault m).mix = s.mix := rfl
@[simp] theorem State.moduleFault_stream (m : Nat) : (s.moduleFault m).stream = s.stream := rfl
@[simp] theorem State.moduleFault_meter (m : Nat) : (s.moduleFault m).meter = s.meter := rfl
@[simp] theorem State.moduleFault_requests (m : Nat) :
    (s.moduleFault m).requests = s.requests := rfl

/-! ### extentBad -/

@[simp] theorem State.extentBad_pending (e : Nat) (k : Bool) :
    (s.extentBad e k).pending = s.pending := rfl
@[simp] theorem State.extentBad_freeCount (e : Nat) (k : Bool) :
    (s.extentBad e k).freeCount = s.freeCount := rfl
@[simp] theorem State.extentBad_rate (e : Nat) (k : Bool) : (s.extentBad e k).rate = s.rate := rfl
@[simp] theorem State.extentBad_unit (e : Nat) (k : Bool) : (s.extentBad e k).unit = s.unit := rfl
@[simp] theorem State.extentBad_link (e : Nat) (k : Bool) : (s.extentBad e k).link = s.link := rfl
@[simp] theorem State.extentBad_sources (e : Nat) (k : Bool) :
    (s.extentBad e k).sources = s.sources := rfl
@[simp] theorem State.extentBad_tracks (e : Nat) (k : Bool) :
    (s.extentBad e k).tracks = s.tracks := rfl
@[simp] theorem State.extentBad_coder (e : Nat) (k : Bool) :
    (s.extentBad e k).coder = s.coder := rfl
@[simp] theorem State.extentBad_takes (e : Nat) (k : Bool) :
    (s.extentBad e k).takes = s.takes := rfl
@[simp] theorem State.extentBad_flash (e : Nat) (k : Bool) :
    (s.extentBad e k).flash = s.flash := rfl
@[simp] theorem State.extentBad_readout (e : Nat) (k : Bool) :
    (s.extentBad e k).readout = s.readout := rfl
@[simp] theorem State.extentBad_mix (e : Nat) (k : Bool) : (s.extentBad e k).mix = s.mix := rfl
@[simp] theorem State.extentBad_stream (e : Nat) (k : Bool) :
    (s.extentBad e k).stream = s.stream := rfl
@[simp] theorem State.extentBad_meter (e : Nat) (k : Bool) :
    (s.extentBad e k).meter = s.meter := rfl
@[simp] theorem State.extentBad_requests (e : Nat) (k : Bool) :
    (s.extentBad e k).requests = s.requests := rfl

/-! ### firstAllocation -/

@[simp] theorem State.firstAllocation_pending (n e : Nat) :
    (s.firstAllocation n e).pending = s.pending := rfl
@[simp] theorem State.firstAllocation_freeCount (n e : Nat) :
    (s.firstAllocation n e).freeCount = s.freeCount := rfl
@[simp] theorem State.firstAllocation_rate (n e : Nat) :
    (s.firstAllocation n e).rate = s.rate := rfl
@[simp] theorem State.firstAllocation_unit (n e : Nat) :
    (s.firstAllocation n e).unit = s.unit := rfl
@[simp] theorem State.firstAllocation_link (n e : Nat) :
    (s.firstAllocation n e).link = s.link := rfl
@[simp] theorem State.firstAllocation_sources (n e : Nat) :
    (s.firstAllocation n e).sources = s.sources := rfl
@[simp] theorem State.firstAllocation_tracks (n e : Nat) :
    (s.firstAllocation n e).tracks = s.tracks := rfl
@[simp] theorem State.firstAllocation_coder (n e : Nat) :
    (s.firstAllocation n e).coder = s.coder := rfl
@[simp] theorem State.firstAllocation_takes (n e : Nat) :
    (s.firstAllocation n e).takes = s.takes := rfl
@[simp] theorem State.firstAllocation_flash (n e : Nat) :
    (s.firstAllocation n e).flash = s.flash := rfl
@[simp] theorem State.firstAllocation_readout (n e : Nat) :
    (s.firstAllocation n e).readout = s.readout := rfl
@[simp] theorem State.firstAllocation_mix (n e : Nat) : (s.firstAllocation n e).mix = s.mix := rfl
@[simp] theorem State.firstAllocation_stream (n e : Nat) :
    (s.firstAllocation n e).stream = s.stream := rfl
@[simp] theorem State.firstAllocation_meter (n e : Nat) :
    (s.firstAllocation n e).meter = s.meter := rfl
@[simp] theorem State.firstAllocation_requests (n e : Nat) :
    (s.firstAllocation n e).requests = s.requests := rfl

/-! ### reply -/

@[simp] theorem State.reply_pending (o : Origin) (a b c : Nat) (st : Status) (ws : List Word) :
    (s.reply o a b c st ws).pending = s.pending := rfl
@[simp] theorem State.reply_freeCount (o : Origin) (a b c : Nat) (st : Status) (ws : List Word) :
    (s.reply o a b c st ws).freeCount = s.freeCount := rfl
@[simp] theorem State.reply_rate (o : Origin) (a b c : Nat) (st : Status) (ws : List Word) :
    (s.reply o a b c st ws).rate = s.rate := rfl
@[simp] theorem State.reply_unit (o : Origin) (a b c : Nat) (st : Status) (ws : List Word) :
    (s.reply o a b c st ws).unit = s.unit := rfl
@[simp] theorem State.reply_link (o : Origin) (a b c : Nat) (st : Status) (ws : List Word) :
    (s.reply o a b c st ws).link = s.link.offerReply o (s.replyFrame a b c st ws) := rfl
@[simp] theorem State.reply_sources (o : Origin) (a b c : Nat) (st : Status) (ws : List Word) :
    (s.reply o a b c st ws).sources = s.sources := rfl
@[simp] theorem State.reply_tracks (o : Origin) (a b c : Nat) (st : Status) (ws : List Word) :
    (s.reply o a b c st ws).tracks = s.tracks := rfl
@[simp] theorem State.reply_coder (o : Origin) (a b c : Nat) (st : Status) (ws : List Word) :
    (s.reply o a b c st ws).coder = s.coder := rfl
@[simp] theorem State.reply_takes (o : Origin) (a b c : Nat) (st : Status) (ws : List Word) :
    (s.reply o a b c st ws).takes = s.takes := rfl
@[simp] theorem State.reply_store (o : Origin) (a b c : Nat) (st : Status) (ws : List Word) :
    (s.reply o a b c st ws).store = s.store := rfl
@[simp] theorem State.reply_flash (o : Origin) (a b c : Nat) (st : Status) (ws : List Word) :
    (s.reply o a b c st ws).flash = s.flash := rfl
@[simp] theorem State.reply_readout (o : Origin) (a b c : Nat) (st : Status) (ws : List Word) :
    (s.reply o a b c st ws).readout = s.readout := rfl
@[simp] theorem State.reply_mix (o : Origin) (a b c : Nat) (st : Status) (ws : List Word) :
    (s.reply o a b c st ws).mix = s.mix := rfl
@[simp] theorem State.reply_stream (o : Origin) (a b c : Nat) (st : Status) (ws : List Word) :
    (s.reply o a b c st ws).stream = s.stream := rfl
@[simp] theorem State.reply_meter (o : Origin) (a b c : Nat) (st : Status) (ws : List Word) :
    (s.reply o a b c st ws).meter = s.meter := rfl
@[simp] theorem State.reply_requests (o : Origin) (a b c : Nat) (st : Status) (ws : List Word) :
    (s.reply o a b c st ws).requests = s.requests := rfl

/-! ### disarm -/

@[simp] theorem State.disarm_pending : (s.disarm).pending = s.pending := rfl
@[simp] theorem State.disarm_freeCount : (s.disarm).freeCount = s.freeCount := rfl
@[simp] theorem State.disarm_rate : (s.disarm).rate = s.rate := rfl
@[simp] theorem State.disarm_unit : (s.disarm).unit = s.unit := rfl
@[simp] theorem State.disarm_link : (s.disarm).link = s.link := rfl
@[simp] theorem State.disarm_sources : (s.disarm).sources = s.sources := rfl
@[simp] theorem State.disarm_tracks : (s.disarm).tracks = s.tracks := rfl
@[simp] theorem State.disarm_coder : (s.disarm).coder = s.coder := rfl
@[simp] theorem State.disarm_takes : (s.disarm).takes = { s.takes with armed := none } := rfl
@[simp] theorem State.disarm_store : (s.disarm).store = s.store := rfl
@[simp] theorem State.disarm_flash : (s.disarm).flash = s.flash := rfl
@[simp] theorem State.disarm_readout : (s.disarm).readout = s.readout := rfl
@[simp] theorem State.disarm_mix : (s.disarm).mix = s.mix := rfl
@[simp] theorem State.disarm_stream : (s.disarm).stream = s.stream := rfl
@[simp] theorem State.disarm_meter : (s.disarm).meter = s.meter := rfl
@[simp] theorem State.disarm_requests : (s.disarm).requests = s.requests := rfl

/-! ### raiseIndex -/

@[simp] theorem State.raiseIndex_pending (i : Nat) : (s.raiseIndex i).pending = s.pending := rfl
@[simp] theorem State.raiseIndex_freeCount (i : Nat) :
    (s.raiseIndex i).freeCount = s.freeCount := rfl
@[simp] theorem State.raiseIndex_rate (i : Nat) : (s.raiseIndex i).rate = s.rate := rfl
@[simp] theorem State.raiseIndex_unit (i : Nat) : (s.raiseIndex i).unit = s.unit := rfl
@[simp] theorem State.raiseIndex_link (i : Nat) : (s.raiseIndex i).link = s.link := rfl
@[simp] theorem State.raiseIndex_sources (i : Nat) : (s.raiseIndex i).sources = s.sources := rfl
@[simp] theorem State.raiseIndex_tracks (i : Nat) : (s.raiseIndex i).tracks = s.tracks := rfl
@[simp] theorem State.raiseIndex_coder (i : Nat) :
    (s.raiseIndex i).coder = { s.coder with nextIndex := some (i + 1) } := rfl
@[simp] theorem State.raiseIndex_takes (i : Nat) : (s.raiseIndex i).takes = s.takes := rfl
@[simp] theorem State.raiseIndex_store (i : Nat) : (s.raiseIndex i).store = s.store := rfl
@[simp] theorem State.raiseIndex_flash (i : Nat) : (s.raiseIndex i).flash = s.flash := rfl
@[simp] theorem State.raiseIndex_readout (i : Nat) : (s.raiseIndex i).readout = s.readout := rfl
@[simp] theorem State.raiseIndex_mix (i : Nat) : (s.raiseIndex i).mix = s.mix := rfl
@[simp] theorem State.raiseIndex_stream (i : Nat) : (s.raiseIndex i).stream = s.stream := rfl
@[simp] theorem State.raiseIndex_meter (i : Nat) : (s.raiseIndex i).meter = s.meter := rfl
@[simp] theorem State.raiseIndex_requests (i : Nat) : (s.raiseIndex i).requests = s.requests := rfl

/-! ### boundaryGiven -/

@[simp] theorem State.boundaryGiven_pending : (s.boundaryGiven).pending = s.pending := rfl
@[simp] theorem State.boundaryGiven_freeCount : (s.boundaryGiven).freeCount = s.freeCount := rfl
@[simp] theorem State.boundaryGiven_rate : (s.boundaryGiven).rate = s.rate := rfl
@[simp] theorem State.boundaryGiven_unit : (s.boundaryGiven).unit = s.unit := rfl
@[simp] theorem State.boundaryGiven_link : (s.boundaryGiven).link = s.link := rfl
@[simp] theorem State.boundaryGiven_sources :
    (s.boundaryGiven).sources = { s.sources with boundaryDue := false } := rfl
@[simp] theorem State.boundaryGiven_tracks : (s.boundaryGiven).tracks = s.tracks := rfl
@[simp] theorem State.boundaryGiven_coder : (s.boundaryGiven).coder = s.coder := rfl
@[simp] theorem State.boundaryGiven_takes : (s.boundaryGiven).takes = s.takes := rfl
@[simp] theorem State.boundaryGiven_store : (s.boundaryGiven).store = s.store := rfl
@[simp] theorem State.boundaryGiven_flash : (s.boundaryGiven).flash = s.flash := rfl
@[simp] theorem State.boundaryGiven_readout : (s.boundaryGiven).readout = s.readout := rfl
@[simp] theorem State.boundaryGiven_mix : (s.boundaryGiven).mix = s.mix := rfl
@[simp] theorem State.boundaryGiven_stream : (s.boundaryGiven).stream = s.stream := rfl
@[simp] theorem State.boundaryGiven_meter : (s.boundaryGiven).meter = s.meter := rfl
@[simp] theorem State.boundaryGiven_requests : (s.boundaryGiven).requests = s.requests := rfl

/-! ### clearBlocks -/

@[simp] theorem State.clearBlocks_pending : (s.clearBlocks).pending = s.pending := rfl
@[simp] theorem State.clearBlocks_freeCount : (s.clearBlocks).freeCount = s.freeCount := rfl
@[simp] theorem State.clearBlocks_rate : (s.clearBlocks).rate = s.rate := rfl
@[simp] theorem State.clearBlocks_unit : (s.clearBlocks).unit = s.unit := rfl
@[simp] theorem State.clearBlocks_link : (s.clearBlocks).link = s.link := rfl
@[simp] theorem State.clearBlocks_sources : (s.clearBlocks).sources = s.sources := rfl
@[simp] theorem State.clearBlocks_coder :
    (s.clearBlocks).coder = { s.coder with blocks := s.coder.blocks.map BlockRecord.empty } := rfl
@[simp] theorem State.clearBlocks_takes : (s.clearBlocks).takes = s.takes := rfl
@[simp] theorem State.clearBlocks_store : (s.clearBlocks).store = s.store := rfl
@[simp] theorem State.clearBlocks_flash : (s.clearBlocks).flash = s.flash := rfl
@[simp] theorem State.clearBlocks_readout : (s.clearBlocks).readout = s.readout := rfl
@[simp] theorem State.clearBlocks_mix : (s.clearBlocks).mix = s.mix := rfl
@[simp] theorem State.clearBlocks_stream : (s.clearBlocks).stream = s.stream := rfl
@[simp] theorem State.clearBlocks_meter : (s.clearBlocks).meter = s.meter := rfl
@[simp] theorem State.clearBlocks_requests : (s.clearBlocks).requests = s.requests := rfl

/-! ### setTrack -/

@[simp] theorem State.setTrack_pending (t : Nat) (p : TrackParts) :
    (s.setTrack t p).pending = s.pending := rfl
@[simp] theorem State.setTrack_freeCount (t : Nat) (p : TrackParts) :
    (s.setTrack t p).freeCount = s.freeCount := rfl
@[simp] theorem State.setTrack_rate (t : Nat) (p : TrackParts) :
    (s.setTrack t p).rate = s.rate := rfl
@[simp] theorem State.setTrack_unit (t : Nat) (p : TrackParts) :
    (s.setTrack t p).unit = s.unit := rfl
@[simp] theorem State.setTrack_link (t : Nat) (p : TrackParts) :
    (s.setTrack t p).link = s.link := rfl
@[simp] theorem State.setTrack_coder (t : Nat) (p : TrackParts) :
    (s.setTrack t p).coder = s.coder := rfl
@[simp] theorem State.setTrack_takes (t : Nat) (p : TrackParts) :
    (s.setTrack t p).takes = s.takes := rfl
@[simp] theorem State.setTrack_store (t : Nat) (p : TrackParts) :
    (s.setTrack t p).store = s.store := rfl
@[simp] theorem State.setTrack_flash (t : Nat) (p : TrackParts) :
    (s.setTrack t p).flash = s.flash := rfl
@[simp] theorem State.setTrack_readout (t : Nat) (p : TrackParts) :
    (s.setTrack t p).readout = s.readout := rfl
@[simp] theorem State.setTrack_mix (t : Nat) (p : TrackParts) : (s.setTrack t p).mix = s.mix := rfl
@[simp] theorem State.setTrack_stream (t : Nat) (p : TrackParts) :
    (s.setTrack t p).stream = s.stream := rfl
@[simp] theorem State.setTrack_meter (t : Nat) (p : TrackParts) :
    (s.setTrack t p).meter = s.meter := rfl
@[simp] theorem State.setTrack_requests (t : Nat) (p : TrackParts) :
    (s.setTrack t p).requests = s.requests := rfl

/-! ### setTracks -/

@[simp] theorem State.setTracks_pending (ps : List TrackParts) :
    (s.setTracks ps).pending = s.pending := rfl
@[simp] theorem State.setTracks_freeCount (ps : List TrackParts) :
    (s.setTracks ps).freeCount = s.freeCount := rfl
@[simp] theorem State.setTracks_rate (ps : List TrackParts) : (s.setTracks ps).rate = s.rate := rfl
@[simp] theorem State.setTracks_unit (ps : List TrackParts) : (s.setTracks ps).unit = s.unit := rfl
@[simp] theorem State.setTracks_link (ps : List TrackParts) : (s.setTracks ps).link = s.link := rfl
@[simp] theorem State.setTracks_coder (ps : List TrackParts) :
    (s.setTracks ps).coder = s.coder := rfl
@[simp] theorem State.setTracks_takes (ps : List TrackParts) :
    (s.setTracks ps).takes = s.takes := rfl
@[simp] theorem State.setTracks_store (ps : List TrackParts) :
    (s.setTracks ps).store = s.store := rfl
@[simp] theorem State.setTracks_flash (ps : List TrackParts) :
    (s.setTracks ps).flash = s.flash := rfl
@[simp] theorem State.setTracks_readout (ps : List TrackParts) :
    (s.setTracks ps).readout = s.readout := rfl
@[simp] theorem State.setTracks_mix (ps : List TrackParts) : (s.setTracks ps).mix = s.mix := rfl
@[simp] theorem State.setTracks_stream (ps : List TrackParts) :
    (s.setTracks ps).stream = s.stream := rfl
@[simp] theorem State.setTracks_meter (ps : List TrackParts) :
    (s.setTracks ps).meter = s.meter := rfl
@[simp] theorem State.setTracks_requests (ps : List TrackParts) :
    (s.setTracks ps).requests = s.requests := rfl

/-! ### clearUnitCounts -/

@[simp] theorem State.clearUnitCounts_pending : (s.clearUnitCounts).pending = s.pending := rfl
@[simp] theorem State.clearUnitCounts_freeCount : (s.clearUnitCounts).freeCount = s.freeCount := rfl
@[simp] theorem State.clearUnitCounts_rate : (s.clearUnitCounts).rate = s.rate := rfl
@[simp] theorem State.clearUnitCounts_unit : (s.clearUnitCounts).unit = s.unit := rfl
@[simp] theorem State.clearUnitCounts_link : (s.clearUnitCounts).link = s.link.clearCounts := rfl
@[simp] theorem State.clearUnitCounts_sources : (s.clearUnitCounts).sources = s.sources := rfl
@[simp] theorem State.clearUnitCounts_tracks : (s.clearUnitCounts).tracks = s.tracks := rfl
@[simp] theorem State.clearUnitCounts_coder : (s.clearUnitCounts).coder = s.coder := rfl
@[simp] theorem State.clearUnitCounts_takes : (s.clearUnitCounts).takes = s.takes := rfl
@[simp] theorem State.clearUnitCounts_store : (s.clearUnitCounts).store = s.store := rfl
@[simp] theorem State.clearUnitCounts_flash : (s.clearUnitCounts).flash = s.flash := rfl
@[simp] theorem State.clearUnitCounts_readout : (s.clearUnitCounts).readout = s.readout := rfl
@[simp] theorem State.clearUnitCounts_mix : (s.clearUnitCounts).mix = s.mix := rfl
@[simp] theorem State.clearUnitCounts_meter : (s.clearUnitCounts).meter = s.meter := rfl
@[simp] theorem State.clearUnitCounts_requests :
    (s.clearUnitCounts).requests = { s.requests with broadcastRefused := 0 } := rfl

/-! ### rowTimers -/

@[simp] theorem State.rowTimers_pending : (s.rowTimers).pending = s.pending := rfl
@[simp] theorem State.rowTimers_freeCount : (s.rowTimers).freeCount = s.freeCount := rfl
@[simp] theorem State.rowTimers_rate : (s.rowTimers).rate = s.rate := rfl
@[simp] theorem State.rowTimers_unit : (s.rowTimers).unit = s.unit := rfl
@[simp] theorem State.rowTimers_link : (s.rowTimers).link = s.link := rfl
@[simp] theorem State.rowTimers_sources : (s.rowTimers).sources = s.sources := rfl
@[simp] theorem State.rowTimers_tracks : (s.rowTimers).tracks = s.tracks := rfl
@[simp] theorem State.rowTimers_coder : (s.rowTimers).coder = s.coder := rfl
@[simp] theorem State.rowTimers_takes : (s.rowTimers).takes = s.takes := rfl
@[simp] theorem State.rowTimers_flash : (s.rowTimers).flash = s.flash := rfl
@[simp] theorem State.rowTimers_mix : (s.rowTimers).mix = s.mix := rfl
@[simp] theorem State.rowTimers_stream : (s.rowTimers).stream = s.stream := rfl
@[simp] theorem State.rowTimers_meter : (s.rowTimers).meter = s.meter := rfl
@[simp] theorem State.rowTimers_requests : (s.rowTimers).requests = s.requests := rfl

/-! ### scramblePage -/

@[simp] theorem State.scramblePage_pending (k : Nat) : (s.scramblePage k).pending = s.pending := rfl
@[simp] theorem State.scramblePage_freeCount (k : Nat) :
    (s.scramblePage k).freeCount = s.freeCount + freePageSize := rfl
@[simp] theorem State.scramblePage_rate (k : Nat) : (s.scramblePage k).rate = s.rate := rfl
@[simp] theorem State.scramblePage_unit (k : Nat) : (s.scramblePage k).unit = s.unit := rfl
@[simp] theorem State.scramblePage_link (k : Nat) : (s.scramblePage k).link = s.link := rfl
@[simp] theorem State.scramblePage_sources (k : Nat) : (s.scramblePage k).sources = s.sources := rfl
@[simp] theorem State.scramblePage_tracks (k : Nat) : (s.scramblePage k).tracks = s.tracks := rfl
@[simp] theorem State.scramblePage_coder (k : Nat) : (s.scramblePage k).coder = s.coder := rfl
@[simp] theorem State.scramblePage_takes (k : Nat) : (s.scramblePage k).takes = s.takes := rfl
@[simp] theorem State.scramblePage_store (k : Nat) : (s.scramblePage k).store = s.store := rfl
@[simp] theorem State.scramblePage_flash (k : Nat) :
    (s.scramblePage k).flash = s.flash.write k (freePage s.freeCount) := rfl
@[simp] theorem State.scramblePage_readout (k : Nat) : (s.scramblePage k).readout = s.readout := rfl
@[simp] theorem State.scramblePage_mix (k : Nat) : (s.scramblePage k).mix = s.mix := rfl
@[simp] theorem State.scramblePage_stream (k : Nat) : (s.scramblePage k).stream = s.stream := rfl
@[simp] theorem State.scramblePage_meter (k : Nat) : (s.scramblePage k).meter = s.meter := rfl
@[simp] theorem State.scramblePage_requests (k : Nat) :
    (s.scramblePage k).requests = s.requests := rfl

/-! ### writeBadMark -/

@[simp] theorem State.writeBadMark_pending (e : Nat) (w : Word) :
    (s.writeBadMark e w).pending = s.pending := rfl
@[simp] theorem State.writeBadMark_freeCount (e : Nat) (w : Word) :
    (s.writeBadMark e w).freeCount = s.freeCount := rfl
@[simp] theorem State.writeBadMark_rate (e : Nat) (w : Word) :
    (s.writeBadMark e w).rate = s.rate := rfl
@[simp] theorem State.writeBadMark_unit (e : Nat) (w : Word) :
    (s.writeBadMark e w).unit = s.unit := rfl
@[simp] theorem State.writeBadMark_link (e : Nat) (w : Word) :
    (s.writeBadMark e w).link = s.link := rfl
@[simp] theorem State.writeBadMark_sources (e : Nat) (w : Word) :
    (s.writeBadMark e w).sources = s.sources := rfl
@[simp] theorem State.writeBadMark_tracks (e : Nat) (w : Word) :
    (s.writeBadMark e w).tracks = s.tracks := rfl
@[simp] theorem State.writeBadMark_coder (e : Nat) (w : Word) :
    (s.writeBadMark e w).coder = s.coder := rfl
@[simp] theorem State.writeBadMark_takes (e : Nat) (w : Word) :
    (s.writeBadMark e w).takes = s.takes := rfl
@[simp] theorem State.writeBadMark_store (e : Nat) (w : Word) :
    (s.writeBadMark e w).store = s.store := rfl
@[simp] theorem State.writeBadMark_readout (e : Nat) (w : Word) :
    (s.writeBadMark e w).readout = s.readout := rfl
@[simp] theorem State.writeBadMark_mix (e : Nat) (w : Word) :
    (s.writeBadMark e w).mix = s.mix := rfl
@[simp] theorem State.writeBadMark_stream (e : Nat) (w : Word) :
    (s.writeBadMark e w).stream = s.stream := rfl
@[simp] theorem State.writeBadMark_meter (e : Nat) (w : Word) :
    (s.writeBadMark e w).meter = s.meter := rfl
@[simp] theorem State.writeBadMark_requests (e : Nat) (w : Word) :
    (s.writeBadMark e w).requests = s.requests := rfl

/-! ### warmReset -/

@[simp] theorem State.warmReset_pending (a : Nat) : (s.warmReset a).pending = s.pending := rfl
@[simp] theorem State.warmReset_freeCount (a : Nat) : (s.warmReset a).freeCount = s.freeCount := rfl
@[simp] theorem State.warmReset_rate (a : Nat) : (s.warmReset a).rate = s.rate := rfl
@[simp] theorem State.warmReset_unit (a : Nat) : (s.warmReset a).unit = s.unit := rfl
@[simp] theorem State.warmReset_link (a : Nat) : (s.warmReset a).link = s.link.warmReset := rfl
@[simp] theorem State.warmReset_sources (a : Nat) : (s.warmReset a).sources = {} := rfl
@[simp] theorem State.warmReset_tracks (a : Nat) : (s.warmReset a).tracks = {} := rfl
@[simp] theorem State.warmReset_coder (a : Nat) : (s.warmReset a).coder = {} := rfl
@[simp] theorem State.warmReset_takes (a : Nat) : (s.warmReset a).takes = s.takes := rfl
@[simp] theorem State.warmReset_store (a : Nat) : (s.warmReset a).store = s.store.clearCounts := rfl
@[simp] theorem State.warmReset_flash (a : Nat) : (s.warmReset a).flash = s.flash := rfl
@[simp] theorem State.warmReset_readout (a : Nat) : (s.warmReset a).readout = {} := rfl
@[simp] theorem State.warmReset_mix (a : Nat) : (s.warmReset a).mix = {} := rfl
@[simp] theorem State.warmReset_stream (a : Nat) :
    (s.warmReset a).stream = List.replicate Config.buses {} := rfl
@[simp] theorem State.warmReset_meter (a : Nat) : (s.warmReset a).meter = {} := rfl
@[simp] theorem State.warmReset_requests (a : Nat) :
    (s.warmReset a).requests = s.requests.warmReset a := rfl

/-! ### arm -/

@[simp] theorem State.arm_pending (e : Entry) (t : Transition) (k : StoreOpKind) :
    (s.arm e t k).pending = s.pending := rfl
@[simp] theorem State.arm_freeCount (e : Entry) (t : Transition) (k : StoreOpKind) :
    (s.arm e t k).freeCount = s.freeCount := rfl
@[simp] theorem State.arm_rate (e : Entry) (t : Transition) (k : StoreOpKind) :
    (s.arm e t k).rate = s.rate := rfl
@[simp] theorem State.arm_unit (e : Entry) (t : Transition) (k : StoreOpKind) :
    (s.arm e t k).unit = s.unit := rfl
@[simp] theorem State.arm_link (e : Entry) (t : Transition) (k : StoreOpKind) :
    (s.arm e t k).link = s.link := rfl
@[simp] theorem State.arm_sources (e : Entry) (t : Transition) (k : StoreOpKind) :
    (s.arm e t k).sources = s.sources := rfl
@[simp] theorem State.arm_tracks (e : Entry) (t : Transition) (k : StoreOpKind) :
    (s.arm e t k).tracks = s.tracks := rfl
@[simp] theorem State.arm_coder (e : Entry) (t : Transition) (k : StoreOpKind) :
    (s.arm e t k).coder = s.coder := rfl
@[simp] theorem State.arm_takes (e : Entry) (t : Transition) (k : StoreOpKind) :
    (s.arm e t k).takes = { s.takes with armed := some t } := rfl
@[simp] theorem State.arm_store (e : Entry) (t : Transition) (k : StoreOpKind) :
    (s.arm e t k).store = s.store := rfl
@[simp] theorem State.arm_flash (e : Entry) (t : Transition) (k : StoreOpKind) :
    (s.arm e t k).flash = s.flash := rfl
@[simp] theorem State.arm_readout (e : Entry) (t : Transition) (k : StoreOpKind) :
    (s.arm e t k).readout = s.readout := rfl
@[simp] theorem State.arm_mix (e : Entry) (t : Transition) (k : StoreOpKind) :
    (s.arm e t k).mix = s.mix := rfl
@[simp] theorem State.arm_stream (e : Entry) (t : Transition) (k : StoreOpKind) :
    (s.arm e t k).stream = s.stream := rfl
@[simp] theorem State.arm_meter (e : Entry) (t : Transition) (k : StoreOpKind) :
    (s.arm e t k).meter = s.meter := rfl
@[simp] theorem State.arm_requests (e : Entry) (t : Transition) (k : StoreOpKind) :
    (s.arm e t k).requests = { s.requests with storeOp := some ⟨k, e.arrival⟩ } := rfl

end Sys2Proof.Machine
end

