-- ==== Sys2Proof/Laws/Flash.lean ====
section
/-!
SUPPORT. The addressed memory of the store modules: a page read after it was written, other pages read
as before, and the canonical form kept by every operation (R103).
-/

namespace Sys2Proof.Machine

/-! ## Reading after writing -/

/-- A page below every listed one reads as erased. -/
theorem FlashMemory.read_below (f : FlashMemory) (k : Nat) (h : ∀ x ∈ f, k < x.1) :
    f.read k = erasedPage := by
  cases f with
  | nil => rfl
  | cons x f =>
    obtain ⟨j, q⟩ := x
    have hj : k < j := h (j, q) (by simp)
    have ih := FlashMemory.read_below f k fun y hy => h y (by simp [hy])
    simp [FlashMemory.read, Nat.ne_of_gt hj, ih]

/-- Reading a page after writing it gives what was written. -/
theorem FlashMemory.read_write_same (f : FlashMemory) (k : Nat) (p : PageImage) (hf : f.Wf) :
    (f.write k p).read k = p := by
  induction f with
  | nil => by_cases h : p = erasedPage <;> simp [FlashMemory.write, FlashMemory.read, h]
  | cons x f ih =>
    obtain ⟨j, q⟩ := x
    obtain ⟨hs, hn⟩ := hf
    have hs' := List.pairwise_cons.mp hs
    have ih := ih ⟨hs'.2, fun y hy => hn y (by simp [hy])⟩
    rcases Nat.lt_trichotomy j k with h | h | h
    · simp [FlashMemory.write, FlashMemory.read, h, ih, Nat.ne_of_lt h]
    · subst h
      by_cases hp : p = erasedPage
      · simpa [FlashMemory.write, hp] using FlashMemory.read_below f j hs'.1
      · simp [FlashMemory.write, FlashMemory.read, hp]
    · by_cases hp : p = erasedPage
      · have hb := FlashMemory.read_below f k fun y hy => h.trans (hs'.1 y hy)
        simp [FlashMemory.write, FlashMemory.read, Nat.not_lt_of_gt h, Nat.ne_of_gt h, hp, hb]
      · simp [FlashMemory.write, FlashMemory.read, Nat.not_lt_of_gt h, Nat.ne_of_gt h, hp]

/-- Writing a page leaves every other page as it reads. -/
theorem FlashMemory.read_write_other (f : FlashMemory) (k m : Nat) (p : PageImage) (hm : m ≠ k) :
    (f.write k p).read m = f.read m := by
  induction f with
  | nil => by_cases h : p = erasedPage <;> simp [FlashMemory.write, FlashMemory.read, h, hm.symm]
  | cons x f ih =>
    obtain ⟨j, q⟩ := x
    rcases Nat.lt_trichotomy j k with h | h | h
    · by_cases hj : j = m
      · subst hj; simp [FlashMemory.write, FlashMemory.read, h]
      · simp [FlashMemory.write, FlashMemory.read, h, ih, hj]
    · subst h
      by_cases hp : p = erasedPage
      · simp [FlashMemory.write, FlashMemory.read, hp, hm.symm]
      · simp [FlashMemory.write, FlashMemory.read, hp, hm.symm]
    · by_cases hp : p = erasedPage
      · simp [FlashMemory.write, FlashMemory.read, Nat.not_lt_of_gt h, Nat.ne_of_gt h, hp]
      · simp [FlashMemory.write, FlashMemory.read, Nat.not_lt_of_gt h, Nat.ne_of_gt h, hp, hm.symm]

/-- The pages of an erased extent read as erased, the others as before. -/
theorem FlashMemory.read_eraseExtent (f : FlashMemory) (e k : Nat) :
    (f.eraseExtent e).read k = if k / Config.extentPages = e then erasedPage else f.read k := by
  induction f with
  | nil => simp [FlashMemory.eraseExtent, FlashMemory.read]
  | cons x f ih =>
    obtain ⟨j, q⟩ := x
    unfold FlashMemory.eraseExtent at ih ⊢
    by_cases hj : j / Config.extentPages = e
    · simp only [List.filter_cons, hj, ne_eq, not_true_eq_false, decide_false, Bool.false_eq_true,
        if_false, ih, FlashMemory.read]
      by_cases hk : k / Config.extentPages = e
      · simp [hk]
      · have : j ≠ k := fun h => hk (h ▸ hj)
        simp [hk, this]
    · simp only [List.filter_cons, ne_eq, hj, not_false_eq_true, decide_true, if_true,
        FlashMemory.read, ih]
      by_cases hk : j = k
      · subst hk; simp [hj]
      · simp [hk]

/-! ## The canonical form -/

/-- Every page a write leaves listed is the page written or was listed before. -/
theorem FlashMemory.mem_write (f : FlashMemory) (k : Nat) (p : PageImage) (x : Nat × PageImage)
    (h : x ∈ f.write k p) : (x = (k, p) ∧ p ≠ erasedPage) ∨ x ∈ f := by
  induction f with
  | nil =>
    by_cases hp : p = erasedPage
    · simp [FlashMemory.write, hp] at h
    · simp only [FlashMemory.write, hp, if_false, List.mem_singleton] at h
      exact .inl ⟨h, hp⟩
  | cons y f ih =>
    obtain ⟨j, q⟩ := y
    unfold FlashMemory.write at h
    split at h
    · rcases List.mem_cons.mp h with h | h
      · exact .inr (by simp [h])
      · rcases ih h with h | h
        · exact .inl h
        · exact .inr (by simp [h])
    · split at h
      · split at h
        · exact .inr (by simp [h])
        · rename_i hp
          rcases List.mem_cons.mp h with h | h
          · exact .inl ⟨h, hp⟩
          · exact .inr (by simp [h])
      · split at h
        · exact .inr h
        · rename_i hp
          rcases List.mem_cons.mp h with h | h
          · exact .inl ⟨h, hp⟩
          · exact .inr h

/-- A write keeps the canonical form. -/
theorem FlashMemory.write_wf (f : FlashMemory) (k : Nat) (p : PageImage) (hf : f.Wf) :
    (f.write k p).Wf := by
  obtain ⟨hs, hn⟩ := hf
  refine ⟨?_, fun x hx => ?_⟩
  · induction f with
    | nil => by_cases hp : p = erasedPage <;> simp [FlashMemory.write, hp]
    | cons y f ih =>
      obtain ⟨j, q⟩ := y
      have hs' := List.pairwise_cons.mp hs
      have ih := ih hs'.2 fun x hx => hn x (by simp [hx])
      unfold FlashMemory.write
      split
      · rename_i hjk
        refine List.pairwise_cons.mpr ⟨fun x hx => ?_, ih⟩
        rcases FlashMemory.mem_write f k p x hx with ⟨h, _⟩ | h
        · subst h; exact hjk
        · exact hs'.1 x h
      · split
        · rename_i hjk
          split
          · exact hs'.2
          · exact List.pairwise_cons.mpr ⟨fun x hx => hjk ▸ hs'.1 x hx, hs'.2⟩
        · split
          · exact hs
          · refine List.pairwise_cons.mpr ⟨fun x hx => ?_, hs⟩
            have hkj : k < j := by omega
            rcases List.mem_cons.mp hx with h | h
            · subst h; exact hkj
            · exact hkj.trans (hs'.1 x h)
  · rcases FlashMemory.mem_write f k p x hx with ⟨h, hp⟩ | h
    · subst h; exact hp
    · exact hn x h

/-- An erase keeps the canonical form. -/
theorem FlashMemory.eraseExtent_wf (f : FlashMemory) (e : Nat) (hf : f.Wf) : (f.eraseExtent e).Wf :=
  ⟨hf.1.sublist List.filter_sublist, fun x hx => hf.2 x (List.mem_of_mem_filter hx)⟩

/-- The memory after power-on from nothing, and at reset, is canonical. -/
theorem State.reset_flash_wf : State.reset.flash.Wf := ⟨.nil, fun _ h => nomatch h⟩

/-! ## The ends of module operations -/

theorem State.scramblePages_flash_wf (n : Nat) : ∀ (s : State) (k : Nat), s.flash.Wf →
    (s.scramblePages k n).flash.Wf := by
  induction n with
  | zero => exact fun _ _ h => h
  | succ n ih => exact fun s k h => ih _ _ (FlashMemory.write_wf _ _ _ h)

/-- A module operation that succeeds keeps the canonical form. -/
theorem State.operationDone_flash_wf (s : State) (op : PortOp) (h : s.flash.Wf) :
    (s.operationDone op).flash.Wf := by
  unfold State.operationDone
  split
  · exact FlashMemory.write_wf _ _ _ h
  · exact FlashMemory.write_wf _ _ _ h
  · exact FlashMemory.eraseExtent_wf _ _ h
  · exact FlashMemory.eraseExtent_wf _ _ h
  · exact FlashMemory.eraseExtent_wf _ _ h
  · exact FlashMemory.write_wf _ _ _ h
  · exact FlashMemory.write_wf _ _ _ h
  all_goals exact h

/-- A module operation that fails or is cut keeps the canonical form. -/
theorem State.operationCut_flash_wf (s : State) (op : PortOp) (h : s.flash.Wf) :
    (s.operationCut op).flash.Wf := by
  unfold State.operationCut
  split
  · exact FlashMemory.write_wf _ _ _ h
  · exact FlashMemory.write_wf _ _ _ h
  · exact State.scramblePages_flash_wf _ _ _ h
  · exact State.scramblePages_flash_wf _ _ _ h
  · exact State.scramblePages_flash_wf _ _ _ h
  · exact FlashMemory.write_wf _ _ _ h
  · exact FlashMemory.write_wf _ _ _ h
  all_goals exact h

/-- The end of a module operation keeps the canonical form. -/
theorem State.operationEnds_flash_wf (s : State) (op : PortOp) (ok : Bool) (h : s.flash.Wf) :
    (s.operationEnds op ok).flash.Wf := by
  cases ok
  · exact s.operationCut_flash_wf op h
  · exact s.operationDone_flash_wf op h

/-! ## What else the ends of module operations touch -/

/-- `t` differs from `s` at most in the modules' contents and the count of free values used. -/
structure FlashSide (s t : State) : Prop where
  pending : t.pending = s.pending
  rate : t.rate = s.rate
  unit : t.unit = s.unit
  link : t.link = s.link
  sources : t.sources = s.sources
  tracks : t.tracks = s.tracks
  coder : t.coder = s.coder
  takes : t.takes = s.takes
  store : t.store = s.store
  readout : t.readout = s.readout
  mix : t.mix = s.mix
  stream : t.stream = s.stream
  meter : t.meter = s.meter
  requests : t.requests = s.requests

theorem FlashSide.refl (s : State) : FlashSide s s := by constructor <;> rfl

theorem State.scramblePages_side (n : Nat) : ∀ (s : State) (k : Nat),
    FlashSide s (s.scramblePages k n) := by
  induction n with
  | zero => exact fun s _ => .refl s
  | succ n ih => exact fun s k => ⟨(ih _ _).1, (ih _ _).2, (ih _ _).3, (ih _ _).4, (ih _ _).5,
      (ih _ _).6, (ih _ _).7, (ih _ _).8, (ih _ _).9, (ih _ _).10, (ih _ _).11, (ih _ _).12,
      (ih _ _).13, (ih _ _).14⟩

theorem State.operationDone_side (s : State) (op : PortOp) : FlashSide s (s.operationDone op) := by
  unfold State.operationDone
  split <;> constructor <;> rfl

theorem State.operationCut_side (s : State) (op : PortOp) : FlashSide s (s.operationCut op) := by
  unfold State.operationCut
  split
  · constructor <;> rfl
  · constructor <;> rfl
  · exact State.scramblePages_side _ _ _
  · exact State.scramblePages_side _ _ _
  · exact State.scramblePages_side _ _ _
  all_goals constructor <;> rfl

theorem State.operationEnds_side (s : State) (op : PortOp) (ok : Bool) :
    FlashSide s (s.operationEnds op ok) := by
  cases ok
  · exact s.operationCut_side op
  · exact s.operationDone_side op

end Sys2Proof.Machine
end

