-- ==== Sys2Proof/Laws/Links.lean ====
section
/-!
SUPPORT. What the Link Unit's shared operations do: the starts of frames, the offers, and the part of
the Link Unit that replies and readout frames leave alone.
-/

namespace Sys2Proof.Machine

/-- `m` differs from `l` at most in what replies and readout frames touch: the reply and readout queues,
the relay and stream queues where a frame of them starts, the frames in transmission toward stage and
rack, the marker and the reply drops. -/
structure LinkSide (l m : LinkUnit) : Prop where
  stageUp : m.stageUp = l.stageUp
  throughUp : m.throughUp = l.throughUp
  programUp : m.programUp = l.programUp
  rxStage : m.rxStage = l.rxStage
  rxThrough : m.rxThrough = l.rxThrough
  rxProgram : m.rxProgram = l.rxProgram
  repeatQ : m.repeatQ = l.repeatQ
  txThrough : m.txThrough = l.txThrough
  bounded : l.Bounded → m.Bounded

theorem LinkSide.refl (l : LinkUnit) : LinkSide l l := by constructor <;> simp

theorem LinkSide.trans {l m n : LinkUnit} (h : LinkSide l m) (k : LinkSide m n) : LinkSide l n := by
  constructor
  · rw [k.stageUp, h.stageUp]
  · rw [k.throughUp, h.throughUp]
  · rw [k.programUp, h.programUp]
  · rw [k.rxStage, h.rxStage]
  · rw [k.rxThrough, h.rxThrough]
  · rw [k.rxProgram, h.rxProgram]
  · rw [k.repeatQ, h.repeatQ]
  · rw [k.txThrough, h.txThrough]
  · exact fun b => k.bounded (h.bounded b)

/-- The stage return arbiter takes at most the oldest frame of one of its two queues. -/
theorem LinkUnit.startStageReturn_side (l : LinkUnit) : LinkSide l l.startStageReturn := by
  unfold LinkUnit.startStageReturn
  split
  · split
    · split
      all_goals
        refine ⟨rfl, rfl, rfl, rfl, rfl, rfl, rfl, rfl, fun b => ?_⟩
        simp_all [LinkUnit.takeReply, LinkUnit.takeRelay, LinkUnit.Bounded]; omega
    · refine ⟨rfl, rfl, rfl, rfl, rfl, rfl, rfl, rfl, fun b => ?_⟩
      simp_all [LinkUnit.takeReply, LinkUnit.Bounded]; omega
    · refine ⟨rfl, rfl, rfl, rfl, rfl, rfl, rfl, rfl, fun b => ?_⟩
      simp_all [LinkUnit.takeRelay, LinkUnit.Bounded]; omega
    · exact .refl l
  · exact .refl l

/-- The program egress arbiter takes at most the oldest frame of one of its three queues. -/
theorem LinkUnit.startProgram_side (l : LinkUnit) : LinkSide l l.startProgram.1 := by
  unfold LinkUnit.startProgram
  split
  · split
    · refine ⟨rfl, rfl, rfl, rfl, rfl, rfl, rfl, rfl, fun b => ?_⟩
      simp_all [LinkUnit.Bounded]; omega
    · refine ⟨rfl, rfl, rfl, rfl, rfl, rfl, rfl, rfl, fun b => ?_⟩
      simp_all [LinkUnit.Bounded]; omega
    · refine ⟨rfl, rfl, rfl, rfl, rfl, rfl, rfl, rfl, fun b => ?_⟩
      simp_all [LinkUnit.Bounded]; omega
    · exact .refl l
  · exact .refl l

/-- The through port's forward direction takes at most the oldest frame of the repeat queue. -/
theorem LinkUnit.startThrough_bounded (l : LinkUnit) (h : l.Bounded) : l.startThrough.Bounded := by
  unfold LinkUnit.startThrough
  split
  · simp_all [LinkUnit.Bounded]; omega
  · exact h

theorem LinkUnit.offerStageReply_side (l : LinkUnit) (f : Frame) : LinkSide l (l.offerStageReply f) := by
  unfold LinkUnit.offerStageReply
  split
  · rename_i h
    refine .trans ?_ (LinkUnit.startStageReturn_side _)
    simp only [Bool.and_eq_true, decide_eq_true_eq] at h
    refine ⟨rfl, rfl, rfl, rfl, rfl, rfl, rfl, rfl, fun b => ?_⟩
    simp only [LinkUnit.Bounded, List.length_append, List.length_singleton] at b ⊢
    omega
  · constructor <;> simp

theorem LinkUnit.offerProgramReply_side (l : LinkUnit) (f : Frame) :
    LinkSide l (l.offerProgramReply f) := by
  unfold LinkUnit.offerProgramReply
  split
  · rename_i h
    refine .trans ?_ (LinkUnit.startProgram_side _)
    simp only [Bool.and_eq_true, decide_eq_true_eq] at h
    refine ⟨rfl, rfl, rfl, rfl, rfl, rfl, rfl, rfl, fun b => ?_⟩
    simp only [LinkUnit.Bounded, List.length_append, List.length_singleton] at b ⊢
    omega
  · constructor <;> simp

/-- A reply offered changes only what replies touch, and keeps every queue's capacity (R10, R188). -/
theorem LinkUnit.offerReply_side (l : LinkUnit) (o : Origin) (f : Frame) :
    LinkSide l (l.offerReply o f) := by
  cases o
  · exact l.offerStageReply_side f
  · exact l.offerProgramReply_side f

/-- A relayed frame keeps every queue's capacity (R7, R10). -/
theorem LinkUnit.offerRelay_bounded (l : LinkUnit) (f : Frame) (h : l.Bounded) :
    (l.offerRelay f).Bounded := by
  unfold LinkUnit.offerRelay
  split
  · rename_i k
    refine (LinkUnit.startStageReturn_side _).bounded ?_
    simp only [Bool.and_eq_true, decide_eq_true_eq] at k
    simp only [LinkUnit.Bounded, List.length_append, List.length_singleton] at h ⊢
    omega
  · simpa [LinkUnit.Bounded] using h

/-- A repeated frame keeps every queue's capacity (R6, R10). -/
theorem LinkUnit.offerRepeat_bounded (l : LinkUnit) (f : Frame) (h : l.Bounded) :
    (l.offerRepeat f).Bounded := by
  unfold LinkUnit.offerRepeat
  split
  · split
    · refine LinkUnit.startThrough_bounded _ ?_
      simp only [LinkUnit.Bounded, List.length_append, List.length_singleton] at h ⊢
      omega
    · simpa [LinkUnit.Bounded] using h
  · exact h

/-- A stream frame keeps every queue's capacity (R10, R165). -/
theorem LinkUnit.offerStream_side (l : LinkUnit) (f : Frame) : LinkSide l (l.offerStream f).1 := by
  unfold LinkUnit.offerStream
  split
  · rename_i h
    refine .trans ?_ (LinkUnit.startProgram_side _)
    simp only [Bool.and_eq_true, decide_eq_true_eq] at h
    refine ⟨rfl, rfl, rfl, rfl, rfl, rfl, rfl, rfl, fun b => ?_⟩
    simp only [LinkUnit.Bounded, List.length_append, List.length_singleton] at b ⊢
    omega
  · exact .refl l

/-- A stream frame is accepted exactly where its queue has room and its link is UP (R10). -/
theorem LinkUnit.offerStream_accepted (l : LinkUnit) (f : Frame) :
    (l.offerStream f).2 = (l.programUp && decide (l.streamQ.length < Config.streamCap)) := by
  unfold LinkUnit.offerStream
  split <;> simp_all

end Sys2Proof.Machine
end

