-- ==== Sys2Proof/WellFormed.lean ====
section
/-!
DEFINITION. The commands that can occur: operands that name something the part has, and words that fit
the event they come with. An ill-formed command of a source or of a word changes nothing (assumption
log 1); the words of an ill-formed answer are cut or padded to a page (assumption log 22).
-/

namespace Sys2Proof

open Sys2Proof.Machine

/-- A fetch's answer carries the words of one page (R103). -/
def Answer.wellFormed : Answer → Bool
  | .failed | .asStored => true
  | .reads d sp => decide (d.length = Config.pageWords) && decide (sp.length = Config.spareWords)

/-- Whether a command can occur. -/
def Instr.wellFormed : Instr → Bool
  | .sourceLapse n | .sourceAcquired n => decide (n < Config.stageSources)
  | .strayWord _ w => !marked w
  | .framingError _ w => marked w && !lengthGood w
  | .frameHeaderTaken _ w => marked w && lengthGood w
  | .verifyFetchEnd a _ | .catalogVerifyEnd a _ | .mountCatalogFetchEnd a _ | .mountSpareFetchEnd a _
  | .recoveryFetchEnd a _ | .readoutFetchEnd a _ => a.wellFormed
  | .powerOn .. | .rowEvent | .generatorLevelStep | .holdCountdownExpiry | .mixBoundary
  | .archiveBoundary | .indexExhaustion | .windowEnd | .stageFrameComplete _
  | .throughReturnFrameComplete _ | .programReturnFrameComplete _ | .frameAbandoned _
  | .throughFrameEnd | .stageReturnFrameEnd | .programForwardFrameEnd | .stageLinkDown
  | .programLinkDown | .throughPortDown | .linkUp _ | .trackSet | .trackRead | .trimCorrect
  | .sourceConfig | .sourceClear | .sourceRead | .genLoad | .mixSet | .mixTake | .mixRead
  | .streamSet | .streamRead | .meterConfig | .meterRead | .takeOpen | .takePause | .takeResume
  | .takeClose | .takeProtect | .takeUnprotect | .takeDelete | .takeList | .storeFormat
  | .storeConfig | .storeStatus | .readTake | .readStop | .unitStatus | .query | .reserve
  | .release | .unitReset | .archiveProgramEnd _ _ | .badMarkWriteEnd _ _ | .catalogProgramEnd _ _
  | .catalogEraseEnd _ _ | .eraseEnd _ _ | .formatEraseEnd _ _ | .timeLimitExpiry
  | .bodyWordTaken _ _ => true

end Sys2Proof
end

