-- ==== Sys2Proof/Laws/PerInstr.lean ====
section
/-!
SUPPORT. One lemma for each command: when it is well formed. The statement names the ranges themselves,
so it says of the checks of WellFormed.lean what they test.
-/

namespace Sys2Proof.Laws

open Sys2Proof.Machine

/-- A command is well formed exactly when its source is one of the sixteen, its word is of the kind its
event is for (R3), and the words its answer gives are those of one page (R103). -/
def WellFormedRange.Statement (i : Instr) : Prop :=
  i.wellFormed = true ↔ match i with
    | .sourceLapse n | .sourceAcquired n => n < 16
    | .strayWord _ w => headerMark w ≠ 0xB4
    | .framingError _ w => headerMark w = 0xB4 ∧ (headerLength w < 3 ∨ 64 < headerLength w)
    | .frameHeaderTaken _ w => headerMark w = 0xB4 ∧ 3 ≤ headerLength w ∧ headerLength w ≤ 64
    | .verifyFetchEnd a _ | .catalogVerifyEnd a _ | .mountCatalogFetchEnd a _ | .mountSpareFetchEnd a _
    | .recoveryFetchEnd a _ | .readoutFetchEnd a _ =>
      ∀ d sp, a = .reads d sp → d.length = 4096 ∧ sp.length = 16
    | _ => True

/-- An answer is well formed exactly when the words it gives are those of one page (R103). -/
theorem answer_wellFormed (a : Answer) :
    a.wellFormed = true ↔ ∀ d sp, a = .reads d sp → d.length = 4096 ∧ sp.length = 16 := by
  cases a with
  | failed | asStored => simp [Answer.wellFormed]
  | reads d sp =>
    have h : (Answer.reads d sp).wellFormed = true ↔ d.length = 4096 ∧ sp.length = 16 := by
      simp only [Answer.wellFormed, Bool.and_eq_true, decide_eq_true_eq]
      exact Iff.rfl
    rw [h]
    exact ⟨fun h _ _ e => by cases e; exact h, fun h => h d sp rfl⟩

/-- Whether a word has the mark. -/
theorem marked_iff (w : Word) : marked w = true ↔ headerMark w = 0xB4 := by
  simp only [marked, decide_eq_true_eq]
  exact Iff.rfl

theorem WellFormedRange.powerOn (rh : Bool) (u : BitVec 5) (a b c d e f g : Bool) :
    WellFormedRange.Statement (.powerOn rh u a b c d e f g) := iff_of_true rfl trivial
theorem WellFormedRange.rowEvent :
    WellFormedRange.Statement .rowEvent := iff_of_true rfl trivial
theorem WellFormedRange.sourceLapse (n : Nat) :
    WellFormedRange.Statement (.sourceLapse n) := by
  exact decide_eq_true_iff (p := n < 16)
theorem WellFormedRange.sourceAcquired (n : Nat) :
    WellFormedRange.Statement (.sourceAcquired n) := by
  exact decide_eq_true_iff (p := n < 16)
theorem WellFormedRange.generatorLevelStep :
    WellFormedRange.Statement .generatorLevelStep := iff_of_true rfl trivial
theorem WellFormedRange.holdCountdownExpiry :
    WellFormedRange.Statement .holdCountdownExpiry := iff_of_true rfl trivial
theorem WellFormedRange.mixBoundary :
    WellFormedRange.Statement .mixBoundary := iff_of_true rfl trivial
theorem WellFormedRange.archiveBoundary :
    WellFormedRange.Statement .archiveBoundary := iff_of_true rfl trivial
theorem WellFormedRange.indexExhaustion :
    WellFormedRange.Statement .indexExhaustion := iff_of_true rfl trivial
theorem WellFormedRange.windowEnd :
    WellFormedRange.Statement .windowEnd := iff_of_true rfl trivial
theorem WellFormedRange.stageFrameComplete (w : Word) :
    WellFormedRange.Statement (.stageFrameComplete w) := iff_of_true rfl trivial
theorem WellFormedRange.throughReturnFrameComplete (w : Word) :
    WellFormedRange.Statement (.throughReturnFrameComplete w) := iff_of_true rfl trivial
theorem WellFormedRange.programReturnFrameComplete (w : Word) :
    WellFormedRange.Statement (.programReturnFrameComplete w) := iff_of_true rfl trivial
theorem WellFormedRange.strayWord (d : Rx) (w : Word) :
    WellFormedRange.Statement (.strayWord d w) := by
  simp only [WellFormedRange.Statement, Instr.wellFormed, Bool.not_eq_true', ← Bool.not_eq_true,
    marked_iff, ne_eq]
theorem WellFormedRange.framingError (d : Rx) (w : Word) :
    WellFormedRange.Statement (.framingError d w) := by
  simp only [WellFormedRange.Statement, Instr.wellFormed, Bool.and_eq_true, marked_iff]
  simp [lengthGood]
theorem WellFormedRange.frameAbandoned (d : Rx) :
    WellFormedRange.Statement (.frameAbandoned d) := iff_of_true rfl trivial
theorem WellFormedRange.throughFrameEnd :
    WellFormedRange.Statement .throughFrameEnd := iff_of_true rfl trivial
theorem WellFormedRange.stageReturnFrameEnd :
    WellFormedRange.Statement .stageReturnFrameEnd := iff_of_true rfl trivial
theorem WellFormedRange.programForwardFrameEnd :
    WellFormedRange.Statement .programForwardFrameEnd := iff_of_true rfl trivial
theorem WellFormedRange.stageLinkDown :
    WellFormedRange.Statement .stageLinkDown := iff_of_true rfl trivial
theorem WellFormedRange.programLinkDown :
    WellFormedRange.Statement .programLinkDown := iff_of_true rfl trivial
theorem WellFormedRange.throughPortDown :
    WellFormedRange.Statement .throughPortDown := iff_of_true rfl trivial
theorem WellFormedRange.linkUp (l : Link) :
    WellFormedRange.Statement (.linkUp l) := iff_of_true rfl trivial
theorem WellFormedRange.trackSet :
    WellFormedRange.Statement .trackSet := iff_of_true rfl trivial
theorem WellFormedRange.trackRead :
    WellFormedRange.Statement .trackRead := iff_of_true rfl trivial
theorem WellFormedRange.trimCorrect :
    WellFormedRange.Statement .trimCorrect := iff_of_true rfl trivial
theorem WellFormedRange.sourceConfig :
    WellFormedRange.Statement .sourceConfig := iff_of_true rfl trivial
theorem WellFormedRange.sourceClear :
    WellFormedRange.Statement .sourceClear := iff_of_true rfl trivial
theorem WellFormedRange.sourceRead :
    WellFormedRange.Statement .sourceRead := iff_of_true rfl trivial
theorem WellFormedRange.genLoad :
    WellFormedRange.Statement .genLoad := iff_of_true rfl trivial
theorem WellFormedRange.mixSet :
    WellFormedRange.Statement .mixSet := iff_of_true rfl trivial
theorem WellFormedRange.mixTake :
    WellFormedRange.Statement .mixTake := iff_of_true rfl trivial
theorem WellFormedRange.mixRead :
    WellFormedRange.Statement .mixRead := iff_of_true rfl trivial
theorem WellFormedRange.streamSet :
    WellFormedRange.Statement .streamSet := iff_of_true rfl trivial
theorem WellFormedRange.streamRead :
    WellFormedRange.Statement .streamRead := iff_of_true rfl trivial
theorem WellFormedRange.meterConfig :
    WellFormedRange.Statement .meterConfig := iff_of_true rfl trivial
theorem WellFormedRange.meterRead :
    WellFormedRange.Statement .meterRead := iff_of_true rfl trivial
theorem WellFormedRange.takeOpen :
    WellFormedRange.Statement .takeOpen := iff_of_true rfl trivial
theorem WellFormedRange.takePause :
    WellFormedRange.Statement .takePause := iff_of_true rfl trivial
theorem WellFormedRange.takeResume :
    WellFormedRange.Statement .takeResume := iff_of_true rfl trivial
theorem WellFormedRange.takeClose :
    WellFormedRange.Statement .takeClose := iff_of_true rfl trivial
theorem WellFormedRange.takeProtect :
    WellFormedRange.Statement .takeProtect := iff_of_true rfl trivial
theorem WellFormedRange.takeUnprotect :
    WellFormedRange.Statement .takeUnprotect := iff_of_true rfl trivial
theorem WellFormedRange.takeDelete :
    WellFormedRange.Statement .takeDelete := iff_of_true rfl trivial
theorem WellFormedRange.takeList :
    WellFormedRange.Statement .takeList := iff_of_true rfl trivial
theorem WellFormedRange.storeFormat :
    WellFormedRange.Statement .storeFormat := iff_of_true rfl trivial
theorem WellFormedRange.storeConfig :
    WellFormedRange.Statement .storeConfig := iff_of_true rfl trivial
theorem WellFormedRange.storeStatus :
    WellFormedRange.Statement .storeStatus := iff_of_true rfl trivial
theorem WellFormedRange.readTake :
    WellFormedRange.Statement .readTake := iff_of_true rfl trivial
theorem WellFormedRange.readStop :
    WellFormedRange.Statement .readStop := iff_of_true rfl trivial
theorem WellFormedRange.unitStatus :
    WellFormedRange.Statement .unitStatus := iff_of_true rfl trivial
theorem WellFormedRange.query :
    WellFormedRange.Statement .query := iff_of_true rfl trivial
theorem WellFormedRange.reserve :
    WellFormedRange.Statement .reserve := iff_of_true rfl trivial
theorem WellFormedRange.release :
    WellFormedRange.Statement .release := iff_of_true rfl trivial
theorem WellFormedRange.unitReset :
    WellFormedRange.Statement .unitReset := iff_of_true rfl trivial
theorem WellFormedRange.archiveProgramEnd (o g : Bool) :
    WellFormedRange.Statement (.archiveProgramEnd o g) := iff_of_true rfl trivial
theorem WellFormedRange.verifyFetchEnd (a : Answer) (g : Bool) :
    WellFormedRange.Statement (.verifyFetchEnd a g) := answer_wellFormed a
theorem WellFormedRange.badMarkWriteEnd (o g : Bool) :
    WellFormedRange.Statement (.badMarkWriteEnd o g) := iff_of_true rfl trivial
theorem WellFormedRange.catalogProgramEnd (o g : Bool) :
    WellFormedRange.Statement (.catalogProgramEnd o g) := iff_of_true rfl trivial
theorem WellFormedRange.catalogVerifyEnd (a : Answer) (g : Bool) :
    WellFormedRange.Statement (.catalogVerifyEnd a g) := answer_wellFormed a
theorem WellFormedRange.catalogEraseEnd (o g : Bool) :
    WellFormedRange.Statement (.catalogEraseEnd o g) := iff_of_true rfl trivial
theorem WellFormedRange.eraseEnd (o g : Bool) :
    WellFormedRange.Statement (.eraseEnd o g) := iff_of_true rfl trivial
theorem WellFormedRange.formatEraseEnd (o g : Bool) :
    WellFormedRange.Statement (.formatEraseEnd o g) := iff_of_true rfl trivial
theorem WellFormedRange.mountCatalogFetchEnd (a : Answer) (g : Bool) :
    WellFormedRange.Statement (.mountCatalogFetchEnd a g) := answer_wellFormed a
theorem WellFormedRange.mountSpareFetchEnd (a : Answer) (g : Bool) :
    WellFormedRange.Statement (.mountSpareFetchEnd a g) := answer_wellFormed a
theorem WellFormedRange.recoveryFetchEnd (a : Answer) (g : Bool) :
    WellFormedRange.Statement (.recoveryFetchEnd a g) := answer_wellFormed a
theorem WellFormedRange.timeLimitExpiry :
    WellFormedRange.Statement .timeLimitExpiry := iff_of_true rfl trivial
theorem WellFormedRange.readoutFetchEnd (a : Answer) (g : Bool) :
    WellFormedRange.Statement (.readoutFetchEnd a g) := answer_wellFormed a
theorem WellFormedRange.frameHeaderTaken (d : Rx) (w : Word) :
    WellFormedRange.Statement (.frameHeaderTaken d w) := by
  simp only [WellFormedRange.Statement, Instr.wellFormed, Bool.and_eq_true, marked_iff]
  simp [lengthGood]
theorem WellFormedRange.bodyWordTaken (d : Rx) (w : Word) :
    WellFormedRange.Statement (.bodyWordTaken d w) := iff_of_true rfl trivial

end Sys2Proof.Laws
end

