-- ==== Sys2Proof/Laws/StoreSide.lean ====
section
/-!
SUPPORT. What the work of the store, the takes, the readout and the completion of requests can touch:
`StoreSide`, one lemma for each shared operation, cited in place of its definition.
-/

namespace Sys2Proof.Machine

/-- `t` differs from `s` at most in what the store, the takes, the readout and the completion of requests
touch: the waiting commands, the straps, sources, tracks, module contents, mix, stream and meters are as
before; so are reservations, arrival numbers, settings and block records; requests have at most left the
queue, words the packet queue; the Link Unit has changed as `LinkSide` says. -/
structure StoreSide (s t : State) : Prop where
  pending : t.pending = s.pending
  freeCount : t.freeCount = s.freeCount
  rate : t.rate = s.rate
  unit : t.unit = s.unit
  sources : t.sources = s.sources
  tracks : t.tracks = s.tracks
  flash : t.flash = s.flash
  mix : t.mix = s.mix
  stream : t.stream = s.stream
  meter : t.meter = s.meter
  blocks : t.coder.blocks = s.coder.blocks
  reserveConfig : t.requests.reserveConfig = s.requests.reserveConfig
  reserveStore : t.requests.reserveStore = s.requests.reserveStore
  nextArrival : t.requests.nextArrival = s.requests.nextArrival
  entries : t.requests.entries.Sublist s.requests.entries
  link : LinkSide s.link t.link
  queue : t.store.queue.length ≤ s.store.queue.length
  verify : t.store.verify = s.store.verify
  backlog : t.store.backlog = s.store.backlog
  holdTime : t.store.holdTime = s.store.holdTime
  lowMark : t.store.lowMark = s.store.lowMark

namespace StoreSide

theorem refl (s : State) : StoreSide s s := by
  constructor <;> first | rfl | exact .refl _

theorem trans {s t u : State} (h : StoreSide s t) (k : StoreSide t u) : StoreSide s u where
  pending := k.pending.trans h.pending
  freeCount := k.freeCount.trans h.freeCount
  rate := k.rate.trans h.rate
  unit := k.unit.trans h.unit
  sources := k.sources.trans h.sources
  tracks := k.tracks.trans h.tracks
  flash := k.flash.trans h.flash
  mix := k.mix.trans h.mix
  stream := k.stream.trans h.stream
  meter := k.meter.trans h.meter
  blocks := k.blocks.trans h.blocks
  reserveConfig := k.reserveConfig.trans h.reserveConfig
  reserveStore := k.reserveStore.trans h.reserveStore
  nextArrival := k.nextArrival.trans h.nextArrival
  entries := k.entries.trans h.entries
  link := h.link.trans k.link
  queue := k.queue.trans h.queue
  verify := k.verify.trans h.verify
  backlog := k.backlog.trans h.backlog
  holdTime := k.holdTime.trans h.holdTime
  lowMark := k.lowMark.trans h.lowMark

/-- A change of the takes alone. -/
theorem ofTakes (s : State) (c : TakeController) : StoreSide s { s with takes := c } := by
  constructor <;> first | rfl | exact .refl _

/-- A change of the readout alone. -/
theorem ofReadout (s : State) (r : ReadoutEngine) : StoreSide s { s with readout := r } := by
  constructor <;> first | rfl | exact .refl _

/-- A change of the store alone that keeps the settings and adds no word to the packet queue. -/
theorem ofStore (s : State) (c : StoreController) (hq : c.queue.length ≤ s.store.queue.length)
    (hv : c.verify = s.store.verify) (hb : c.backlog = s.store.backlog)
    (hh : c.holdTime = s.store.holdTime) (hl : c.lowMark = s.store.lowMark) :
    StoreSide s { s with store := c } := by
  constructor <;> first | rfl | assumption | exact .refl _

/-- A change of the Link Unit alone. -/
theorem ofLink (s : State) (l : LinkUnit) (h : LinkSide s.link l) : StoreSide s { s with link := l } := by
  constructor <;> first | rfl | exact h

/-- A lawful request queue stays lawful. -/
theorem lawful {s t : State} (h : StoreSide s t) (q : s.requests.Lawful) : t.requests.Lawful :=
  ⟨h.entries.length_le.trans q.1, q.2.1.sublist h.entries,
    fun e he => h.nextArrival ▸ q.2.2 e (h.entries.subset he)⟩

/-- The store's bounds are kept. -/
theorem bounded {s t : State} (h : StoreSide s t) (b : s.store.Bounded) : t.store.Bounded := by
  obtain ⟨h1, h2, h3, h4, h5, h6⟩ := b
  exact ⟨h.queue.trans h1, h.backlog ▸ h2, h.backlog ▸ h3, h.holdTime ▸ h4, h.holdTime ▸ h5,
    h.lowMark ▸ h6⟩

/-- A fold of operations, each store-sided. -/
theorem foldl {α : Type} (f : State → α → State) (hf : ∀ s a, StoreSide s (f s a)) (xs : List α) :
    ∀ s, StoreSide s (xs.foldl f s) := by
  induction xs with
  | nil => exact refl
  | cons a as ih => exact fun s => (hf s a).trans (ih _)

end StoreSide

open StoreSide

/-! ## Records, port, extents -/

theorem State.setTakes_side (s : State) (c : TakeController) : StoreSide s (s.setTakes c) := ofTakes s c
theorem State.mapTake_side (s : State) (n : Nat) (f : TakeRecord → TakeRecord) :
    StoreSide s (s.mapTake n f) := ofTakes s _
theorem State.dropTake_side (s : State) (n : Nat) : StoreSide s (s.dropTake n) := ofTakes s _
theorem State.disarm_side (s : State) : StoreSide s s.disarm := ofTakes s _
theorem State.setReadout_side (s : State) (r : ReadoutEngine) : StoreSide s (s.setReadout r) :=
  ofReadout s r
theorem State.submit_side (s : State) (op : PortOp) : StoreSide s (s.submit op) :=
  ofStore s _ le_rfl rfl rfl rfl rfl
theorem State.setExtent_side (s : State) (e : Nat) (x : Extent) : StoreSide s (s.setExtent e x) :=
  ofStore s _ le_rfl rfl rfl rfl rfl
theorem State.mapExtents_side (s : State) (f : Extent → Extent) : StoreSide s (s.mapExtents f) :=
  ofStore s _ le_rfl rfl rfl rfl rfl
theorem State.mountStep_side (s : State) (m : MountStep) : StoreSide s (s.mountStep m) :=
  ofStore s _ le_rfl rfl rfl rfl rfl
theorem State.stall_side (s : State) (w : WriteState) : StoreSide s (s.stall w) :=
  ofStore s _ le_rfl rfl rfl rfl rfl
theorem State.countEraseFailure_side (s : State) : StoreSide s s.countEraseFailure :=
  ofStore s _ le_rfl rfl rfl rfl rfl
theorem State.countProgramFailure_side (s : State) : StoreSide s s.countProgramFailure :=
  ofStore s _ le_rfl rfl rfl rfl rfl
theorem State.countMismatch_side (s : State) : StoreSide s s.countMismatch :=
  ofStore s _ le_rfl rfl rfl rfl rfl
theorem State.moduleFault_side (s : State) (m : Nat) : StoreSide s (s.moduleFault m) :=
  ofStore s _ le_rfl rfl rfl rfl rfl
theorem State.extentBad_side (s : State) (e : Nat) (k : Bool) : StoreSide s (s.extentBad e k) :=
  ofStore s _ le_rfl rfl rfl rfl rfl
theorem State.firstAllocation_side (s : State) (n e : Nat) : StoreSide s (s.firstAllocation n e) :=
  ofStore s _ le_rfl rfl rfl rfl rfl

theorem State.grant_side (s : State) : StoreSide s s.grant := by
  unfold State.grant
  split
  · exact ofStore s _ le_rfl rfl rfl rfl rfl
  · exact .refl s

theorem State.eraser_side (s : State) : StoreSide s s.eraser := by
  unfold State.eraser
  split
  · exact s.submit_side _
  · exact .refl s

theorem State.settlePort_side (s : State) : StoreSide s s.settlePort :=
  s.eraser_side.trans s.eraser.grant_side

theorem State.freePort_side (s : State) (g : Bool) : StoreSide s (s.freePort g) := by
  have h := ofStore s { s.store with inFlight := none } le_rfl rfl rfl rfl rfl
  unfold State.freePort
  dsimp only
  split
  · exact h.trans (State.grant_side _)
  · exact h

/-! ## Completion -/

theorem State.dropEntry_side (s : State) (a : Nat) : StoreSide s (s.dropEntry a) := by
  constructor <;> first | rfl | exact LinkSide.refl _ | exact List.filter_sublist

theorem State.countBroadcast_side (s : State) : StoreSide s s.countBroadcast := by
  constructor <;> first | rfl | exact .refl _

theorem State.reply_side (s : State) (o : Origin) (a b c : Nat) (st : Status) (ws : List Word) :
    StoreSide s (s.reply o a b c st ws) := ofLink s _ (LinkUnit.offerReply_side ..)

theorem State.complete_side (s : State) (a : Nat) (st : Status) (ws : List Word) :
    StoreSide s (s.complete a st ws) := by
  unfold State.complete
  split
  · exact .refl s
  · dsimp only
    split
    · split
      · exact s.dropEntry_side a
      · exact (s.dropEntry_side a).trans (State.countBroadcast_side _)
    · exact (s.dropEntry_side a).trans (State.reply_side ..)

theorem StoreSide.ofStoreOp (s : State) (op : Option StoreOp) :
    StoreSide s { s with requests := { s.requests with storeOp := op } } := by
  constructor <;> first | rfl | exact .refl _

theorem State.completeStoreOp_side (s : State) (st : Status) (ws : List Word) :
    StoreSide s (s.completeStoreOp st ws) := by
  unfold State.completeStoreOp
  split
  · exact .refl s
  · exact (StoreSide.ofStoreOp s none).trans (State.complete_side ..)

theorem State.holdSlot_side (s : State) (e : Entry) (k : StoreOpKind) : StoreSide s (s.holdSlot e k) :=
  StoreSide.ofStoreOp s _

/-! ## Readout -/

theorem State.readoutEnd_side (s : State) (st : Status) : StoreSide s (s.readoutEnd st) := by
  refine .trans ?_ (State.complete_side _ _ _ _)
  constructor <;> try first | rfl | exact .refl _
  split
  · exact .refl _
  · exact ⟨rfl, rfl, rfl, rfl, rfl, rfl, rfl, rfl,
      fun b => ⟨b.1, b.2.1, b.2.2.1, b.2.2.2.1, b.2.2.2.2.1, Nat.zero_le _⟩⟩

theorem State.readoutFetch_side (s : State) : StoreSide s s.readoutFetch := by
  unfold State.readoutFetch
  split
  · split
    · exact (s.setReadout_side _).trans (State.submit_side _ _)
    · exact s.readoutEnd_side _
  · exact s.readoutEnd_side _

theorem State.backlogTest_side (s : State) : StoreSide s s.backlogTest := by
  unfold State.backlogTest
  split
  · exact s.readoutFetch_side
  · exact s.setReadout_side _

theorem State.pageStep_side (s : State) : StoreSide s s.pageStep := by
  unfold State.pageStep
  dsimp only
  split
  · exact s.backlogTest_side
  · exact s.setReadout_side _

theorem State.readoutBuild_side (s : State) : StoreSide s s.readoutBuild := by
  unfold State.readoutBuild
  split
  · exact s.setReadout_side _
  · exact s.setReadout_side _
  · exact .refl s

theorem State.departure_side (s : State) : StoreSide s s.departure := by
  unfold State.departure
  split
  · exact .refl s
  · dsimp only
    split
    · exact (s.setReadout_side _).trans (State.readoutEnd_side _ _)
    · exact s.setReadout_side _

theorem State.egress_side (s : State) : StoreSide s s.egress := by
  have h := ofLink s _ s.link.startProgram_side
  unfold State.egress
  dsimp only
  split
  · exact h.trans (State.departure_side _)
  · exact h

theorem State.readoutJoin_side (s : State) (b : BuiltFrame) (h : s.link.readoutRoom) :
    StoreSide s (s.readoutJoin b) := by
  constructor <;> try first | rfl | exact .refl _
  refine ⟨rfl, rfl, rfl, rfl, rfl, rfl, rfl, rfl, fun k => ?_⟩
  simp only [LinkUnit.readoutRoom, Bool.and_eq_true, decide_eq_true_eq] at h
  simp only [State.readoutJoin, LinkUnit.Bounded, List.length_append, List.length_singleton] at k ⊢
  omega

theorem State.readoutAccept_side (s : State) (b : BuiltFrame) (h : s.link.readoutRoom) :
    StoreSide s (s.readoutAccept b) := by
  have k := (s.readoutJoin_side b h).trans (State.egress_side _)
  unfold State.readoutAccept
  dsimp only
  split
  · exact k.trans (State.pageStep_side _)
  · exact k

theorem State.readoutAdvance_side (n : Nat) : ∀ s : State, StoreSide s (s.readoutAdvance n) := by
  induction n with
  | zero => exact fun s => .refl s
  | succ n ih =>
    intro s
    have h := s.readoutBuild_side
    rw [State.readoutAdvance]
    split
    · dsimp only
      split
      · split
        · rename_i b _ hr
          exact h.trans ((State.readoutAccept_side _ b hr).trans (ih _))
        · exact h
      · exact h
    · dsimp only
      split
      · split
        · rename_i b _ hr
          exact h.trans ((State.readoutAccept_side _ b hr).trans (ih _))
        · exact h
      · exact h
    · exact .refl s

theorem State.pageStepAndOffer_side (s : State) : StoreSide s s.pageStepAndOffer :=
  s.pageStep_side.trans (State.readoutAdvance_side _ _)

theorem State.readoutFetched_side (s : State) (a : Option PageImage) : StoreSide s (s.readoutFetched a) := by
  unfold State.readoutFetched
  split
  · exact s.readoutEnd_side _
  · exact (s.setReadout_side _).trans (State.readoutAdvance_side _ _)

theorem State.readoutVerifyNotice_side (s : State) : StoreSide s s.readoutVerifyNotice := by
  unfold State.readoutVerifyNotice
  split
  · exact s.backlogTest_side
  · exact .refl s

theorem State.readoutClosedNotice_side (s : State) (n : Nat) : StoreSide s (s.readoutClosedNotice n) := by
  unfold State.readoutClosedNotice
  split
  · split
    · exact s.backlogTest_side
    · exact (s.setReadout_side _).trans (State.readoutAdvance_side _ _)
  · exact .refl s

theorem State.readoutAbort_side (s : State) : StoreSide s s.readoutAbort := by
  unfold State.readoutAbort
  split
  · exact s.readoutEnd_side _
  · exact .refl s

/-! ## Catalog -/

theorem State.catalogAttempt_side (s : State) (w : CatalogWrite) : StoreSide s (s.catalogAttempt w).1 := by
  unfold State.catalogAttempt
  dsimp only
  split
  · exact s.setTakes_side _
  · split
    · exact s.setTakes_side _
    · split
      · exact (s.setTakes_side _).trans (State.submit_side _ _)
      · exact (s.setTakes_side _).trans (State.submit_side _ _)

theorem State.openFailed_side (s : State) (n : Nat) : StoreSide s (s.openFailed n) :=
  .trans (.trans ((s.dropTake_side n).trans (State.mapExtents_side _ _))
    (ofStore _ { ((s.dropTake n).mapExtents fun x => x.handBack n).store with writeState := none }
      le_rfl rfl rfl rfl rfl)) (State.completeStoreOp_side _ _ _)

theorem State.deleteEnd_side (s : State) (n : Nat) (ok : Bool) : StoreSide s (s.deleteEnd n ok) := by
  unfold State.deleteEnd
  split
  · exact ((s.dropTake_side n).trans (State.mapExtents_side _ _)).trans (State.completeStoreOp_side _ _ _)
  · exact (s.mapTake_side n _).trans (State.completeStoreOp_side _ _ _)

theorem State.formatWritten_side (s : State) (ok : Bool) : StoreSide s (s.formatWritten ok) := by
  have h := ofStore s { s.store with format := none } le_rfl rfl rfl rfl rfl
  unfold State.formatWritten
  dsimp only
  split
  · refine .trans (.trans h ?_) (State.completeStoreOp_side _ _ _)
    exact ofStore _ _ le_rfl rfl rfl rfl rfl
  · exact h.trans (State.completeStoreOp_side _ _ _)

theorem State.mountEnd_side (s : State) : StoreSide s s.mountEnd := ofStore s _ le_rfl rfl rfl rfl rfl

theorem State.storeOpWritten_side (s : State) (ok : Bool) : StoreSide s (s.storeOpWritten ok) := by
  unfold State.storeOpWritten
  split
  · exact .refl s
  · split
    · split
      · exact s.setTakes_side _
      · exact s.openFailed_side _
    · exact s.completeStoreOp_side _ _
    · exact s.completeStoreOp_side _ _
    · exact s.completeStoreOp_side _ _
    · split
      · exact s.completeStoreOp_side _ _
      · exact (s.mapTake_side _ _).trans (State.completeStoreOp_side _ _ _)
    · exact s.deleteEnd_side _ _
    · exact s.formatWritten_side _

theorem State.waiterTold_side (ok : Bool) (s : State) (w : Waiter) : StoreSide s (s.waiterTold ok w) := by
  cases w
  · exact s.storeOpWritten_side ok
  · exact .refl s
  · exact s.mountEnd_side

theorem State.writeOutcome_side (s : State) (ok : Bool) : StoreSide s (s.writeOutcome ok) := by
  unfold State.writeOutcome
  split
  · exact .refl s
  · exact (s.setTakes_side _).trans (StoreSide.foldl _ (State.waiterTold_side ok) _ _)

theorem State.writeStart_side (s : State) (ws : List Waiter) : StoreSide s (s.writeStart ws) := by
  have h := s.catalogAttempt_side ⟨s.takes.image, 0, ws⟩
  unfold State.writeStart
  dsimp only
  split
  · exact h
  · exact h.trans (State.writeOutcome_side _ _)

theorem State.writeEnd_side (s : State) (ok : Bool) : StoreSide s (s.writeEnd ok) := by
  have h := s.writeOutcome_side ok
  unfold State.writeEnd
  dsimp only
  split
  · exact h
  · exact h.trans ((State.setTakes_side _ _).trans (State.writeStart_side _ _))

theorem State.askCatalog_side (s : State) (w : Waiter) : StoreSide s (s.askCatalog w) := by
  unfold State.askCatalog
  split
  · exact s.writeStart_side _
  · exact s.setTakes_side _

theorem State.attemptFailed_side (s : State) : StoreSide s s.attemptFailed := by
  unfold State.attemptFailed
  split
  · exact .refl s
  · split
    · exact s.writeEnd_side _
    · rename_i w _ _
      have h := s.catalogAttempt_side { w with failed := w.failed + 1 }
      dsimp only
      split
      · exact h
      · exact h.trans (State.writeEnd_side _ _)

theorem State.catalogErased_side (s : State) (e : Nat) : StoreSide s (s.catalogErased e) := by
  unfold State.catalogErased
  split
  · exact .refl s
  · rename_i w _
    have h := (s.setTakes_side { s.takes with catCurrent := e, catNext := 0 }).trans
      (State.catalogAttempt_side _ w)
    dsimp only
    split
    · exact h
    · exact h.trans (State.writeEnd_side _ _)

/-! ## Staging and drain -/

/-- Words only leave the packet queue when a page is filled, and the settings stay. -/
theorem StoreController.feed_side (c : StoreController) (w : WriteState) (n : Nat) (b : Bool) :
    (c.feed w n b).queue.length ≤ c.queue.length ∧ (c.feed w n b).verify = c.verify
      ∧ (c.feed w n b).backlog = c.backlog ∧ (c.feed w n b).holdTime = c.holdTime
      ∧ (c.feed w n b).lowMark = c.lowMark := by
  unfold StoreController.feed StagingPage.fill
  dsimp only
  split
  · simp
  split
  · simp
  split
  · simp
  split
  · simp
  split
  · simp
  · simp

theorem State.allocate_side (s : State) (n f : Nat) (w : WriteState) :
    ∀ x ∈ s.allocate n f w, StoreSide s x.2 := by
  intro x hx
  unfold State.allocate at hx
  split at hx
  · cases hx
  · cases hx
    exact ofStore s _ le_rfl rfl rfl rfl rfl

theorem State.target_side (s : State) (p : StagingPage) (w : WriteState) :
    ∀ x ∈ s.target p w, StoreSide s x.2 := by
  intro x hx
  unfold State.target at hx
  split at hx
  · cases hx
    exact ofStore s _ le_rfl rfl rfl rfl rfl
  · split at hx
    · rename_i e t he
      cases hx
      have h := s.allocate_side _ _ _ _ (Option.mem_def.mpr he)
      dsimp only
      split
      · exact h.trans (ofStore _ _ le_rfl rfl rfl rfl rfl)
      · exact h
    · cases hx

theorem State.submitPage_side (s : State) (p : StagingPage) (a : PageAddress) :
    StoreSide s (s.submitPage p a) := s.submit_side _

theorem State.submitA_side (s : State) : StoreSide s s.submitA := by
  unfold State.submitA
  split
  · split
    · split
      · rename_i a t ht
        refine .trans (.trans (s.target_side _ _ _ (Option.mem_def.mpr ht)) ?_)
          (State.submitPage_side _ _ _)
        exact ofStore t _ le_rfl rfl rfl rfl rfl
      · exact s.stall_side _
    · exact .refl s
  · exact .refl s

theorem State.submitB_side (s : State) : StoreSide s s.submitB := by
  unfold State.submitB
  split
  · split
    · split
      · rename_i a t ht
        refine .trans (.trans (s.target_side _ _ _ (Option.mem_def.mpr ht)) ?_)
          (State.submitPage_side _ _ _)
        exact ofStore t _ le_rfl rfl rfl rfl rfl
      · exact s.stall_side _
    · exact .refl s
  · exact .refl s

theorem State.stagingRound_side (s : State) : StoreSide s s.stagingRound := by
  unfold State.stagingRound
  split
  · rename_i t w _ _
    obtain ⟨h1, h2, h3, h4, h5⟩ := s.store.feed_side w t.number (decide (t.state = TakeState.closing))
    exact (ofStore s _ h1 h2 h3 h4 h5).trans ((State.submitA_side _).trans (State.submitB_side _))
  · exact .refl s

theorem State.drainDiscard_side (s : State) (n : Nat) (w : WriteState) :
    StoreSide s (s.drainDiscard n w) := by
  refine .trans ?_ (State.mapTake_side _ _ _)
  exact ofStore s _ (Nat.zero_le _) rfl rfl rfl rfl

theorem StoreSide.ofIndex (s : State) (i : Option Nat) :
    StoreSide s { s with coder := { s.coder with nextIndex := i } } := by
  constructor <;> first | rfl | exact .refl _

theorem State.raiseIndex_side (s : State) (i : Nat) : StoreSide s (s.raiseIndex i) := StoreSide.ofIndex s _

theorem State.drainComplete_side (s : State) (n : Nat) : StoreSide s (s.drainComplete n) := by
  have h := ((s.mapTake_side n fun t => { t with state := .closed }).trans
    (ofStore _ { s.store with writeState := none } le_rfl rfl rfl rfl rfl)).trans (StoreSide.ofIndex _ none)
  exact h.trans ((State.readoutClosedNotice_side _ n).trans (State.askCatalog_side _ _))

theorem State.drain_side (s : State) : StoreSide s s.drain := by
  unfold State.drain
  split
  · split
    · dsimp only
      split <;> split
      · exact (s.drainDiscard_side _ _).trans (State.drainComplete_side _ _)
      · exact s.drainDiscard_side _ _
      · exact s.drainComplete_side _
      · exact .refl s
    · exact .refl s
  · exact .refl s

theorem State.pump_side (s : State) : StoreSide s s.pump :=
  s.stagingRound_side.trans ((State.stagingRound_side _).trans (State.drain_side _))

theorem State.pageMoves_side (s : State) (a b : StagingState) (f : Bool) :
    StoreSide s (s.pageMoves a b f) := by
  unfold State.pageMoves
  dsimp only
  split
  · exact ofStore s _ le_rfl rfl rfl rfl rfl
  · split
    · exact ofStore s _ le_rfl rfl rfl rfl rfl
    · exact .refl s

theorem State.pageVerified_side (s : State) (a : StagingState) : StoreSide s (s.pageVerified a) := by
  unfold State.pageVerified
  dsimp only
  split
  · exact (s.mapTake_side _ _).trans ((State.pageMoves_side _ _ _ _).trans
      ((State.readoutVerifyNotice_side _).trans (State.pump_side _)))
  · exact (s.pageMoves_side _ _ _).trans
      ((State.readoutVerifyNotice_side _).trans (State.pump_side _))

theorem State.raiseWritePage_side (s : State) (e : Nat) : StoreSide s (s.raiseWritePage e) := by
  unfold State.raiseWritePage
  split
  · split
    · exact ofStore s _ le_rfl rfl rfl rfl rfl
    · exact .refl s
  · exact .refl s

theorem State.pageFailed_side (s : State) (e : Nat) (a : StagingState) : StoreSide s (s.pageFailed e a) :=
  (((s.extentBad_side e true).trans (State.submit_side _ _)).trans (State.pageMoves_side _ _ _ _)).trans
    (State.pump_side _)

/-! ## Mount and format -/

theorem State.recoverGo_side (n : Nat) : ∀ (s : State) r, StoreSide s (s.recoverGo n r) := by
  induction n with
  | zero => exact fun s r => .refl s
  | succ n ih =>
    intro s r
    cases r with
    | none =>
      rw [State.recoverGo]
      split
      · exact (s.mountStep_side _).trans (State.askCatalog_side _ _)
      · split
        · exact (s.mapTake_side _ _).trans (ih _ _)
        · exact ih _ _
    | some r =>
      obtain ⟨r, b⟩ := r
      rw [State.recoverGo]
      split
      · exact (s.mountStep_side _).trans (State.submit_side _ _)
      · split
        · split
          · exact ih _ _
          · exact (s.mapTake_side _ _).trans (ih _ _)
        · split
          · exact (s.mountStep_side _).trans (State.submit_side _ _)
          · exact (s.mapTake_side _ _).trans (ih _ _)

theorem State.recoveryFetched_side (s : State) (r : Recovery) (a : PageAddress) (g : Option PageImage) :
    StoreSide s (s.recoveryFetched r a g) := by
  unfold State.recoveryFetched
  dsimp only
  split
  · split
    · exact (s.mapTake_side _ _).trans (State.recoverGo_side _ _ _)
    · exact s.recoverGo_side _ _
  · split
    · exact (s.mapTake_side _ _).trans (State.recoverGo_side _ _ _)
    · exact s.recoverGo_side _ _

theorem State.scanDone_side (s : State) : StoreSide s s.scanDone := by
  unfold State.scanDone
  dsimp only
  split
  · exact (s.setTakes_side _).trans (State.recoverGo_side _ _ _)
  · exact (s.setTakes_side _).trans (State.mountEnd_side _)

theorem State.scanFrom_side (n : Nat) : ∀ (s : State) e, StoreSide s (s.scanFrom n e) := by
  induction n with
  | zero => exact fun s e => .refl s
  | succ n ih =>
    intro s e
    rw [State.scanFrom]
    split
    · exact s.scanDone_side
    · split
      · exact (s.mountStep_side _).trans (State.submit_side _ _)
      · refine .trans ?_ (ih _ _)
        exact ofStore s _ le_rfl rfl rfl rfl rfl
      · exact ih _ _

theorem State.scanned_side (s : State) (e : Nat) (sp : Option (List Word)) :
    StoreSide s (s.scanned e sp) := by
  refine .trans ?_ (State.scanFrom_side _ _ _)
  exact ofStore s _ le_rfl rfl rfl rfl rfl

theorem State.loadCatalog_side (s : State) (b : Option FoundCatalog) (u v : Nat) :
    StoreSide s (s.loadCatalog b u v) := by
  unfold State.loadCatalog
  split <;> exact s.setTakes_side _

theorem State.catalogDone_side (s : State) (b : Option FoundCatalog) (u v : Nat) :
    StoreSide s (s.catalogDone b u v) := by
  unfold State.catalogDone
  refine .trans (.trans (s.loadCatalog_side (if s.store.answers 0 then b else none) u v) ?_)
    (State.scanFrom_side _ _ _)
  exact ofStore _ _ le_rfl rfl rfl rfl rfl

theorem State.catalogFrom_side (s : State) (i : Nat) (b : Option FoundCatalog) (u v : Nat) :
    StoreSide s (s.catalogFrom i b u v) := by
  unfold State.catalogFrom
  split
  · exact (s.mountStep_side _).trans (State.submit_side _ _)
  · exact s.catalogDone_side _ _ _

theorem State.catalogFetched_side (s : State) (i : Nat) (b : Option FoundCatalog) (u v : Nat)
    (g : Option PageImage) : StoreSide s (s.catalogFetched i b u v g) := s.catalogFrom_side _ _ _ _

theorem State.mountStart_side (s : State) : StoreSide s s.mountStart := by
  unfold State.mountStart
  split
  · split
    · refine .trans ?_ (State.catalogFrom_side _ _ _ _ _)
      exact ofStore s _ le_rfl rfl rfl rfl rfl
    · exact ofStore s _ le_rfl rfl rfl rfl rfl
  all_goals exact .refl s

theorem State.mountFailed_side (s : State) (e : Nat) : StoreSide s (s.mountFailed e) := by
  unfold State.mountFailed
  split
  · exact s.catalogFetched_side _ _ _ _ _
  · exact s.scanFrom_side _ _
  · exact s.recoveryFetched_side _ _ _
  · exact .refl s
  · exact .refl s

theorem State.formatStopped_side (s : State) : StoreSide s s.formatStopped := by
  refine .trans ?_ (State.completeStoreOp_side _ _ _)
  exact ofStore s _ le_rfl rfl rfl rfl rfl

theorem State.formatErased_side (s : State) (f : Format) : StoreSide s (s.formatErased f) := by
  have h := (ofTakes s { s.takes with records := [], nextTake := 1 }).trans
    (ofStore _ { s.store with
      table := s.store.table.map (fun (y : Nat × Extent) => (y.1, { y.2 with owner := none })) }
      le_rfl rfl rfl rfl rfl)
  unfold State.formatErased
  dsimp only
  split
  · exact h.trans ((State.setTakes_side _ _).trans (State.askCatalog_side _ _))
  · exact h.trans (State.formatStopped_side _)

theorem State.formatSubmit_side (s : State) (e : Nat) : StoreSide s (s.formatSubmit e) := by
  unfold State.formatSubmit
  refine .trans ?_ (State.submit_side _ _)
  split
  · split
    · exact s.setExtent_side _ _
    · exact .refl s
  · exact .refl s

theorem State.formatFrom_side (f : Format) (n : Nat) :
    ∀ (s : State) e, StoreSide s (s.formatFrom f n e) := by
  induction n with
  | zero => exact fun s e => .refl s
  | succ n ih =>
    intro s e
    rw [State.formatFrom]
    split
    · exact s.formatErased_side f
    · split
      · exact s.formatSubmit_side e
      · exact ih _ _
      · exact ih _ _

theorem State.formatMarks_side (s : State) (e : Nat) (ok : Bool) : StoreSide s (s.formatMarks e ok) := by
  unfold State.formatMarks
  split
  · split
    · exact .refl s
    · split
      · exact s.setExtent_side _ _
      · dsimp only
        split
        · exact s.extentBad_side _ _
        · exact (s.extentBad_side _ _).trans (State.submit_side _ _)
  · exact .refl s

theorem State.formatErasedOne_side (s : State) (e : Nat) (ok : Bool) :
    StoreSide s (s.formatErasedOne e ok) := by
  unfold State.formatErasedOne
  split
  · exact .refl s
  · refine .trans (.trans (s.formatMarks_side e ok) ?_) (State.formatFrom_side _ _ _ _)
    exact ofStore _ _ le_rfl rfl rfl rfl rfl

/-! ## Lost operations -/

theorem State.operationLost_side (x : Bool) (s : State) (op : PortOp) :
    StoreSide s (State.operationLost x s op) := by
  unfold State.operationLost
  split
  · exact s.countProgramFailure_side.trans (State.attemptFailed_side _)
  · exact s.countMismatch_side.trans (State.attemptFailed_side _)
  · exact s.writeEnd_side _
  · exact s.mountFailed_side _
  · exact s.mountFailed_side _
  · exact s.mountFailed_side _
  · dsimp only
    split
    · exact (s.countProgramFailure_side.trans (State.raiseWritePage_side _ _)).trans
        ((State.pageMoves_side _ _ _ _).trans (State.pump_side _))
    · exact (State.pageMoves_side _ _ _ _).trans (State.pump_side _)
  · exact s.countMismatch_side.trans ((State.pageMoves_side _ _ _ _).trans (State.pump_side _))
  · exact .refl s
  · exact .refl s
  · split
    · exact s.readoutEnd_side _
    · exact .refl s
  · exact s.countEraseFailure_side
  · dsimp only
    split
    · exact s.countEraseFailure_side.trans (State.formatFrom_side _ _ _ _)
    · exact s.countEraseFailure_side

/-! ## The boundary's transitions -/

theorem State.closeTake_side (s : State) (n i : Nat) : StoreSide s (s.closeTake n i) :=
  (s.mapTake_side n _).trans (State.pump_side _)

theorem State.pauseTake_side (s : State) (n i : Nat) : StoreSide s (s.pauseTake n i) :=
  (s.mapTake_side n _).trans (State.askCatalog_side _ _)

theorem State.resumeTake_side (s : State) (n i : Nat) : StoreSide s (s.resumeTake n i) :=
  (s.mapTake_side n _).trans (State.askCatalog_side _ _)

theorem State.exhaust_side (s : State) (n i : Nat) (a : Option Transition) :
    StoreSide s (s.exhaust n i a) := by
  unfold State.exhaust
  refine .trans ?_ (State.closeTake_side _ _ _)
  split
  · exact s.completeStoreOp_side _ _
  · exact s.completeStoreOp_side _ _
  · exact .refl s
  · exact .refl s

theorem State.takeHold_side (s : State) (t : TakeRecord) (i : Nat) (a : Option Transition) :
    StoreSide s (s.takeHold t i a) := by
  unfold State.takeHold
  split
  · exact s.pauseTake_side _ _
  · exact s.resumeTake_side _ _
  · exact s.closeTake_side _ _
  · exact .refl s

end Sys2Proof.Machine
end

