-- ==== Sys2Proof/Laws/Requests.lean ====
section
/-!
SUPPORT. What the queue server's choice, a service and the completion of a request do (R185 to R190).
-/

namespace Sys2Proof.Machine

/-! ## Choice and service -/

theorem oldestOf_mem {es : List Entry} {p : Entry → Bool} {e : Entry} (h : oldestOf es p = some e) :
    e ∈ es ∧ p e := ⟨List.mem_of_find?_eq_some h, List.find?_some h⟩

/-- The choice is an eligible request of the queue (R185, R186). -/
theorem State.choice_mem {s : State} {e : Entry} (h : s.choice = some e) :
    e ∈ s.requests.entries ∧ s.eligible e := by
  have key : ∀ p, oldestOf (s.requests.entries.filter s.eligible) p = some e →
      e ∈ s.requests.entries ∧ s.eligible e := fun p hp => List.mem_filter.mp (oldestOf_mem hp).1
  unfold State.choice at h
  simp only [Option.or_eq_some_iff] at h
  rcases h with h | ⟨-, h | ⟨-, h | ⟨-, h | ⟨-, h | ⟨-, h⟩⟩⟩⟩⟩
  all_goals exact key _ h

/-- A service of the chosen request hands it to its block (R187). -/
theorem State.serve_of_choice {s : State} {e : Entry} {c : RequestCode} (b : Entry → State → State)
    (h : s.choice = some e) (hc : e.code = c) : s.serve c b = b e (s.activate e.arrival) := by
  simp [State.serve, h, hc]

/-- A service either does not occur or hands the choice to its block. -/
theorem State.serve_cases (s : State) (c : RequestCode) (b : Entry → State → State) :
    s.serve c b = s ∨ ∃ e, s.choice = some e ∧ e.code = c ∧ s.serve c b = b e (s.activate e.arrival) := by
  unfold State.serve
  split
  · rename_i e h
    split
    · rename_i hc
      exact .inr ⟨e, h, hc, rfl⟩
    · exact .inl rfl
  · exact .inl rfl

/-! ## Completion -/

/-- A completion changes the Link Unit and the Request Queue only. -/
theorem State.complete_eq (s : State) (a : Nat) (st : Status) (ws : List Word) :
    s.complete a st ws =
      { s with link := (s.complete a st ws).link, requests := (s.complete a st ws).requests } := by
  unfold State.complete
  split
  · rfl
  · dsimp only
    split
    · split <;> rfl
    · rfl

/-- A service's marking of its request changes the Request Queue's entries only. -/
theorem State.activate_eq (s : State) (a : Nat) :
    s.activate a = { s with requests := (s.activate a).requests } := rfl

/-- A search that only one element can meet finds it. -/
theorem find?_unique {α : Type} {l : List α} {p : α → Bool} {a : α} (ha : a ∈ l) (hp : p a)
    (h : ∀ b ∈ l, p b → b = a) : l.find? p = some a := by
  cases hf : l.find? p with
  | none => exact absurd hp (List.find?_eq_none.mp hf a ha)
  | some b => rw [h b (List.mem_of_find?_eq_some hf) (List.find?_some hf)]

/-- In a lawful queue an arrival number names one request. -/
theorem RequestQueue.Lawful.unique {q : RequestQueue} (h : q.Lawful) {a b : Entry} (ha : a ∈ q.entries)
    (hb : b ∈ q.entries) (hab : a.arrival = b.arrival) : a = b := by
  by_contra hne
  have hp : q.entries.Pairwise (fun a b => a.arrival ≠ b.arrival) :=
    h.2.1.imp fun x => Nat.ne_of_lt x.1
  have : Std.Symm (fun a b : Entry => a.arrival ≠ b.arrival) := ⟨fun _ _ h => h.symm⟩
  exact hp.forall ha hb hne hab

/-- The request being served, as it stands in the queue. -/
theorem State.entryOf_activate {s u : State} {e : Entry} (hq : s.requests.Lawful)
    (he : e ∈ s.requests.entries)
    (hu : u.requests.entries = (s.activate e.arrival).requests.entries) :
    u.entryOf e.arrival = some { e with active := true } := by
  unfold State.entryOf
  rw [hu, State.activate_requests]
  refine find?_unique (List.mem_map.mpr ⟨e, he, by simp⟩) (by simp) fun b hb hba => ?_
  obtain ⟨x, hx, rfl⟩ := List.mem_map.mp hb
  have hxa : x.arrival = e.arrival := by
    by_contra hne
    simp [hne] at hba
  rw [hq.unique hx he hxa]
  simp

/-- The requests left once the one being served has gone are those of before. -/
theorem filter_activate (es : List Entry) (a : Nat) :
    (es.map fun e => if e.arrival = a then { e with active := true } else e).filter
      (fun e => e.arrival ≠ a) = es.filter fun e => e.arrival ≠ a := by
  induction es with
  | nil => rfl
  | cons e es ih =>
    by_cases h : e.arrival = a
    · simpa [h] using ih
    · simpa [h] using ih

/-- The alert summary reads neither the Link Unit nor the Request Queue (R189). -/
theorem State.alerts_eq (s : State) (l : LinkUnit) (q : RequestQueue) :
    ({ s with link := l, requests := q } : State).alerts = s.alerts := rfl

/-- The completion of the request being served: it leaves the queue and is answered (R188, R190). -/
theorem State.complete_answered {s u : State} {e : Entry} (hq : s.requests.Lawful)
    (he : e ∈ s.requests.entries)
    (hu : u.requests.entries = (s.activate e.arrival).requests.entries) (st : Status) (ws : List Word) :
    Answered u.link { u.requests with entries := s.requests.entries } e st ws
      (u.complete e.arrival st ws) := by
  have hf : u.requests.entries.filter (fun x => x.arrival ≠ e.arrival)
      = s.requests.entries.filter fun x => x.arrival ≠ e.arrival := by
    rw [hu, State.activate_requests]; exact filter_activate _ _
  simp only [ne_eq, decide_not] at hf
  unfold State.complete
  rw [State.entryOf_activate hq he hu]
  dsimp only
  cases hb : e.broadcast
  · refine ⟨?_, ?_⟩
    · simp [State.reply, State.replyFrame, hb]
      rfl
    · simp [hb, hf]
  · by_cases hs : st = .done
    · simp [Answered, AnsweredIn, hb, hs, hf]
    · simp [Answered, AnsweredIn, hb, hs, hf]

/-- A request completed at its service, all at once: the state differs from the one before the
completion in the Link Unit and the Request Queue only. -/
theorem State.complete_spec {s u : State} {e : Entry} (hq : s.requests.Lawful)
    (he : e ∈ s.requests.entries)
    (hu : u.requests.entries = (s.activate e.arrival).requests.entries) (st : Status) (ws : List Word) :
    ∃ t, u.complete e.arrival st ws = t ∧ t = { u with link := t.link, requests := t.requests }
      ∧ Answered u.link { u.requests with entries := s.requests.entries } e st ws t :=
  ⟨_, rfl, u.complete_eq _ _ _, State.complete_answered hq he hu st ws⟩

end Sys2Proof.Machine
end

