-- ==== Sys2Proof/Tests/Slice0.lean ====
section
/-!
SUPPORT. The package's own tests: an ill-formed command for each check, the spec's worked values and
examples worked by hand from its rules (each names its rule), and for each statement of Obligations.lean a
concrete state and operands that meet its hypotheses.
-/

namespace Sys2Proof.Tests

open Sys2Proof Sys2Proof.Machine

/-! ## Ill-formed commands -/

theorem test_wf_source : Instr.wellFormed (.sourceLapse 16) = false ∧ Instr.wellFormed (.sourceLapse 15) = true := by
  decide
theorem test_wf_acquired : Instr.wellFormed (.sourceAcquired 16) = false := by decide
theorem test_wf_stray : Instr.wellFormed (.strayWord .stageForward 0xB4201803) = false := by decide
theorem test_wf_framing : Instr.wellFormed (.framingError .stageForward 0xB4000003) = false := by decide
theorem test_wf_header : Instr.wellFormed (.frameHeaderTaken .stageForward 0xB3000003) = false := by decide
theorem test_wf_answer : Instr.wellFormed (.verifyFetchEnd (.reads [0] []) false) = false := by decide

/-! ## Worked values -/

/-- R2 "Worked check words". -/
theorem test_check_word :
    checkWord [0xB4201803, 0x00010000] = 0x4BDE8DC9
      ∧ checkWord [0xB4A00004, 0xFFFFFFF0, 0x80000000] = 0xCB5FA5D8 := by decide
/-- R29 "Worked values: a FADE": rows 1, 2, 32, 63 and 64 of a held sample of 1000000. -/
theorem test_fade : [0, 1, 31, 62, 63, 64].map (fun j => (Conceal.conceal ⟨1000000, j⟩ .fade).sample)
    = [984375, 968750, 500000, 15625, 0, 0] := by decide
theorem test_fade_truncates : (Conceal.conceal ⟨-100001, 0⟩ .fade).sample = -98438 := by decide
/-- R47 "Worked values: a constant input". -/
theorem test_filter : (filterStep (some 8) ⟨0, 0⟩ 1000).value = 1000
    ∧ (filterStep (some 8) ⟨1000, 1000⟩ 1000).value = 997
    ∧ (filterStep (some 8) ⟨1000, 997⟩ 1000).value = 994
    ∧ (filterStep (some 8) ⟨1000, 255⟩ 1000).value = 255 := by decide
/-- R46: unity keeps a sample, twice unity saturates the top of the range. -/
theorem test_trim : (trimStep 1048576 (-77)).value = -77 ∧ trimStep 2097152 8388607 = ⟨8388607, true⟩ := by
  decide
/-- R42: inverting the lowest sample saturates. -/
theorem test_polarity : polarityStep .invert (-8388608) = ⟨8388607, true⟩ := by decide
/-- R151 "Worked glide: a small coefficient crossing zero" and "a fade-up". -/
theorem test_glide : [0, 1, 15, 30, 31].map (glideValue 100 (-100)) = [94, 88, 0, -93, -100]
    ∧ [0, 15, 31].map (glideValue 0 4194304) = [131072, 2097152, 4194304] := by decide
/-- R154 "Worked sums: rounding and saturation". -/
theorem test_bus_rounding :
    [2097152, -2097152, 4194304, 0, 6291453, 35184367894528].map (fun a : Int => roundDiv a (2 ^ 22))
      = [1, -1, 1, 0, 1, 8388607]
    ∧ saturate (roundDiv 100663296000000 (2 ^ 22)) = 8388607 := by decide
/-- R162, R163 "Worked values: shift, rounding and clamp". -/
theorem test_stream_shift : blockShift 16 100000 = 2 ∧ blockShift 16 65535 = 1 ∧ blockShift 20 8388608 = 4 := by
  decide
theorem test_mantissa : [100000, -99999, 6, -6, 1].map (mantissa 16 2) = [25000, -25000, 2, -1, 0]
    ∧ mantissa 16 1 65535 = 32767 ∧ mantissa 20 4 8388607 = 524287 := by decide
/-- R172, R173 "Worked values: one track meter over three windows". -/
theorem test_rms : isqrt 5000000 = 2236 ∧ isqrt 3335000 = 1826 ∧ isqrt 5000 = 70 ∧ isqrt 9000000 = 3000 := by
  decide
/-- R66, R67 "Worked partition: a steady residual". -/
theorem test_rice : zigzag (-3) = 5 ∧ riceParameter (List.replicate 64 5) = 2
    ∧ riceCode 2 5 = [true, false, false, true] ∧ riceSize 2 (List.replicate 64 5) = 261
    ∧ escaped 2 (List.replicate 64 5) = false := by decide
/-- "Worked block: a single click in silence": the last partition is escaped. -/
theorem test_escape : riceParameter (2000000 :: List.replicate 63 0) = 14
    ∧ escaped 14 (2000000 :: List.replicate 63 0) = true := by decide
/-- "Worked block: a ramp": PREDICTED, order 2, 322 bits. -/
theorem test_ramp : (fun c : Coded => (c.kind, c.order, c.bits.length))
    (codeSamples ((List.range 256).map fun n => (1000 + 5 * n : Int)) 3) = (1, 2, 322) := by decide +kernel
/-- R107 "Worked sequence: a failing extent and a stall": pages 440, 441 and 442 are located. -/
theorem test_locate : (fun c : StoreController => [440, 441, 442].map (c.locate 7)) { table :=
      [(512, ⟨.owned, some ⟨7, 2, 256⟩⟩), (600, ⟨.bad, some ⟨7, 3, 384⟩⟩), (605, ⟨.bad, some ⟨7, 4, 441⟩⟩),
        (611, ⟨.bad, some ⟨7, 5, 441⟩⟩), (700, ⟨.owned, some ⟨7, 6, 442⟩⟩)] }
    = [some ⟨600, 56⟩, some ⟨611, 0⟩, some ⟨700, 0⟩] := by decide
/-- R122 "Worked sequence: mount after a loss of power": the classifications of extents (0, 2) to (0, 8). -/
theorem test_classify :
    let s : State := { takes := { records := [{ number := 3, state := .closed }, { number := 9, state := .paused }] } }
    let ones : Nat → List Word := fun n => List.replicate n 0xFFFFFFFF
    [[3, 0, 0, 0] ++ ones 12, [5, 0, 0, 0] ++ ones 12, [9, 100, 1, 0, 0] ++ ones 11, ones 16].map
        (fun ws => s.classify (some ws))
      = [⟨.owned, some ⟨3, 0, 0⟩⟩, ⟨.dirty, none⟩, ⟨.bad, some ⟨9, 1, 100⟩⟩, ⟨.free, none⟩]
    ∧ s.classify none = ⟨.bad, none⟩ := by decide

/-! ## States for single steps -/

/-- A request of program station 1. -/
def entry (c : RequestCode) (ops : List Word) : Entry :=
  { origin := .program, station := 1, number := 7, code := c, priority := 1, urgent := false, operands := ops
    broadcast := false, arrival := 0, active := false }

/-- A state whose request queue holds one request. -/
def asked (s : State) (c : RequestCode) (ops : List Word) : State :=
  { s with requests := { s.requests with entries := [entry c ops], nextArrival := 1 } }

/-- Module 0 answers, the store is MOUNTED with two free extents, and no take is in the table. -/
def mounted : State :=
  { store :=
    { modules := [.answering, .notFitted, .notFitted, .notFitted], state := .mounted
      table := [(0, ⟨.catalog, none⟩), (1, ⟨.catalog, none⟩), (2, ⟨.free, none⟩), (3, ⟨.free, none⟩)] } }

/-- The same with take 1 of track 0 in a state, its next block index 5. -/
def withTake (st : TakeState) : State :=
  { store := { mounted.store with
      table := [(0, ⟨.catalog, none⟩), (1, ⟨.catalog, none⟩), (2, ⟨.owned, some ⟨1, 0, 0⟩⟩), (3, ⟨.free, none⟩)]
      writeState := some ⟨some 2, 0, 0, false⟩ }
    takes := { records := [{ number := 1, state := st, begun := true, trackSet := [0], firstExtent := some 2 }]
               nextTake := 2 }
    coder := { nextIndex := some 5 } }

/-- A boundary is due: an archive boundary, since the row counter is 0. -/
def atBoundary (s : State) : State := { s with sources := { s.sources with boundaryDue := true } }

/-- An operation is in flight at the port, `n` rows after its grant. -/
def inFlight (s : State) (op : PortOp) (n : Nat) : State :=
  { s with store := { s.store with inFlight := some ⟨op, n⟩ } }

/-- The state a command leaves. -/
def after (i : Instr) (s : State) : State :=
  match exec i s with
  | .next t => t
  | .fault _ => s
  | .refused _ => s

/-- The result words of the first reply waiting or in transmission on the program link. -/
def replied (s : State) : List Word := ((s.link.txProgram.getD []).drop 3).dropLast

/-- A state with the program link UP. -/
def linked (s : State) : State := { s with link := { s.link with programUp := true } }

/-! ## Single steps -/

/-- R53, the table's first row: the trim and the reply's result. -/
theorem test_trim_correct :
    (fun t : State => ((t.track 3).route.trim, replied t))
      (after .trimCorrect (asked (linked .reset) .trimCorrect [0x00030000, 25000])) = (1023001, [1023001]) := by
  decide +kernel
theorem test_trim_correct_lowest :
    (asked .reset .trimCorrect [0x00030000, 0xFFF85EE0] |> after .trimCorrect |>.track 3).route.trim = 2097152 := by
  decide +kernel
/-- R50, R197: a TRACK_SET of fields 0 and 6 enables track 2 with a delay of 4. -/
theorem test_track_set :
    (fun t : State => ((t.track 2).route.enabled, (t.track 2).line, poolCount t.tracks.routes))
      (after .trackSet (asked .reset .trackSet [0x00020041, 1, 4])) = (true, [0, 0, 0, 0], 4) := by
  decide +kernel
/-- R34, R35: a lapse limit above 255 is clamped, and a read of source 5 gives it as its fourth value. -/
theorem test_source_config :
    (after .sourceConfig (asked .reset .sourceConfig [0x00050000, 1000])).sources.records[5]?.map (·.limit)
      = some 255 := by decide +kernel
theorem test_source_read : (replied (after .sourceRead (asked (linked .reset) .sourceRead [0x00050100])))
    = [0, 0, 0, 0, 0, 8, 0, 0xFFFFFFFF, 0, 0, 0, 0, 0, 0] := by decide +kernel
/-- R32: two levels, 5 and -5, held 96 rows. -/
theorem test_gen_load : (after .genLoad (asked .reset .genLoad [0x00600002, 5, 0xFFFFFFFB])).sources.generator
    = ⟨[5, -5], 96, 0, 0⟩ := by decide +kernel
/-- R147, R148: one coefficient at track 1 bus 2 is clamped, and counted in the result. -/
theorem test_mix_set :
    (fun t : State => (t.mix.pendingBank.getD 10 0, replied t))
      (after .mixSet (asked (linked .reset) .mixSet [0x00010201, 0x7FFFFFFF])) = (8388607, [1]) := by decide +kernel
theorem test_mix_take : (after .mixTake (asked .reset .mixTake [])).mix.swapArmed = true := by decide +kernel
theorem test_mix_read : (replied (after .mixRead (asked (linked .reset) .mixRead [0x00000001, 1])))
    = [0, 0xFFFFFFFF, 0, 0, 0, 0, 0, 0, 0, 0, 0] := by decide +kernel
/-- R167: bus 0 to M20, bus 1 to M16, the others kept. -/
theorem test_stream_set : (replied (after .streamSet (asked (linked .reset) .streamSet [0x00000023])))
    = [3, 2, 1, 1, 1, 1, 1, 1] := by decide +kernel
theorem test_meter_config :
    (replied (after .meterConfig (asked (linked .reset) .meterConfig [0x7FFFFFFF, 0, 0x40000000])))
      = [8388608, 84, 1] := by decide +kernel
theorem test_meter_read : (replied (after .meterRead (asked (linked .reset) .meterRead [0x00870100])))
    = [4800, 0, 0, 0, 0, 0xFFFFFFFF, 0xFFFFFFFF] := by decide +kernel
theorem test_query : (replied (after .query (asked (linked .reset) .query [0x02010700]))) = [1] := by
  decide +kernel
theorem test_reserve :
    (after .reserve (asked .reset .reserve [2])).requests.reserveStore = some ⟨.program, 1⟩ := by decide +kernel
/-- R84: take 1 is opened on the lowest free extent; its write programs catalog page 0. -/
theorem test_take_open :
    (fun t : State => (t.takes.nextTake, t.store.extent 2, t.takes.catSeq, t.store.inFlight.map (·.op.extent)))
      (after .takeOpen (asked mounted .takeOpen [0]))
      = (2, some ⟨.owned, some ⟨1, 0, 0⟩⟩, 1, some 0) := by decide +kernel
theorem test_take_open_live :
    (after .takeOpen (asked (withTake .opened) .takeOpen [0])).takes.nextTake = 2 := by decide +kernel
theorem test_take_pause :
    (after .takePause (asked (withTake .opened) .takePause [])).takes.armed = some .pause := by decide +kernel
/-- R86 "Worked sequence: one take from open to close": the pause after index i starts at i + 1. -/
theorem test_pause_holds :
    (fun t : State => (t.takes.records.map (·.pauses), t.coder.nextIndex))
      (after .archiveBoundary (atBoundary { withTake .opened with
        takes := { (withTake .opened).takes with armed := some .pause } })) = ([[⟨6, none⟩]], some 6) := by
  decide +kernel
/-- R91: at the greatest index the take ends there. -/
theorem test_exhaustion :
    (after .indexExhaustion (atBoundary { withTake .paused with
      coder := { nextIndex := some 4294967295 } })).takes.records.map (·.endIndex) = [some 4294967295] := by
  decide +kernel
theorem test_take_delete :
    (after .takeDelete (asked (withTake .closed) .takeDelete [1])).takes.records.map (·.deleting) = [true] := by
  decide +kernel
theorem test_take_protect :
    (after .takeProtect (asked (withTake .closed) .takeProtect [1])).takes.records.map (·.isProtected)
      = [true] := by decide +kernel
theorem test_take_list : (replied (after .takeList (asked (linked (withTake .closed)) .takeList [0])))
    = [1, 2, 0x00010000, 0x06000000, 0, 0, 0x00000100, 0] := by decide +kernel
theorem test_store_config :
    (replied (after .storeConfig (asked (linked mounted) .storeConfig [0x40000000, 0x40000000, 0, 0x40000007])))
      = [0, 1024, 4800, 7] := by decide +kernel
theorem test_store_format :
    (fun t : State => (t.store.state, t.store.inFlight.map PortJob.op))
      (after .storeFormat (asked mounted .storeFormat [])) = (.unformatted, some (.formatErase 0)) := by
  decide +kernel
theorem test_read_take :
    (after .readTake (asked (withTake .opened) .readTake [1, 0, 2])).readout.state = .following := by
  decide +kernel
theorem test_read_stop_idle :
    (after .readStop (asked (withTake .opened) .readStop [])).requests.entries = [] := by decide +kernel
/-- R119: the expiry makes the module FAULT, and with it the store, whichever outcome of R118 follows. -/
theorem test_time_limit : ∀ g : Bool,
    (fun t : State => (t.store.modules.head?, t.store.state, t.store.expiries))
      ((inFlight mounted (.eraserErase 3) 4800).expire (.eraserErase 3) g) = (some .fault, .fault, 1) := by
  decide +kernel
/-- R103, R118, R119: module 1's program expires while the eraser's erase of module 0 waits. Taken first, the
end grants that erase; else the relocated program joins the choice and is granted before it. -/
theorem test_expiry_grants :
    ([true, false].map fun g => ((({ withTake .opened with store := { (withTake .opened).store with
        modules := [.answering, .answering, .notFitted, .notFitted], waiting := [.eraserErase 3]
        table := [(2, ⟨.free, none⟩), (32768, ⟨.owned, some ⟨1, 0, 0⟩⟩)], pageA := { state := .programming, take := 1 }
        writeState := some ⟨some 32768, 0, 1, false⟩ } } : State).expire
          (.archiveProgram ⟨32768, 0⟩ erasedPage) g).settlePort).store.inFlight.map fun j => (j.op.rank, j.op.extent))
      = [some (4, 3), some (2, 2)] := by
  decide +kernel
theorem test_erase_end :
    (after (.eraseEnd false false) (inFlight mounted (.eraserErase 3) 9)).store.extent 3 = some ⟨.bad, none⟩ := by
  decide +kernel
/-- R113, R114: a failed program with no free extent leaves the page WAITING and the take STALLED. -/
theorem test_program_fails :
    (fun t : State => (t.store.extent 2, t.store.pageA.state, t.store.extent 3))
      (after (.archiveProgramEnd false false) (inFlight { withTake .opened with
        store := { (withTake .opened).store with pageA := { state := .programming, take := 1 } } }
        (.archiveProgram ⟨2, 0⟩ erasedPage) 3))
      = (some ⟨.bad, some ⟨1, 0, 0⟩⟩, .programming, some ⟨.owned, some ⟨1, 1, 0⟩⟩) := by decide +kernel

/-- R19: the 32nd row signals a boundary. -/
theorem test_row :
    (fun t : State => (t.sources.rowCounter, t.sources.boundaryDue, t.meter.windowCounter))
      (after .rowEvent { State.reset with sources := { rowCounter := 31 } }) = (32, true, 1) := by decide +kernel
/-- R25: the 48th supplied row makes a source PRESENT, and a miss at the limit lapses it. -/
theorem test_source_acquired :
    ((after (.sourceAcquired 2) { State.reset with
      sources := { records := List.replicate 16 { presence := .acquiring, acquire := 47, fifo := [⟨9, [1]⟩] } }
      }).sources.records[2]?).map (·.presence)
      = some .present := by decide +kernel
theorem test_source_lapse :
    ((after (.sourceLapse 2) { State.reset with
      sources := { records := List.replicate 16 { presence := .present, misses := 7 } }
      }).sources.records[2]?).map (fun r => (r.presence, r.lapses))
      = some (.lapsed, 1) := by decide +kernel
/-- R31: the 48th row of a level is its last. -/
theorem test_level_step :
    (after .generatorLevelStep { State.reset with sources := { generator := ⟨[7, 8], 48, 0, 47⟩ } }).sources.generator
      = ⟨[7, 8], 48, 1, 0⟩ := by decide +kernel
/-- R150: an armed swap becomes a glide from the old ACTIVE bank. -/
theorem test_mix_boundary :
    (fun t : State => (t.mix.active.head?, t.mix.glideStart.map List.head?, t.mix.swapArmed))
      (after .mixBoundary { atBoundary .reset with
        sources := { rowCounter := 64, boundaryDue := true }
        mix := { pendingBank := List.replicate 1024 4194304, swapArmed := true } })
      = (some 4194304, some (some 0), false) := by decide +kernel
/-- R22: an accepted frame of source 0 with one sample. -/
theorem test_stage_frame :
    (fun t : State => (t.sources.records.head?.map (·.fifo), t.link.accepted.stage, t.link.rxStage))
      (after (.stageFrameComplete (checkWord [0xB4100004, 0x00010007, 5])) { State.reset with
        link := { stageUp := true, rxStage := .check 0xB4100004 [0x00010007, 5] 0xB4110010 } })
      = (some [⟨7, [5]⟩], 1, .hunt) := by decide +kernel
/-- R201: the UNIT strap's 31 is taken as 30. -/
theorem test_power_on :
    (fun t : State => (t.unit, t.rate, t.store.modules, t.store.state))
      (after (.powerOn true 31 true false false false true false false) mounted)
      = (30, .k96, [.answering, .notFitted, .notFitted, .notFitted], .unmounted) := by decide +kernel
/-- R193: a UNIT_RESET frees a reservation and keeps the take table. -/
theorem test_unit_reset :
    (fun t : State => (t.requests.reserveStore, t.takes.nextTake, t.requests.entries))
      (after .unitReset (asked { withTake .closed with
        requests := { reserveStore := some ⟨.stage, 2⟩ } } .unitReset [])) = (none, 2, []) := by decide +kernel
/-- R14: the stage link's requests go with it. -/
theorem test_stage_link_down :
    (fun t : State => (t.link.stageUp, t.requests.reserveStore))
      (after .stageLinkDown { State.reset with
        link := { stageUp := true }, requests := { reserveStore := some ⟨.stage, 2⟩ } }) = (false, none) := by
  decide +kernel
/-- R98, R99: a failed program is tried again in the next page; a good erase makes extent 1 current. -/
theorem test_catalog_program_fails :
    (fun t : State => (t.takes.catNext, t.takes.catSeq, t.takes.write.map (·.failed)))
      (after (.catalogProgramEnd false false) (inFlight { mounted with
        takes := { catNext := 42, catSeq := 214, write := some ⟨[], 0, []⟩ } }
        (.catalogProgram ⟨0, 41⟩ erasedPage) 3)) = (43, 215, some 1) := by decide +kernel
theorem test_catalog_erase_end :
    (fun t : State => (t.takes.catCurrent, t.takes.catNext, t.takes.catSeq))
      (after (.catalogEraseEnd true false) (inFlight { mounted with
        takes := { catCurrent := 1, catNext := 128, catSeq := 1001, write := some ⟨[], 0, []⟩ } }
        (.catalogErase 0) 3)) = (0, 1, 1002) := by decide +kernel
/-- R135 "Worked values: cutting from an offset": the first two frames of page 5 of take 3 from 1000. -/
theorem test_readout_cut :
    (fun t : State => (t.link.readoutQ.map fun f => ((f.drop 1).take 3, f.length), t.readout.cut))
      (after (.readoutFetchEnd .asStored false) (inFlight { State.reset with
        link := { programUp := true, txProgram := some [] }
        readout := { state := .fetching, take := 3, nextPage := 5, startOffset := 1000, firstPage := true } }
        (.readoutFetch ⟨9, 5⟩ true) 3))
      = ([([3, 5, 0x000303E8], 61), ([3, 5, 0x00020420], 61)], 1168) := by decide +kernel
/-- R81: a recovered page count that would pass 16777216 stays at it. -/
theorem test_recovered_page_count_holds :
    [0, 16777215, 0x02000000].map (fun n =>
      (({ number := 1, state := .opened } : TakeRecord).recover [(n, [])]).pageCount) = [1, 16777216, 16777216] := by
  decide
/-- R121: with the last spare fetch the mount ends; no catalog was loaded. -/
theorem test_mount_ends :
    (fun t : State => (t.store.state, t.store.extent 131071))
      (after (.mountSpareFetchEnd .failed false) (inFlight { State.reset with
        store := { mounted.store with state := .mounting, mount := some ⟨.scan 131071, false⟩ } }
        (.mountSpare 131071) 3)) = (.unformatted, some ⟨.bad, none⟩) := by decide +kernel

/-! ## Witnesses: each statement's hypotheses are met

One theorem for each statement that has hypotheses, one conjunct for each of its clauses, at values at the
ends of the clause's range where it has one. -/

theorem reset_sized : State.reset.Sized := by unfold State.Sized; decide +kernel
theorem reset_nothingDue : State.reset.NothingDue := by unfold State.NothingDue; decide +kernel

/-- The only request of a queue without reservations, with both slots free, is the server's choice. -/
theorem served (s : State) (c : RequestCode) (ops : List Word) (h₁ : s.requests.reserveConfig = none)
    (h₂ : s.requests.reserveStore = none) (h₃ : s.requests.storeOp = none) (h₄ : s.readout.state = .idle) :
    Served (asked s c ops) c (entry c ops) := by
  refine ⟨?_, rfl, by simp [asked, Config.requestCap], by simp [asked], by simp [asked, entry]⟩
  have hp : reservationPasses ((asked s c ops).requests.holderOf c.scope) (entry c ops) = true := by
    cases h : c.scope <;> simp [asked, RequestQueue.holderOf, reservationPasses, h₁, h₂]
  have he : (asked s c ops).eligible (entry c ops) = true := by
    simp only [State.eligible]
    have : (entry c ops).code = c := rfl
    rw [this, hp]
    simp [asked, entry, h₃, ReadoutEngine.busy, h₄]
  have hf : ((asked s c ops).requests.entries.filter (asked s c ops).eligible) = [entry c ops] := by
    show List.filter _ [entry c ops] = _
    rw [List.filter_cons_of_pos he, List.filter_nil]
  unfold State.choice
  rw [hf]
  cases hv : (asked s c ops).requests.favoured (entry c ops) <;> simp [oldestOf, entry]
  all_goals simp_all [entry]

theorem witness_StepTakesFrontCommand :
    ({ State.reset with pending := [.rowEvent] } : State).pending = .rowEvent :: [] ∧ State.reset.pending = [] :=
  ⟨rfl, rfl⟩
/-- The invariants: reset meets them all (ResetMeetsEveryLaw), and a step from a state with a waiting row
event answers a next state. -/
theorem witness_Invariants : State.reset.link.Bounded ∧ State.reset.requests.Lawful ∧ State.reset.mix.Lawful
    ∧ State.reset.store.Bounded ∧ State.reset.flash.Wf ∧ State.reset.Sized ∧ State.reset.NothingDue
    ∧ ∃ t, step { State.reset with pending := [.rowEvent] } = .next t :=
  ⟨by decide +kernel, by decide +kernel, by decide +kernel, by decide +kernel, State.reset_flash_wf, reset_sized,
    reset_nothingDue, _, rfl⟩
/-- A program station's READ_TAKE, the oldest request, runs as a readout. -/
def following : State := { asked .reset .readTake [] with
  readout := { state := .following, origin := .program, arrival := 0, take := 1 } }
theorem witness_ReadoutNamed : following.ReadoutNamed ∧ following.readout.state ≠ .idle
    ∧ following.requests.Lawful := by
  unfold State.ReadoutNamed; decide +kernel
theorem witness_RouteTableStaysLawful : State.reset.tracks.Lawful State.reset.rate := by decide +kernel
theorem witness_DelayLinesStayAsLongAsTheirDelay : State.reset.tracks.LinesLawful := by decide +kernel
theorem witness_CountsStayInRange : State.reset.sources.InRange ∧ State.reset.meter.InRange State.reset.rate := by
  decide +kernel
theorem witness_PagesChangeOnlyWhereWritten : State.reset.flash.Wf
    ∧ (∃ t, exec .rowEvent State.reset = .next t) ∧ State.reset.store.inFlight = none :=
  ⟨State.reset_flash_wf, ⟨_, rfl⟩, rfl⟩
theorem witness_ArchivePackets : (List.replicate 256 (8388607 : Int)).length = 256
    ∧ (∀ x ∈ List.replicate 256 (8388607 : Int), -8388608 ≤ x ∧ x ≤ 8388607) ∧ 3 ≤ 3 ∧ 127 < 128
    ∧ 4294967295 < 2 ^ 32 ∧ 256 ≤ 256 := by decide +kernel
theorem witness_ResidualMapAndRiceParameter : (0 : Int) ≤ 0 ∧ (-1 : Int) < 0 ∧ (-67108860 : Int) ≤ 67108860
    ∧ [5, 5].length ≤ [5, 5].sum ∧ [1, 0].sum < [1, 0].length ∧ [4194304].length * 2 ^ 22 ≤ [4194304].sum := by
  decide
theorem witness_StreamShiftAndMantissa : (∀ y ∈ [(-8388608 : Int), 8388607], -8388608 ≤ y ∧ y ≤ 8388607)
    ∧ [(-8388608 : Int), 8388607] ≠ [] ∧ blockPeak [-8388608, 8388607] = 8388608 ∧ blockPeak [0] = 0
    ∧ blockShift 16 (blockPeak [0]) = 0 ∧ 0 < blockShift 16 (blockPeak [-8388608, 8388607]) := by decide

theorem witness_OriginatedFramesAreSound : 31 < 32 ∧ 15 < 16 ∧ 255 < 256 ∧ (List.replicate 62 (0 : Word)).length ≤ 62
    ∧ ({ seq := 4294967295, buffer := List.replicate 32 (some (-8388608)) } : StreamBus).buffer
      = (List.replicate 32 (-8388608 : Int)).map some
    ∧ (List.replicate 32 (-8388608 : Int)).length = 32 ∧ 4294967295 < 2 ^ 32
    ∧ ∀ y ∈ List.replicate 32 (-8388608 : Int), -8388608 ≤ y ∧ y ≤ 8388607 := by decide

/-- All three links are UP; the stage parser is in CHECK with a header, no body words and its sum. -/
def inCheck (h : Word) : State :=
  { link := { stageUp := true, throughUp := true, programUp := true, rxStage := .check h [] h
              rxThrough := .check h [] h, rxProgram := .check h [] h } }

theorem witness_EachWordTaken :
    (inCheck 0).link.receiving .stageForward = true ∧ (inCheck 0).link.parser .stageForward ≠ .hunt
    ∧ ({ stageUp := true } : LinkUnit).receiving .stageForward = true
    ∧ ({ stageUp := true } : LinkUnit).parser .stageForward = .hunt
    ∧ headerMark 0xB3000003 ≠ 0xB4 ∧ headerMark 0xB4000002 = 0xB4 ∧ headerLength 0xB4000002 < 3
    ∧ 64 < headerLength 0xB4000041 ∧ headerMark 0xB4000040 = 0xB4 ∧ 3 ≤ headerLength 0xB4000003
    ∧ headerLength 0xB4000040 ≤ 64
    ∧ ({ rxStage := .body 0xB4000004 [] 0 } : LinkUnit).parser .stageForward = .body 0xB4000004 [] 0
    ∧ ([] : List Word).length + 3 < headerLength 0xB4000004
    ∧ headerLength 0xB4000003 = ([] : List Word).length + 3 := by decide
theorem witness_FrameCollectedWordByWord :
    headerMark 0xB4000003 = 0xB4 ∧ [(5 : Word)].length + 2 = headerLength 0xB4000003
    ∧ ({ State.reset with pending := [.frameHeaderTaken .stageForward 0xB4000003, .bodyWordTaken .stageForward 5] }
      : State).pending
      = .frameHeaderTaken .stageForward 0xB4000003 :: [(5 : Word)].map (.bodyWordTaken .stageForward) := by decide
theorem witness_StageFrameComplete :
    (inCheck 0xB4000003).link.stageUp = true
    ∧ (inCheck 0xB4000003).link.rxStage = .check 0xB4000003 [] 0xB4000003
    ∧ (0 : Word) ≠ ~~~(0xB4000003 + 0x00005A33)
    ∧ headerKind 0xB4100003 = 1 ∧ headerKind 0xB4200003 = 2 ∧ headerUnit 0xB4200003 = State.reset.unit
    ∧ headerUnit 0xB4200F83 ≠ State.reset.unit ∧ headerUnit 0xB4200F83 = 31 ∧ headerKind 0xB4300003 ≠ 1
    ∧ headerKind 0xB4300003 ≠ 2 ∧ headerUnit 0xB4200083 ≠ State.reset.unit ∧ headerUnit 0xB4200083 ≠ 31 := by
  decide
theorem witness_ReturnFramesComplete : (inCheck 0xB4300003).link.throughUp = true
    ∧ (inCheck 0xB4300003).link.rxThrough = .check 0xB4300003 [] 0xB4300003
    ∧ (inCheck 0xB4200003).link.programUp = true
    ∧ (inCheck 0xB4200003).link.rxProgram = .check 0xB4200003 [] 0xB4200003
    ∧ headerKind 0xB4300003 = 3 ∧ headerKind 0xB4200003 = 2 ∧ headerUnit 0xB4200083 ≠ 31 := by decide
theorem witness_SampleFrameArrival :
    15 < headerAux 0xB4110003 ∧ headerAux 0xB410F003 ≤ 15
    ∧ (({} : SourceMonitor).records)[15]? = some ({} : SourceRecord)
    ∧ field 0x00000007 21 16 = 0 ∧ 32 < field 0x00210007 21 16 ∧ field 0x00010007 21 16 = 1
    ∧ field 0x00200007 21 16 = 32 ∧ ({} : SourceRecord).lastSeq ≠ some 7 ∧ ({} : SourceRecord).fifo.length < 4
    ∧ ({ lastSeq := some 7 } : SourceRecord).lastSeq = some 7
    ∧ 4 ≤ ({ fifo := List.replicate 4 ⟨0, []⟩ } : SourceRecord).fifo.length
    ∧ ({ lastSeq := some 65535 } : SourceRecord).lastSeq = some 65535 ∧ 65535 < 65536 := by decide
theorem witness_RequestArrival :
    (∃ x ∈ (asked .reset .query []).requests.entries,
      x.origin = .program ∧ x.station = field 0x01072000 26 24 ∧ x.number = field 0x01072000 23 16)
    ∧ State.reset.requests.entries.length < 16 ∧ 16 ≤ (List.replicate 16 (entry .query [])).length
    ∧ RequestCode.ofNumber (field 0x01070F00 15 8) = none
    ∧ RequestCode.ofNumber (field 0x01072400 15 8) = some .unitReset := by decide
theorem witness_QueueServerChoice : (asked .reset .query [0]).choice = some (entry .query [0])
    ∧ (asked .reset .query [0]).requests.Lawful
    ∧ ∀ x ∈ (asked .reset .query [0]).requests.entries, x.priority ≤ 3 := by decide +kernel
/-- Frames wait in every queue and one is in transmission on every link. -/
def sending : LinkUnit :=
  { stageUp := true, throughUp := true, programUp := true, txThrough := some [], txStageReturn := some []
    txProgram := some [], repeatQ := [[1]], stageReplyQ := [[2]], relayQ := [[3]], streamQ := [[4]]
    programReplyQ := [[5]], readoutQ := [[6]] }
theorem witness_TransmissionEnds : sending.throughUp = true ∧ sending.txThrough = some []
    ∧ sending.stageUp = true ∧ sending.txStageReturn = some [] ∧ sending.programUp = true
    ∧ sending.txProgram = some [] ∧ sending.stageReplyQ = [2] :: [] ∧ sending.relayQ = [3] :: []
    ∧ sending.marker = .relay ∧ sending.streamQ = [4] :: [] ∧ sending.programReplyQ = [5] :: []
    ∧ sending.readoutQ = [6] :: [] := by decide
/-- The links' offers at the ends of their ranges: a queue one short of full, a full one, and an idle link. -/
theorem witness_Offers : sending.throughUp = true ∧ sending.repeatQ.length < 2 ∧ sending.txThrough ≠ none
    ∧ (List.replicate 1 ([] : Frame)).length < 2 ∧ 2 ≤ (List.replicate 2 ([] : Frame)).length
    ∧ (List.replicate 7 ([] : Frame)).length < 8 ∧ 8 ≤ (List.replicate 8 ([] : Frame)).length
    ∧ (List.replicate 15 ([] : Frame)).length < 16 ∧ 16 ≤ (List.replicate 16 ([] : Frame)).length
    ∧ ({ stageUp := true, throughUp := true, programUp := true } : LinkUnit).txProgram = none
    ∧ ({} : LinkUnit).throughUp = false ∧ sending.txProgram ≠ none ∧ sending.txStageReturn ≠ none := by decide
/-- A readout of a station of each link runs when that link goes DOWN, and one of a stage station when the
program link does. -/
theorem witness_ReadoutsEndWithTheirLink :
    (following.readout.origin = .program ∧ following.readout.state ≠ .idle ∧ following.ReadoutNamed)
    ∧ (let s : State := { following with
        readout := { following.readout with origin := .stage }
        requests := { entries := [{ entry .readTake [] with origin := .stage }], nextArrival := 1 } }
      s.ReadoutNamed ∧ s.readout.origin = .stage ∧ s.readout.state ≠ .idle ∧ s.requests.Lawful
        ∧ ∀ r ∈ s.requests.entries, r.origin = .stage ∧ r.arrival = s.readout.arrival) := by
  unfold State.ReadoutNamed; decide +kernel
theorem witness_LinksGoDown : sending.stageUp = true ∧ State.reset.readout.state = .idle
    ∧ ({ state := .following, origin := .stage } : ReadoutEngine).state ≠ .idle
    ∧ ({ state := .following, origin := .program } : ReadoutEngine).origin = .program
    ∧ State.reset.link.stageUp = false ∧ State.reset.link.throughUp = false
    ∧ State.reset.link.programUp = false := by decide

theorem witness_NamedRowEvents :
    let r : SourceRecord := { presence := .present, misses := 7 }
    let q : SourceRecord := { presence := .acquiring, acquire := 47, fifo := [⟨9, [1]⟩] }
    (r.presence = .present ∧ r.fifo = [] ∧ r.limit ≤ r.misses + 1)
      ∧ (q.presence = .acquiring ∧ q.fifo ≠ [] ∧ 48 ≤ q.acquire + 1)
      ∧ (⟨[7, 8], 48, 0, 47⟩ : Generator).hold ≤ (⟨[7, 8], 48, 0, 47⟩ : Generator).position + 1
      ∧ [r, q][1]? = some q := by decide
theorem witness_SourcesInARow : State.reset.sources.records[15]? = some ({} : SourceRecord)
    ∧ ({} : SourceRecord).presence = .absent ∧ ({} : SourceRecord).fifo = [] := by decide
theorem witness_Rows : State.reset.Sized ∧ State.reset.NothingDue ∧ mounted.store.state ≠ .unmounted
    ∧ mounted.Sized ∧ mounted.NothingDue ∧ (⟨5, 0⟩ : Conceal).fade = 0 :=
  ⟨reset_sized, reset_nothingDue, by decide, by unfold State.Sized; decide +kernel,
    by unfold State.NothingDue; decide +kernel, rfl⟩
theorem witness_TrackInARow : ({ source := 16 } : Route).source = 16 ∧ ({ source := 15 } : Route).source < 16
    ∧ ({ presence := .present, fifo := [⟨0, [5]⟩] } : SourceRecord).fifo = ⟨0, [5]⟩ :: []
    ∧ ({ presence := .present } : SourceRecord).fifo = [] ∧ ({} : SourceRecord).presence ≠ .present
    ∧ ({ enabled := true } : Route).enabled = true ∧ ({} : Route).enabled = false ∧ 127 < 128 := by decide
/-- The eraser has a DIRTY extent and no erase at the port; a readout fetch waits behind an erase. -/
theorem witness_RowTouchesNothingElse :
    (let s : State := { mounted with store := { mounted.store with
        table := [(2, ⟨.free, none⟩), (3, ⟨.dirty, none⟩)] } }
     s.store.state = .mounted ∧ s.store.waiting = [] ∧ s.store.inFlight = none
       ∧ s.store.table = [(2, ⟨.free, none⟩)] ++ (3, ⟨.dirty, none⟩) :: []
       ∧ ∀ y ∈ [((2 : Nat), (⟨.free, none⟩ : Extent))], y.2.state ≠ .dirty)
    ∧ [PortOp.eraserBadMark 9, .readoutFetch ⟨2, 0⟩ true, .eraserErase 3]
      = [PortOp.eraserBadMark 9] ++ .readoutFetch ⟨2, 0⟩ true :: [.eraserErase 3]
    ∧ (inFlight mounted (.eraserErase 3) 0).store.inFlight = some ⟨.eraserErase 3, 0⟩ := by decide +kernel
/-- A mix boundary is due at row 32. -/
def mixDue : State := { sources := { rowCounter := 32, boundaryDue := true } }
theorem witness_MixBoundarySwapsAndCodes : mixDue.sources.boundaryDue = true ∧ mixDue.sources.rowCounter ≠ 0
    ∧ mixDue.stream.length = 8 ∧ mixDue.link.programUp = false ∧ sending.txProgram ≠ none
    ∧ sending.streamQ.length + 8 ≤ 16 := by decide
/-- The program link is busy with room for one of two frames, and idle with none waiting. -/
theorem witness_MixBoundaryOffers :
    (let s : State := { mixDue with
        stream := { mode := .m16 } :: { mode := .m20 } :: List.replicate 6 {}
        link := { programUp := true, txProgram := some [], streamQ := List.replicate 15 [] } }
     s.sources.boundaryDue = true ∧ s.sources.rowCounter ≠ 0 ∧ s.stream.length = 8
       ∧ s.link.programUp = true ∧ s.link.txProgram ≠ none ∧ 16 - s.link.streamQ.length = 1
       ∧ (s.stream.take 0).countP (fun b => b.mode ≠ .disabled) < 1
       ∧ ¬ (s.stream.take 1).countP (fun b => b.mode ≠ .disabled) < 1)
    ∧ (let s : State := { mixDue with link := { programUp := true } }
      s.link.programUp = true ∧ s.link.txProgram = none ∧ s.link.streamQ = []) := by decide
theorem witness_WindowEndPublishes :
    ({ windowCounter := 4800 } : MeterUnit).windowCounter = windowLength .k48
    ∧ ({} : MeterUnit).levels.length = 136 ∧ ({} : MeterUnit).tracks.length = 128
    ∧ ({} : MeterUnit).levels[135]? = some ({} : LevelMeter) ∧ ({} : MeterUnit).tracks[127]? = some ({} : TrackMeter) := by decide +kernel

theorem reset_mixLawful : State.reset.mix.Lawful := by decide +kernel
/-- The requests of the sample path are served from reset with any operands. -/
theorem served_reset (c : RequestCode) (ops : List Word) :
    Served (asked .reset c ops) c (entry c ops) ∧ (asked .reset c ops).Sized
      ∧ (asked .reset c ops).mix.Lawful := ⟨served _ _ _ rfl rfl rfl rfl, reset_sized, reset_mixLawful⟩

theorem witness_TrackSetWritesOneRoute :
    (entry .trackSet [0x00800000]).operands.length = 1 ∧ 128 ≤ field 0x00800000 31 16
    ∧ field 0x007F0001 31 16 = 127 ∧ (entry .trackSet [0x007F0001, 2]).trackFields = [0]
    ∧ ({} : Route).writeAll [0] [2] = none
    ∧ ({} : Route).writeAll [0] [1] = some { ({} : Route) with enabled := true }
    ∧ (entry .trackSet [0x007F0000]).trackFields = []
    ∧ poolCount (List.replicate 32 { enabled := true, delay := 8191 }) ≤ 262144
    ∧ 262144 < poolCount (List.replicate 33 { enabled := true, delay := 8191 })
    ∧ (withTake .opened).liveTake.any (fun k => k.trackSet.contains 0) = true := by decide +kernel
theorem witness_TrimCorrectRescales : field 0x00800000 31 16 = 128 ∧ (0xFFF85EE0 : Word).toInt = -500000
    ∧ (0xFFF85EDF : Word).toInt < -500000 ∧ (0x000F4240 : Word).toInt = 1000000
    ∧ 1000000 < (0x000F4241 : Word).toInt := by decide
theorem witness_SourceRequestsTakeHold : field 0x00100000 31 16 = 16 ∧ field 0x000F0000 31 16 < 16
    ∧ field 0x00010001 7 0 < 2 ∧ 16 < field 0x00010011 7 0 ∧ field 0x00000002 31 16 = 0
    ∧ ¬ ((0x00800000 : Word).toInt ≤ 8388607) ∧ (0x007FFFFF : Word).toInt = 8388607
    ∧ field 0x00010010 7 0 = 16 := by decide
theorem witness_MixRequestsTakeHold :
    128 ≤ field 0x00800001 31 16 ∧ 8 ≤ field 0x00000801 15 8 ∧ field 0x00000000 7 0 = 0
    ∧ 32 < field 0x00000021 7 0 ∧ 1024 < 8 * field 0x007F0702 31 16 + field 0x007F0702 15 8 + field 0x007F0702 7 0
    ∧ 8 * field 0x007F0701 31 16 + field 0x007F0701 15 8 + field 0x007F0701 7 0 = 1024 := by decide
theorem witness_SettingsRequestsTakeHold : 3 < field 0x00000004 3 0 ∧ field 0x33333333 31 28 ≤ 3
    ∧ 1 < field 0x80000000 31 30 ∧ field 0x7FFFFFFF 31 30 = 1 ∧ 1 < field 0x40000002 29 0
    ∧ ({ state := .mounting } : StoreController).state = .mounting := by decide
theorem witness_SamplePathReads : 128 ≤ field 0x00800100 31 16 ∧ field 0x00000000 15 8 = 0
    ∧ 4 < field 0x00000500 15 8 ∧ 128 < field 0x007F0200 31 16 + field 0x007F0200 15 8
    ∧ field 0x007F0100 31 16 + field 0x007F0100 15 8 = 128
    ∧ field 0x00100100 31 16 + field 0x00100100 15 8 = 17
    ∧ field 0x00870100 31 16 + field 0x00870100 15 8 = 136
    ∧ field 0x00000001 3 0 = 1 ∧ field 0x00000102 3 0 = 2 ∧ ¬ (field 0x00000003 3 0 = 1 ∨ field 0x00000003 3 0 = 2)
    ∧ ¬ (1 % 32 = 0) ∧ ({ glideStart := some [], rowGlided := true } : MixEngine).glideStart ≠ none
    ∧ ({ rowGlided := true } : MixEngine).rowGlided = true := by decide
/-- A record with every field at the end of its range fits a slot. -/
theorem witness_Storable : TakeRecord.Storable {
    number := 65535, state := .interrupted, lossCount := 65535, pageCount := 16777216, packetCount := 4294967295
    endIndex := some 4294967295, trackSet := [0, 127], label := some (List.replicate 32 126)
    pauses := List.replicate 16 ⟨1, some 4294967295⟩ } := by decide +kernel
theorem witness_StoreAndUnitReads :
    Served (asked (withTake .closed) .takeList [0x00010001]) .takeList (entry .takeList [0x00010001])
    ∧ (withTake .closed).store.state = .mounted ∧ State.reset.store.state ≠ .mounted
    ∧ bitSet 0x00010001 16 = true ∧ bitSet 0 16 = false
    ∧ ((withTake .closed).takes.records.filter fun k => !k.deleting).find? (fun k => k.number = 1)
      = (withTake .closed).takes.records.head?
    ∧ field 0x02070700 31 24 = 2 ∧ field 0x02070700 23 16 ≤ 7 ∧ 7 < field 0x02080700 23 16
    ∧ field 0x03000000 31 24 ≠ 1 ∧ field 0x03000000 31 24 ≠ 2 :=
  ⟨served _ _ _ rfl rfl rfl rfl, by decide, by decide, by decide, by decide, by decide +kernel, by decide,
    by decide, by decide, by decide, by decide⟩

theorem mounted_sized : mounted.Sized := by unfold State.Sized; decide +kernel
theorem mounted_catalogReady : mounted.CatalogReady := by unfold State.CatalogReady; decide +kernel
theorem withTake_catalogReady (st : TakeState) : (withTake st).CatalogReady := by
  unfold State.CatalogReady; cases st <;> decide +kernel
/-- A request served on a MOUNTED store without takes, and on one with a take. -/
theorem served_mounted (c : RequestCode) (ops : List Word) :
    Served (asked mounted c ops) c (entry c ops) ∧ (asked mounted c ops).Sized
      ∧ (asked mounted c ops).CatalogReady :=
  ⟨served _ _ _ rfl rfl rfl rfl, mounted_sized, mounted_catalogReady⟩
theorem served_withTake (st : TakeState) (c : RequestCode) (ops : List Word) :
    Served (asked (withTake st) c ops) c (entry c ops) ∧ (asked (withTake st) c ops).CatalogReady :=
  ⟨served _ _ _ (by cases st <;> rfl) (by cases st <;> rfl) (by cases st <;> rfl) (by cases st <;> rfl), withTake_catalogReady st⟩

theorem witness_TakeOpenCreatesTheRecord :
    mounted.store.state = .mounted ∧ mounted.liveTake = none ∧ (withTake .opened).liveTake ≠ none
    ∧ mounted.store.freeList = 2 :: [3] ∧ mounted.takes.records.length < 64 ∧ mounted.takes.nextTake < 65536
    ∧ 32 < field 0x21 5 0 ∧ (entry .takeOpen [1]).operands.length < 1 + (field 1 5 0 + 3) / 4
    ∧ (entry .takeOpen [1, 0x7F000000]).labelCodes = [127] ∧ (entry .takeOpen [1, 0x7E000000]).labelCodes = [126]
    ∧ State.reset.store.freeList = [] := by decide +kernel
/-- The write a TAKE_OPEN asks for waits behind one in flight, or has no sequence left. -/
theorem witness_TakeOpenWaitsOrFails :
    (let s : State := { mounted with takes := { mounted.takes with write := some ⟨[], 0, [.mount]⟩ } }
     Served (asked s .takeOpen [0]) .takeOpen (entry .takeOpen [0]) ∧ (asked s .takeOpen [0]).takes.write ≠ none)
    ∧ (let s : State := { mounted with takes := { mounted.takes with catSeq := 4294967295 } }
      Served (asked s .takeOpen [0]) .takeOpen (entry .takeOpen [0]) ∧ (asked s .takeOpen [0]).CatalogStopped) :=
  ⟨⟨served _ _ _ rfl rfl rfl rfl, by decide⟩, served _ _ _ rfl rfl rfl rfl, rfl, .inr (by decide)⟩
theorem witness_TransitionsAreArmed :
    [TakeState.opened, .paused, .closing].all (fun st => (withTake st).liveTake.any (·.state = st)) = true
    ∧ (withTake .opened).store.state = .mounted ∧ mounted.liveTake = none
    ∧ (List.replicate 16 (⟨1, some 2⟩ : Interval)).length = 16 := by decide +kernel
theorem witness_ProtectAndDeleteAskTheCatalog :
    (withTake .closed).takes.record 1 = (withTake .closed).takes.records.head?
    ∧ (withTake .closed).takes.record 2 = none ∧ TakeState.live .closed = false ∧ TakeState.live .paused = true
    ∧ (withTake .closed).takes.records.all (fun k => !k.isProtected) = true := by decide +kernel
/-- A state whose catalog write is in flight, and one whose sequence is at its greatest value. -/
def joining (s : State) : State := { s with takes := { s.takes with write := some ⟨[], 0, [.exhaustionClose]⟩ } }
def stopped (s : State) : State := { s with takes := { s.takes with catSeq := 4294967295 } }
theorem stopped_catalogStopped (s : State) (h : s.takes.write = none) : (stopped s).CatalogStopped :=
  ⟨h, .inr (Nat.le_refl _)⟩
/-- The write that a TAKE_PROTECT, TAKE_UNPROTECT or TAKE_DELETE asks for waits, or fails at once. -/
theorem witness_ProtectWaitsOrFails (c : RequestCode) :
    (let s := asked (joining (withTake .closed)) c [1]
     Served s c (entry c [1]) ∧ s.takes.write ≠ none ∧ s.takes.record 1 ≠ none)
    ∧ (let s := asked (stopped (withTake .closed)) c [1]
      Served s c (entry c [1]) ∧ s.CatalogStopped ∧ s.takes.record 1 ≠ none) :=
  ⟨⟨served _ _ _ rfl rfl rfl rfl, by cases c <;> decide +kernel, by cases c <;> decide +kernel⟩,
    served _ _ _ rfl rfl rfl rfl, stopped_catalogStopped (asked (withTake .closed) c [1]) rfl,
    by cases c <;> decide +kernel⟩
theorem witness_ArchiveBoundaryIndexesAndCodes :
    (atBoundary (withTake .opened)).Sized ∧ (atBoundary (withTake .opened)).sources.boundaryDue = true
    ∧ (atBoundary (withTake .opened)).sources.rowCounter = 0
    ∧ (withTake .opened).liveTake = (withTake .opened).takes.records.head? ∧ mounted.liveTake = none
    ∧ (withTake .opened).coder.nextIndex = some 5 ∧ (withTake .opened).takes.armed = none
    ∧ (withTake .opened).takes.records.map (·.trackSet) = [[0]]
    ∧ 0 + (((withTake .opened).packetOf 0 5).length) ≤ 16384
    ∧ 16384 < 16384 + ((withTake .opened).packetOf 0 5).length :=
  ⟨by unfold State.Sized; decide +kernel, rfl, rfl, by decide +kernel, by decide +kernel, rfl, rfl, rfl,
    by decide +kernel, by decide +kernel⟩
theorem witness_TransitionsTakeHold :
    (withTake .opened).CatalogReady ∧ (withTake .paused).CatalogReady
    ∧ (withTake .paused).liveTake.map (·.begun) = some true ∧ (withTake .paused).store.queue = []
    ∧ (withTake .paused).store.pageA.state = .empty ∧ (withTake .paused).store.writeState ≠ none
    ∧ 4294967294 < 4294967295 :=
  ⟨withTake_catalogReady _, withTake_catalogReady _, by decide, by decide, by decide,
    by decide, by decide⟩
/-- A take with a pause, a resume or a close armed whose request stands in the queue. -/
def armed (st : TakeState) (c : RequestCode) (a : Transition) (k : StoreOpKind) : State :=
  let s := atBoundary (asked (withTake st) c [])
  { s with
    takes := { s.takes with armed := some a }
    requests := { s.requests with storeOp := some ⟨k, 0⟩ } }
/-- The write that a transition asks for waits, or fails at once with the request that it answers. -/
theorem witness_TransitionsWaitOrFail :
    ([armed .opened .takePause .pause .pause, armed .paused .takeResume .resume .resume,
      armed .paused .takeClose .close .close].all fun s =>
        s.sources.boundaryDue && s.sources.rowCounter = 0 && (joining s).takes.write ≠ none
        && (stopped s).takes.write = none && decide (4294967295 ≤ (stopped s).takes.catSeq)
        && (stopped s).requests.storeOp.any (fun op => op.arrival = 0)
        && s.requests.entries.all (fun e => e.arrival = 0) && s.requests.entries ≠ []
        && s.coder.nextIndex = some 5 && s.liveTake.any (fun k => k.begun)
        && s.readout.state ≠ .following) = true
    ∧ (armed .opened .takePause .pause .pause).requests.Lawful
    ∧ (armed .opened .takePause .pause .pause).requests.storeOp = some ⟨.pause, 0⟩
    ∧ (armed .paused .takeClose .close .close).requests.storeOp = some ⟨.close, 0⟩ := by decide +kernel
/-- A PAUSED take with a partly filled page, and one STALLED with a page WAITING and words in the queue. -/
theorem witness_DrainsBegin :
    (let s : State := { withTake .paused with store := { (withTake .paused).store with
        pageA := { state := .filling, take := 1, words := [⟨5, true⟩] } } }
     s.store.queue = [] ∧ s.store.pageA.state = .filling ∧ s.store.pageB.state = .empty
       ∧ s.store.writeState = some ⟨some 2, 0, 0, false⟩ ∧ s.store.extent 2 = some ⟨.owned, some ⟨1, 0, 0⟩⟩
       ∧ s.store.answers 2 = true ∧ s.liveTake.map (·.state) = some .paused)
    ∧ (let s : State := { withTake .paused with store := { (withTake .paused).store with
        table := [(2, ⟨.bad, some ⟨1, 0, 0⟩⟩)], writeState := some ⟨some 2, 1, 2, true⟩, queue := [⟨7, false⟩]
        pageA := { state := .waiting, take := 1, pageSeq := 1, words := [⟨5, true⟩] } } }
      s.store.freeList = [] ∧ s.store.extent 2 = some ⟨.bad, some ⟨1, 0, 0⟩⟩ ∧ s.store.pageA.state = .waiting
        ∧ s.store.pageB.state = .empty ∧ s.store.pageA.pageSeq ≤ 2 ∧ s.liveTake.map (·.state) = some .paused) := by
  decide +kernel
/-- The greatest index with a pause armed whose request stands in the queue. -/
theorem witness_ExhaustionAnswers :
    (let s : State := { asked (withTake .opened) .takePause [] with
        takes := { (withTake .opened).takes with armed := some .pause }
        requests := { (asked (withTake .opened) .takePause []).requests with storeOp := some ⟨.pause, 0⟩ } }
     s.requests.storeOp = some ⟨.pause, 0⟩ ∧ s.requests.Lawful ∧ entry .takePause [] ∈ s.requests.entries
       ∧ (entry .takePause []).arrival = 0 ∧ s.readout.state ≠ .following) := by decide +kernel
theorem witness_StoreFormatIsAccepted : mounted.store.state = .mounted ∧ mounted.store.module 0 = .answering
    ∧ mounted.takes.records = [] ∧ mounted.liveTake = none ∧ mounted.readout.state = .idle
    ∧ mounted.store.extent 0 = some ⟨.catalog, none⟩ := by decide
theorem witness_ReadoutStartsAndStops :
    (withTake .closed).takes.record 1 = (withTake .closed).takes.records.head?
    ∧ 4095 < field 0x10000002 31 16 ∧ field 0x0FFF0002 31 16 = 4095 ∧ field 0x00000003 3 0 ≠ 1
    ∧ field 0x00000002 3 0 = 2 ∧ field 0x00FFFFFF 23 0 = 16777215
    ∧ (withTake .opened).store.locate 1 0 = some ⟨2, 0⟩ ∧ (withTake .opened).store.answers 2 = true
    ∧ (withTake .opened).store.queue.length ≤ (withTake .opened).store.backlog
    ∧ ({ state := .following, arrival := 3 } : ReadoutEngine).state ≠ .idle := by decide +kernel
/-- A CLOSED take with three pages, and page 2 of another take that no extent holds. -/
theorem witness_ReadoutFindsItsPage :
    (let s : State := { withTake .closed with takes := { (withTake .closed).takes with
        records := [{ number := 1, state := .closed, pageCount := 3 }] } }
     s.takes.record 1 = some { number := 1, state := .closed, pageCount := 3 } ∧ 2 < 3
       ∧ s.store.locate 1 2 = some ⟨2, 2⟩ ∧ s.store.answers 2 = true ∧ s.store.locate 2 2 = none
       ∧ s.store.backlog < (List.replicate 8193 (⟨0, true⟩ : PacketWord)).length) := by decide +kernel
/-- Two frames of a readout wait and a third is held; the note at the head is that of a page's last frame. -/
def departing (last : Bool) : State := { following with
  link := { programUp := true, txProgram := some [], readoutQ := [[2], [3]] }
  readout := { following.readout with
    state := .sending, held := some ⟨[4], ⟨false, false, false⟩⟩, notes := [⟨true, true, last⟩, ⟨false, false, false⟩] } }
theorem witness_FramesLeave : (departing true).link.programUp = true ∧ (departing true).link.txProgram ≠ none
    ∧ (departing true).link.streamQ = [] ∧ (departing true).link.programReplyQ = []
    ∧ (departing true).link.readoutQ = [2] :: [[3]]
    ∧ (departing true).readout.notes = ⟨true, true, true⟩ :: [⟨false, false, false⟩]
    ∧ entry .readTake [] ∈ (departing true).requests.entries ∧ (departing true).requests.Lawful
    ∧ (entry .readTake []).arrival = (departing true).readout.arrival
    ∧ (departing false).readout.held = some ⟨[4], ⟨false, false, false⟩⟩
    ∧ (departing false).readout.state = .sending := by decide +kernel
/-- Nothing is listed in a blank module: a fetch gives the erased page, and a failed one gives nothing. -/
theorem fetched_blank (s : State) (a : PageAddress) (h : s.flash = []) :
    s.fetched a .asStored = some erasedPage ∧ s.fetched a .failed ≠ some erasedPage := by
  simp [State.fetched, h, FlashMemory.read]

theorem witness_ReadoutGoesOn :
    let s := inFlight (withTake .closed) (.readoutFetch ⟨2, 0⟩ true) 0
    s.store.inFlight = some ⟨.readoutFetch ⟨2, 0⟩ true, 0⟩ ∧ s.fetched ⟨2, 0⟩ .asStored = some erasedPage
    ∧ erasedPage.data.length = 4096 ∧ s.readout.held = none ∧ sending.programUp = true
    ∧ ({ sending with readoutQ := [] } : LinkUnit).readoutQ = [] ∧ 3927 + 168 < 4096 ∧ 4040 ≤ 4040
    ∧ ({ state := .holding, countdown := 0 } : ReadoutEngine).state = .holding :=
  ⟨rfl, (fetched_blank _ _ rfl).1, List.length_replicate .., by decide, by decide, by decide,
    by decide, by decide, by decide⟩
theorem witness_ReservationsAndResets :
    field 1 7 0 = 1 ∧ field 2 7 0 = 2 ∧ field 0 7 0 ≠ 1 ∧ field 3 7 0 ≠ 2
    ∧ State.reset.requests.reserveStore = none ∧ State.reset.liveTake = none
    ∧ (withTake .opened).liveTake ≠ none
    ∧ Served (asked .reset .reserve [2]) .reserve (entry .reserve [2])
    ∧ Served (asked .reset .unitReset []) .unitReset (entry .unitReset []) :=
  ⟨by decide, by decide, by decide, by decide, rfl, by decide, by decide, served _ _ _ rfl rfl rfl rfl,
    served _ _ _ rfl rfl rfl rfl⟩
/-- The current extent is OWNED and a page of it is in flight. -/
def programming : State :=
  inFlight { withTake .opened with
    store := { (withTake .opened).store with pageA := { state := .programming, take := 1 } } }
    (.archiveProgram ⟨2, 0⟩ erasedPage) 4800
theorem witness_ArchivePageEnds :
    programming.store.inFlight = some ⟨.archiveProgram ⟨2, 0⟩ erasedPage, 4800⟩
    ∧ programming.store.verify = true ∧ programming.liveTake = (withTake .opened).takes.records.head?
    ∧ programming.store.writeState = some ⟨some 2, 0, 0, false⟩ ∧ programming.store.extent 2 ≠ none
    ∧ (2 ∉ programming.store.freeList) ∧ programming.store.freeList = 3 :: [] ∧ programming.store.queue = []
    ∧ programming.store.pageA.state = .programming ∧ programming.store.pageB.state = .empty
    ∧ programming.fetched ⟨2, 0⟩ .asStored = some erasedPage ∧ programming.fetched ⟨2, 0⟩ .failed ≠ some erasedPage
    ∧ (inFlight mounted (.archiveBadMark 3) 0).store.inFlight = some ⟨.archiveBadMark 3, 0⟩ :=
  ⟨rfl, by decide, by decide, by decide, by decide, by decide, by decide, by decide, by decide, by decide,
    (fetched_blank _ _ rfl).1, (fetched_blank _ _ rfl).2, rfl⟩
/-- A page is released while the queue holds words, while the other page waits for a page of the current
extent or for a new one, and as the last of a CLOSING take that a readout follows. -/
theorem witness_PagesMoveOn :
    (let s : State := { programming with store := { programming.store with
        pageB := { state := .waiting, take := 1, pageSeq := 1 }, writeState := some ⟨some 2, 127, 2, false⟩ } }
     s.store.pageA.state = .programming ∧ s.store.pageB.state = .waiting ∧ s.store.queue = []
       ∧ s.store.extent 2 = some ⟨.owned, some ⟨1, 0, 0⟩⟩ ∧ s.store.answers 2 = true ∧ 128 ≤ 127 + 1 ∧ 126 + 1 < 128
       ∧ s.store.freeList = 3 :: [] ∧ s.store.chainNext 1 = 1)
    ∧ [(⟨7, true⟩ : PacketWord)] ≠ [] ∧ (List.replicate 4091 (⟨7, true⟩ : PacketWord)).length < 4092
    ∧ (let s : State := { programming with
        takes := { (withTake .closing).takes with write := none }
        readout := { state := .following, origin := .program, take := 1, nextPage := 1 }
        link := { programUp := true, txProgram := some [] } }
      s.liveTake.map (·.state) = some .closing ∧ s.store.writeState ≠ none ∧ s.store.stalled = false
        ∧ s.takes.write = none ∧ s.store.answers 0 = true ∧ s.takes.catSeq < 4294967295
        ∧ s.takes.record 1 = s.takes.records.head? ∧ 0 < s.readout.nextPage ∧ s.readout.held = none
        ∧ s.link.programUp = true ∧ s.link.txProgram ≠ none ∧ s.link.readoutQ = []) := by decide +kernel
/-- The last page of a CLOSING take with its TAKE_CLOSE in the queue; its write waits, or fails at once. -/
theorem witness_ClosingWriteWaitsOrFails :
    let s : State := { programming with
        takes := (withTake .closing).takes
        requests := (armed .closing .takeClose .close .close).requests }
    s.liveTake.map (·.state) = some .closing ∧ s.store.writeState ≠ none ∧ s.store.stalled = false
      ∧ s.store.pageA.state = .programming ∧ s.store.pageB.state = .empty ∧ s.store.queue = []
      ∧ s.requests.storeOp = some ⟨.close, 0⟩ ∧ s.requests.Lawful ∧ s.requests.entries = [entry .takeClose []]
      ∧ s.readout.state ≠ .following ∧ (joining s).takes.write ≠ none ∧ (stopped s).takes.write = none
      ∧ Config.indexMax ≤ (stopped s).takes.catSeq := by decide +kernel
/-- A TAKE_PROTECT waits on a catalog write whose program is in flight. -/
def writing (failed : Nat) : State :=
  inFlight { asked (withTake .closed) .takeProtect [1] with
    takes := { (withTake .closed).takes with write := some ⟨[], failed, [.storeOperation]⟩ }
    requests := { (asked (withTake .closed) .takeProtect [1]).requests with
      storeOp := some ⟨.protect 1 false, 0⟩ } }
    (.catalogProgram ⟨0, 0⟩ erasedPage) 0
theorem witness_CatalogWriteEnds :
    (writing 3).takes.write = some ⟨[], 3, [.storeOperation]⟩ ∧ (writing 3).takes.waiting = none
    ∧ (writing 3).requests.storeOp = some ⟨.protect 1 false, 0⟩ ∧ (writing 3).requests.Lawful
    ∧ entry .takeProtect [1] ∈ (writing 3).requests.entries ∧ (entry .takeProtect [1]).arrival = 0
    ∧ (writing 2).store.answers 0 = true ∧ (writing 2).takes.catSeq < 4294967295 ∧ (writing 2).takes.catNext < 128
    ∧ (writing 2).fetched ⟨0, 0⟩ .asStored = some erasedPage ∧ (writing 2).fetched ⟨0, 0⟩ .failed ≠ some erasedPage
    ∧ (inFlight (writing 0) (.catalogErase 1) 0).store.inFlight = some ⟨.catalogErase 1, 0⟩ :=
  ⟨rfl, rfl, rfl, by decide +kernel, by decide, rfl, by decide, by decide, by decide,
    (fetched_blank _ _ rfl).1, (fetched_blank _ _ rfl).2, rfl⟩
/-- Another write waits behind the one in flight: one that a store operation asked for behind a close without a
request, and the other way round; it can start, in the next page or after an erase, or has no sequence left. -/
theorem witness_WaitingCatalogWrites :
    [Waiter.exhaustionClose, .storeOperation].filter (· ≠ .exhaustionClose) = [.storeOperation]
    ∧ (∀ x ∈ [Waiter.exhaustionClose], x = .exhaustionClose)
    ∧ (let s : State := { writing 3 with takes := { (writing 3).takes with
          write := some ⟨[], 3, [.exhaustionClose]⟩, waiting := some [.storeOperation] } }
      s.takes.waiting = some [.storeOperation] ∧ s.requests.storeOp = some ⟨.protect 1 false, 0⟩
        ∧ s.store.answers 0 = true ∧ s.takes.catSeq < 4294967295 ∧ s.takes.catNext < 128
        ∧ ¬ (stopped s).takes.catSeq < 4294967295 ∧ (stopped s).takes.waiting = some [.storeOperation])
    ∧ (let s : State := { writing 3 with takes := { (writing 3).takes with
          waiting := some [.exhaustionClose], catNext := 128 } }
      s.takes.write = some ⟨[], 3, [.storeOperation]⟩ ∧ s.takes.waiting = some [.exhaustionClose]
        ∧ 128 ≤ s.takes.catNext ∧ s.store.answers 0 = true ∧ s.takes.catSeq < 4294967295) := by decide +kernel
/-- The mount, or a close without a request and another write behind it, waits on the write; the current
extent is full; module 0 no longer answers. -/
theorem witness_OtherWaiters :
    (let s : State := inFlight { mounted with
        store := { mounted.store with state := .mounting, mount := some ⟨.writing, true⟩ }
        takes := { mounted.takes with write := some ⟨[], 0, [.mount]⟩, catNext := 128 } }
        (.catalogProgram ⟨0, 127⟩ erasedPage) 0
     s.takes.write = some ⟨[], 0, [.mount]⟩ ∧ s.takes.waiting = none ∧ s.store.mount = some ⟨.writing, true⟩
       ∧ 128 ≤ s.takes.catNext ∧ s.store.answers 0 = true ∧ s.takes.catSeq < 4294967295)
    ∧ (let s : State := inFlight { mounted with
        takes := { mounted.takes with write := some ⟨[], 0, [.exhaustionClose]⟩, waiting := some [.storeOperation] } }
        (.catalogProgram ⟨0, 0⟩ erasedPage) 0
      s.takes.write = some ⟨[], 0, [.exhaustionClose]⟩ ∧ s.takes.waiting = some [.storeOperation]
        ∧ s.store.answers 0 = true ∧ s.takes.catSeq < 4294967295 ∧ s.takes.catNext < 128)
    ∧ ¬ ({ store := { modules := [.fault] } } : State).store.answers 0 = true := by decide +kernel
theorem witness_ErasesEnd :
    (inFlight mounted (.eraserErase 3) 0).store.inFlight = some ⟨.eraserErase 3, 0⟩
    ∧ mounted.store.writeState = none
    ∧ (let s : State := { withTake .opened with store := { (withTake .opened).store with
          table := [(2, ⟨.bad, none⟩), (3, ⟨.dirty, none⟩)], pageA := { state := .waiting, take := 1 } } }
      s.store.freeList = [] ∧ s.store.extent 3 ≠ none ∧ s.store.queue = [] ∧ s.store.pageA.state = .waiting
        ∧ s.store.pageB.state = .empty ∧ s.store.extent 2 = some ⟨.bad, none⟩)
    ∧ (inFlight mounted (.formatErase 131071) 0).store.inFlight = some ⟨.formatErase 131071, 0⟩
    ∧ 131070 + 1 < 131072 ∧ mounted.store.answers (1 + 1) = true := by decide +kernel
/-- A format's last erase on module 0 with module 2 behind it, and with none behind it. -/
theorem witness_FormatEnds :
    (let c : StoreController := { modules := [.answering, .notFitted, .answering, .notFitted] }
     c.answers 65536 = true ∧ c.answers 32768 = false ∧ c.answers 65535 = false)
    ∧ mounted.store.answers 32768 = false ∧ mounted.store.answers 131071 = false ∧ mounted.CatalogReady
    ∧ (⟨false, true⟩ : Format).erased1 = true ∧ (joining mounted).takes.write ≠ none
    ∧ (stopped mounted).CatalogStopped ∧ (stopped mounted).store.answers 0 = true
    ∧ (⟨.format, 0⟩ : StoreOp).kind = .format :=
  ⟨by decide, by decide, by decide, mounted_catalogReady, rfl, by decide, stopped_catalogStopped _ rfl, by decide, rfl⟩
/-- A mount's step together with its fetch in flight, at the first and the last step of each kind. -/
def mounting (m : MountStep) (op : PortOp) : State :=
  inFlight { mounted with store := { mounted.store with state := .mounting, mount := some ⟨m, true⟩ } } op 0
theorem witness_MountSteps :
    ([0, 254, 255].all fun i => (mounting (.catalog i none 0 0) (.mountFetch (catalogPageAt i))).store.mount
        = some ⟨.catalog i none 0 0, true⟩
      && (mounting (.catalog i none 0 0) (.mountFetch (catalogPageAt i))).store.inFlight
        = some ⟨.mountFetch (catalogPageAt i), 0⟩ && decide (i < 256)) = true
    ∧ (mounting (.scan 131071) (.mountSpare 131071)).store.inFlight = some ⟨.mountSpare 131071, 0⟩
    ∧ (mounting (.scan 131071) (.mountSpare 131071)).store.mount = some ⟨.scan 131071, true⟩
    ∧ (mounting (.scan 2) (.mountSpare 2)).store.answers (2 + 1) = true
    ∧ (mounting (.recover ⟨1, 0, 2, [(0, []), (1, [])], false⟩) (.recoveryFetch ⟨2, 2⟩)).store.mount
      = some ⟨.recover ⟨1, 0, 2, [(0, []), (1, [])], false⟩, true⟩
    ∧ (mounting (.recover ⟨1, 0, 2, [(0, []), (1, [])], false⟩) (.recoveryFetch ⟨2, 2⟩)).store.inFlight
      = some ⟨.recoveryFetch ⟨2, 2⟩, 0⟩
    ∧ (⟨1, 0, 2, [(0, []), (1, [])], false⟩ : Recovery).pageBefore = false := by decide +kernel
theorem witness_MountGoesOn :
    State.reset.store.state = .unmounted ∧ (∀ m ∈ State.reset.store.modules, m = .notFitted)
    ∧ (inFlight mounted (.mountFetch ⟨1, 127⟩) 0).store.inFlight = some ⟨.mountFetch ⟨1, 127⟩, 0⟩
    ∧ mounted.store.answers 0 = true ∧ 255 < 256
    ∧ (inFlight mounted (.mountSpare 131071) 0).store.inFlight = some ⟨.mountSpare 131071, 0⟩
    ∧ (∀ k ∈ (withTake .closed).takes.records, k.state.live = false)
    ∧ (inFlight mounted (.recoveryFetch ⟨2, 1⟩) 0).store.inFlight = some ⟨.recoveryFetch ⟨2, 1⟩, 0⟩
    ∧ (withTake .opened).store.locate 1 (0 + 1) = some ⟨2, 1⟩
    ∧ (∀ k ∈ (withTake .opened).takes.records, k.state.live = true → k.number = 1)
    ∧ 2 ≤ [((0 : Nat), ([] : List Word)), (1, [])].length
    ∧ [((0 : Nat), ([] : List Word)), (1, [])].getLast? = some (1, []) := by decide +kernel
/-- Recoveries with no page, with one that holds or lacks a packet start, and in the page before it; extents of
lower sequence are there or not. -/
theorem witness_Recoveries :
    let s : State := { mounting (.recover ⟨1, 2, 128, [], false⟩) (.recoveryFetch ⟨3, 0⟩) with
      takes := (withTake .opened).takes
      store := { (mounting (.recover ⟨1, 2, 128, [], false⟩) (.recoveryFetch ⟨3, 0⟩)).store with
        table := [(2, ⟨.owned, some ⟨1, 0, 0⟩⟩), (3, ⟨.owned, some ⟨1, 2, 128⟩⟩)] } }
    s.store.mount = some ⟨.recover ⟨1, 2, 128, [], false⟩, true⟩
      ∧ s.store.inFlight = some ⟨.recoveryFetch ⟨3, 0⟩, 0⟩
      ∧ (2, (⟨.owned, some ⟨1, 0, 0⟩⟩ : Extent)) ∈ s.store.table ∧ 0 < 2
      ∧ s.store.locate 1 0 = some ⟨2, 0⟩ ∧ s.store.answers 2 = true
      ∧ s.store.locate 1 127 = some ⟨2, 127⟩ ∧ s.store.locate 1 256 = none
      ∧ ¬ ([0, 0, 0, 4] : List Word).getD 2 0 ≠ 0 ∧ ([0, 0, 4, 8] : List Word).getD 2 0 ≠ 0
      ∧ s.takes.write = none ∧ Config.indexMax ≤ (stopped s).takes.catSeq
      ∧ (∀ k ∈ s.takes.records, k.state.live = true → k.number = 1) := by decide +kernel
/-- A fetch that fails gives no page at all, so none that is the take's. -/
theorem witness_RecoveryFetchFails (s : State) (a : PageAddress) (good : PageImage → Prop) :
    ∀ p, s.fetched a .failed = some p → ¬ good p := by intro p h; simp [State.fetched] at h
theorem witness_TimeLimitExpires :
    programming.store.inFlight = some ⟨.archiveProgram ⟨2, 0⟩ erasedPage, 4800⟩ ∧ 4800 ≤ 4800
    ∧ (∀ o ∈ programming.store.waiting, o.extent / 32768 ≠ 0)
    ∧ (∀ x ∈ programming.store.modules.set 0 .fault, x ≠ .answering)
    ∧ programming.store.state ≠ .mounting
    ∧ (inFlight mounted (.readoutFetch ⟨2, 0⟩ true) 4800).store.waiting = [] :=
  ⟨rfl, by decide, by decide, by decide, by decide, rfl⟩

end Sys2Proof.Tests
end

section
/-!
No step takes an egress queue past its capacity (R10). Every command either changes the Link Unit by one of its own
operations, each of which keeps the capacities, or only by replies and readout frames, as `LinkSide` says.
-/

namespace Sys2Proof.Machine

/-! ## The Link Unit's own operations -/

theorem LinkUnit.setParser_bounded {l : LinkUnit} (d : Rx) (p : Parser) (h : l.Bounded) :
    (l.setParser d p).Bounded := by
  cases d <;> exact h

theorem LinkUnit.abandon_bounded {l : LinkUnit} (d : Rx) (h : l.Bounded) : (l.abandon d).Bounded := by
  unfold LinkUnit.abandon
  split
  · exact h
  all_goals exact LinkUnit.setParser_bounded (l := l) d .hunt h

theorem LinkUnit.stageDown_bounded {l : LinkUnit} (h : l.Bounded) : l.stageDown.Bounded := by
  obtain ⟨hrep, -, -, hstream, hprog, hread⟩ := LinkUnit.abandon_bounded .stageForward h
  exact ⟨hrep, Nat.zero_le _, Nat.zero_le _, hstream, hprog, hread⟩

theorem LinkUnit.programDown_bounded {l : LinkUnit} (h : l.Bounded) : l.programDown.Bounded := by
  obtain ⟨hrep, hreply, hrelay, -, -, -⟩ := LinkUnit.abandon_bounded .programReturn h
  exact ⟨hrep, hreply, hrelay, Nat.zero_le _, Nat.zero_le _, Nat.zero_le _⟩

theorem LinkUnit.throughDown_bounded {l : LinkUnit} (h : l.Bounded) : l.throughDown.Bounded := by
  obtain ⟨-, hreply, hrelay, hstream, hprog, hread⟩ := LinkUnit.abandon_bounded .throughReturn h
  exact ⟨Nat.zero_le _, hreply, hrelay, hstream, hprog, hread⟩

theorem LinkUnit.up_bounded {l : LinkUnit} (k : Link) (h : l.Bounded) : (l.up k).Bounded := by
  unfold LinkUnit.up
  split <;> split
  all_goals simp_all [LinkUnit.Bounded]

/-- A warm reset empties every egress queue (R17). -/
theorem LinkUnit.warmReset_bounded (l : LinkUnit) : l.warmReset.Bounded := by
  simp [LinkUnit.warmReset, LinkUnit.Bounded]

/-- The offers of one mix boundary keep every queue's capacity (R161, R165). -/
theorem codeBuses_side (unit : Nat) (bs : List StreamBus) :
    ∀ (n : Nat) (l : LinkUnit), LinkSide l (codeBuses unit n bs l).2 := by
  induction bs with
  | nil => exact fun _ l => .refl l
  | cons b bs ih =>
    intro n l
    have hb : LinkSide l (b.codeBlock unit n l).2 := by
      unfold StreamBus.codeBlock
      split
      · exact .refl l
      · exact l.offerStream_side _
    exact hb.trans (ih _ _)

/-! ## Words and frames that arrive, frames that have ended -/

/-- What the store, the takes, the readout and the completion of requests do keeps every queue's capacity. -/
theorem StoreSide.linkBounded {s t : State} (h : StoreSide s t) : s.link.Bounded → t.link.Bounded :=
  h.link.bounded

theorem State.requestArrives_bounded {s : State} (o : Origin) (b : Bool) (body : List Word)
    (h : s.link.Bounded) : (s.requestArrives o b body).link.Bounded := by
  unfold State.requestArrives
  dsimp only
  split
  · split
    · exact h
    · exact (State.reply_side ..).linkBounded h
  · exact h
  · split <;> exact h

theorem State.stageFrame_bounded {s : State} (w : Word) (body : List Word) (h : s.link.Bounded) :
    (s.stageFrame w body).link.Bounded := by
  unfold State.stageFrame
  split
  · exact h
  split
  · split
    · exact State.requestArrives_bounded _ _ _ h
    split
    · exact State.requestArrives_bounded _ _ _ h
    · exact h
  · exact h

theorem execStageFrameComplete_bounded {s : State} (check : Word) (h : s.link.Bounded) :
    Completes (execStageFrameComplete check s) fun t => t.link.Bounded := by
  unfold execStageFrameComplete
  split
  · dsimp only
    split
    · refine ⟨_, rfl, State.stageFrame_bounded _ _ ?_⟩
      split
      · exact h
      · exact LinkUnit.offerRepeat_bounded _ _ h
    · exact ⟨_, rfl, LinkUnit.offerRepeat_bounded _ _ h⟩
  · exact ⟨_, rfl, h⟩

theorem execThroughReturnFrameComplete_bounded {s : State} (check : Word) (h : s.link.Bounded) :
    Completes (execThroughReturnFrameComplete check s) fun t => t.link.Bounded := by
  unfold execThroughReturnFrameComplete
  split
  · dsimp only
    split
    · refine ⟨_, rfl, ?_⟩
      split
      · exact LinkUnit.offerRelay_bounded _ _ h
      · exact h
    · exact ⟨_, rfl, h⟩
  · exact ⟨_, rfl, h⟩

theorem execProgramReturnFrameComplete_bounded {s : State} (check : Word) (h : s.link.Bounded) :
    Completes (execProgramReturnFrameComplete check s) fun t => t.link.Bounded := by
  unfold execProgramReturnFrameComplete
  split
  · dsimp only
    split
    · split
      · split
        · exact ⟨_, rfl, State.requestArrives_bounded _ _ _ h⟩
        · split
          · exact ⟨_, rfl, State.requestArrives_bounded _ _ _ h⟩
          · exact ⟨_, rfl, h⟩
      · exact ⟨_, rfl, h⟩
    · exact ⟨_, rfl, h⟩
  · exact ⟨_, rfl, h⟩

theorem execFrameHeaderTaken_bounded {s : State} (d : Rx) (w : Word) (h : s.link.Bounded) :
    Completes (execFrameHeaderTaken d w s) fun t => t.link.Bounded := by
  unfold execFrameHeaderTaken
  split
  · refine ⟨_, rfl, ?_⟩
    split
    · exact LinkUnit.setParser_bounded d _ h
    · exact h
  · exact ⟨_, rfl, h⟩

theorem execStrayWord_bounded {s : State} (d : Rx) (w : Word) (h : s.link.Bounded) :
    Completes (execStrayWord d w s) fun t => t.link.Bounded := by
  unfold execStrayWord
  split
  · refine ⟨_, rfl, ?_⟩
    split <;> exact h
  · exact ⟨_, rfl, h⟩

theorem execFramingError_bounded {s : State} (d : Rx) (w : Word) (h : s.link.Bounded) :
    Completes (execFramingError d w s) fun t => t.link.Bounded := by
  unfold execFramingError
  split
  · refine ⟨_, rfl, ?_⟩
    split <;> exact h
  · exact ⟨_, rfl, h⟩

theorem execBodyWordTaken_bounded {s : State} (d : Rx) (w : Word) (h : s.link.Bounded) :
    Completes (execBodyWordTaken d w s) fun t => t.link.Bounded := by
  unfold execBodyWordTaken
  split
  · exact ⟨_, rfl, LinkUnit.setParser_bounded d _ h⟩
  · exact ⟨_, rfl, h⟩

theorem execFrameAbandoned_bounded {s : State} (d : Rx) (h : s.link.Bounded) :
    Completes (execFrameAbandoned d s) fun t => t.link.Bounded := by
  refine ⟨_, rfl, ?_⟩
  split
  · exact LinkUnit.abandon_bounded d h
  · exact h

theorem execThroughFrameEnd_bounded {s : State} (h : s.link.Bounded) :
    Completes (execThroughFrameEnd s) fun t => t.link.Bounded := by
  unfold execThroughFrameEnd
  split
  · exact ⟨_, rfl, LinkUnit.startThrough_bounded _ h⟩
  · exact ⟨_, rfl, h⟩

theorem execStageReturnFrameEnd_bounded {s : State} (h : s.link.Bounded) :
    Completes (execStageReturnFrameEnd s) fun t => t.link.Bounded := by
  unfold execStageReturnFrameEnd
  split
  · exact ⟨_, rfl, (LinkUnit.startStageReturn_side _).bounded h⟩
  · exact ⟨_, rfl, h⟩

theorem State.programFree_side (s : State) : StoreSide s s.programFree := by
  unfold State.programFree
  split
  · exact s.egress_side.trans (State.readoutAdvance_side _ _)
  · exact s.egress_side

theorem execProgramForwardFrameEnd_bounded {s : State} (h : s.link.Bounded) :
    Completes (execProgramForwardFrameEnd s) fun t => t.link.Bounded := by
  unfold execProgramForwardFrameEnd
  split
  · exact ⟨_, rfl, ((State.programFree_side _).trans (State.settlePort_side _)).linkBounded h⟩
  · exact ⟨_, rfl, h⟩

/-! ## Links going DOWN -/

theorem execStageLinkDown_bounded {s : State} (h : s.link.Bounded) :
    Completes (execStageLinkDown s) fun t => t.link.Bounded := by
  unfold execStageLinkDown
  split
  · refine ⟨_, rfl, ?_⟩
    split
    · exact (State.readoutAbort_side _).linkBounded (LinkUnit.stageDown_bounded h)
    · exact LinkUnit.stageDown_bounded h
  · exact ⟨_, rfl, h⟩

theorem execProgramLinkDown_bounded {s : State} (h : s.link.Bounded) :
    Completes (execProgramLinkDown s) fun t => t.link.Bounded := by
  unfold execProgramLinkDown
  split
  · exact ⟨_, rfl, (State.readoutAbort_side _).linkBounded (LinkUnit.programDown_bounded h)⟩
  · exact ⟨_, rfl, h⟩

theorem execThroughPortDown_bounded {s : State} (h : s.link.Bounded) :
    Completes (execThroughPortDown s) fun t => t.link.Bounded := by
  refine ⟨_, rfl, ?_⟩
  split
  · exact LinkUnit.throughDown_bounded h
  · exact h

/-! ## Boundaries and rows -/

theorem State.mixWork_bounded {s : State} (h : s.link.Bounded) : s.mixWork.link.Bounded :=
  (codeBuses_side s.unit s.stream 0 s.link).bounded h

/-- A packet offered moves on through the staging pages at most (R75, R110). -/
theorem State.offerPacket_bounded {s : State} (take t : Nat) (ws : List Word) (h : s.link.Bounded) :
    (s.offerPacket take t ws).link.Bounded := by
  unfold State.offerPacket
  split
  · exact (State.pump_side _).linkBounded h
  · exact h

theorem State.codeTracks_bounded (take i : Nat) (ts : List Nat) :
    ∀ s : State, s.link.Bounded → (s.codeTracks take i ts).link.Bounded := by
  induction ts with
  | nil => exact fun _ h => h
  | cons t ts ih => exact fun s h => ih _ (State.offerPacket_bounded take t _ h)

theorem State.endBlock_bounded {s : State} (t : TakeRecord) (i : Nat) (h : s.link.Bounded) :
    (s.endBlock t i).link.Bounded := by
  have hc : ((s.codeEnded t i).disarm).link.Bounded := by
    show (s.codeEnded t i).link.Bounded
    unfold State.codeEnded
    split
    · exact State.codeTracks_bounded _ _ _ s h
    · exact h
  unfold State.endBlock
  dsimp only
  split
  · exact (State.exhaust_side ..).linkBounded hc
  · exact ((State.raiseIndex_side ..).trans (State.takeHold_side ..)).linkBounded hc

theorem State.takeWork_bounded {s : State} (h : s.link.Bounded) : s.takeWork.link.Bounded := by
  unfold State.takeWork
  split
  · exact State.endBlock_bounded _ _ h
  · split
    · exact (State.completeStoreOp_side _ _ _).linkBounded h
    · exact h
  · exact h

theorem State.archiveBoundary_bounded {s : State} (h : s.link.Bounded) : s.archiveBoundary.link.Bounded :=
  (State.settlePort_side _).linkBounded
    (State.takeWork_bounded (State.mixWork_bounded (s := s.boundaryGiven) h))

theorem State.takeBoundary_bounded {s : State} (h : s.link.Bounded) : s.takeBoundary.link.Bounded := by
  unfold State.takeBoundary
  split
  · exact State.mixWork_bounded (s := s.boundaryGiven) h
  split
  · exact State.archiveBoundary_bounded h
  · exact h

theorem State.takeHoldExpiry_side (s : State) : StoreSide s s.takeHoldExpiry := by
  unfold State.takeHoldExpiry
  split
  · exact s.backlogTest_side.trans (State.settlePort_side _)
  · exact .refl s

theorem State.expire_bounded {s : State} (op : PortOp) (g : Bool) (h : s.link.Bounded) :
    (s.expire op g).link.Bounded := by
  have hcut : (s.operationCut op).link.Bounded := (s.operationCut_side op).link ▸ h
  exact ((State.moduleFault_side _ _).trans ((State.freePort_side _ g).trans
    ((State.operationLost_side true _ op).trans
      (StoreSide.foldl _ (State.operationLost_side false) _ _)))).linkBounded hcut

theorem State.takeExpiry_bounded {s : State} (h : s.link.Bounded) : s.takeExpiry.link.Bounded := by
  unfold State.takeExpiry
  split
  · exact (State.settlePort_side _).linkBounded
      (State.expire_bounded (s := { s with freeCount := s.freeCount + 1 }) _ _ h)
  · exact h

theorem State.takeWindowEnd_bounded {s : State} (h : s.link.Bounded) : s.takeWindowEnd.link.Bounded := by
  unfold State.takeWindowEnd
  split <;> exact h

theorem State.takeDue_bounded {s : State} (h : s.link.Bounded) : s.takeDue.link.Bounded :=
  State.takeExpiry_bounded ((State.takeHoldExpiry_side _).linkBounded
    (State.takeBoundary_bounded (State.takeWindowEnd_bounded h)))

theorem State.row_bounded {s : State} (h : s.link.Bounded) : s.row.link.Bounded :=
  ((State.mountStart_side _).trans (State.settlePort_side _)).linkBounded
    (s := s.takeDue.rowTimers.rowSamples) (State.takeDue_bounded h)

/-- A command that is an event where `b` holds, and nothing elsewhere. -/
theorem completes_ite_bounded {s u : State} (b : Bool) (hu : u.link.Bounded) (h : s.link.Bounded) :
    Completes (.next (if b then u else s)) fun t => t.link.Bounded := by
  refine ⟨_, rfl, ?_⟩
  split
  · exact hu
  · exact h

/-! ## Ends of module operations -/

theorem State.operationEnds_bounded {s : State} (op : PortOp) (ok : Bool) (h : s.link.Bounded) :
    (s.operationEnds op ok).link.Bounded := (s.operationEnds_side op ok).link ▸ h

theorem execArchiveProgramEnd_bounded {s : State} (ok g : Bool) (h : s.link.Bounded) :
    Completes (execArchiveProgramEnd ok g s) fun t => t.link.Bounded := by
  unfold execArchiveProgramEnd
  split
  · rename_i a p _ _
    refine ⟨_, rfl, (State.settlePort_side _).linkBounded ?_⟩
    have hfree := ((State.freePort_side (s.operationEnds (.archiveProgram a p) ok) g).trans
      (State.raiseWritePage_side _ a.extent)).linkBounded (State.operationEnds_bounded _ _ h)
    split
    · exact ((State.countProgramFailure_side _).trans (State.pageFailed_side _ _ _)).linkBounded hfree
    split
    · exact ((State.pageMoves_side _ _ _ _).trans (State.submit_side _ _)).linkBounded hfree
    · exact (State.pageVerified_side _ _).linkBounded hfree
  · exact ⟨_, rfl, h⟩

theorem execVerifyFetchEnd_bounded {s : State} (answer : Answer) (g : Bool) (h : s.link.Bounded) :
    Completes (execVerifyFetchEnd answer g s) fun t => t.link.Bounded := by
  unfold execVerifyFetchEnd
  split
  · refine ⟨_, rfl, (State.settlePort_side _).linkBounded ?_⟩
    have hfree := (s.freePort_side g).linkBounded h
    split
    · exact (State.pageVerified_side _ _).linkBounded hfree
    · exact ((State.countMismatch_side _).trans (State.pageFailed_side _ _ _)).linkBounded hfree
  · exact ⟨_, rfl, h⟩

theorem execBadMarkWriteEnd_bounded {s : State} (ok g : Bool) (h : s.link.Bounded) :
    Completes (execBadMarkWriteEnd ok g s) fun t => t.link.Bounded := by
  unfold execBadMarkWriteEnd
  split
  · exact ⟨_, rfl, ((State.freePort_side _ g).trans (State.settlePort_side _)).linkBounded
      (State.operationEnds_bounded _ _ h)⟩
  · exact ⟨_, rfl, ((State.freePort_side _ g).trans (State.settlePort_side _)).linkBounded
      (State.operationEnds_bounded _ _ h)⟩
  · exact ⟨_, rfl, h⟩

theorem execCatalogProgramEnd_bounded {s : State} (ok g : Bool) (h : s.link.Bounded) :
    Completes (execCatalogProgramEnd ok g s) fun t => t.link.Bounded := by
  unfold execCatalogProgramEnd
  split
  · rename_i a p _ _
    refine ⟨_, rfl, (State.settlePort_side _).linkBounded ?_⟩
    have hfree := (State.freePort_side (s.operationEnds (.catalogProgram a p) ok) g).linkBounded
      (State.operationEnds_bounded _ _ h)
    split
    · exact ((State.countProgramFailure_side _).trans (State.attemptFailed_side _)).linkBounded hfree
    split
    · exact (State.submit_side _ _).linkBounded hfree
    · exact (State.writeEnd_side _ _).linkBounded hfree
  · exact ⟨_, rfl, h⟩

theorem execCatalogVerifyEnd_bounded {s : State} (answer : Answer) (g : Bool) (h : s.link.Bounded) :
    Completes (execCatalogVerifyEnd answer g s) fun t => t.link.Bounded := by
  unfold execCatalogVerifyEnd
  split
  · refine ⟨_, rfl, (State.settlePort_side _).linkBounded ?_⟩
    have hfree := (s.freePort_side g).linkBounded h
    split
    · exact (State.writeEnd_side _ _).linkBounded hfree
    · exact ((State.countMismatch_side _).trans (State.attemptFailed_side _)).linkBounded hfree
  · exact ⟨_, rfl, h⟩

theorem execCatalogEraseEnd_bounded {s : State} (ok g : Bool) (h : s.link.Bounded) :
    Completes (execCatalogEraseEnd ok g s) fun t => t.link.Bounded := by
  unfold execCatalogEraseEnd
  split
  · rename_i e _ _
    refine ⟨_, rfl, (State.settlePort_side _).linkBounded ?_⟩
    have hfree := (State.freePort_side (s.operationEnds (.catalogErase e) ok) g).linkBounded
      (State.operationEnds_bounded _ _ h)
    split
    · exact (State.catalogErased_side _ _).linkBounded hfree
    · exact (State.writeEnd_side _ _).linkBounded hfree
  · exact ⟨_, rfl, h⟩

theorem execEraseEnd_bounded {s : State} (ok g : Bool) (h : s.link.Bounded) :
    Completes (execEraseEnd ok g s) fun t => t.link.Bounded := by
  unfold execEraseEnd
  split
  · rename_i e _ _
    refine ⟨_, rfl, (State.settlePort_side _).linkBounded ?_⟩
    have hfree := (State.freePort_side (s.operationEnds (.eraserErase e) ok) g).linkBounded
      (State.operationEnds_bounded _ _ h)
    split
    · exact ((State.setExtent_side _ _ _).trans (State.pump_side _)).linkBounded hfree
    · exact ((State.countEraseFailure_side _).trans
        ((State.extentBad_side _ _ _).trans (State.submit_side _ _))).linkBounded hfree
  · exact ⟨_, rfl, h⟩

theorem execFormatEraseEnd_bounded {s : State} (ok g : Bool) (h : s.link.Bounded) :
    Completes (execFormatEraseEnd ok g s) fun t => t.link.Bounded := by
  unfold execFormatEraseEnd
  split
  · rename_i e _ _
    refine ⟨_, rfl, ((State.formatErasedOne_side _ _ _).trans (State.settlePort_side _)).linkBounded ?_⟩
    have hfree := (State.freePort_side (s.operationEnds (.formatErase e) ok) g).linkBounded
      (State.operationEnds_bounded _ _ h)
    split
    · exact hfree
    · exact (State.countEraseFailure_side _).linkBounded hfree
  · exact ⟨_, rfl, h⟩

theorem execMountCatalogFetchEnd_bounded {s : State} (answer : Answer) (g : Bool) (h : s.link.Bounded) :
    Completes (execMountCatalogFetchEnd answer g s) fun t => t.link.Bounded := by
  unfold execMountCatalogFetchEnd
  split
  · exact ⟨_, rfl, ((s.freePort_side g).trans ((State.catalogFetched_side _ _ _ _ _ _).trans
      (State.settlePort_side _))).linkBounded h⟩
  · exact ⟨_, rfl, h⟩

theorem execMountSpareFetchEnd_bounded {s : State} (answer : Answer) (g : Bool) (h : s.link.Bounded) :
    Completes (execMountSpareFetchEnd answer g s) fun t => t.link.Bounded := by
  unfold execMountSpareFetchEnd
  split
  · exact ⟨_, rfl, ((s.freePort_side g).trans ((State.scanned_side _ _ _).trans
      (State.settlePort_side _))).linkBounded h⟩
  · exact ⟨_, rfl, h⟩

theorem execRecoveryFetchEnd_bounded {s : State} (answer : Answer) (g : Bool) (h : s.link.Bounded) :
    Completes (execRecoveryFetchEnd answer g s) fun t => t.link.Bounded := by
  unfold execRecoveryFetchEnd
  split
  · exact ⟨_, rfl, ((s.freePort_side g).trans ((State.recoveryFetched_side _ _ _ _).trans
      (State.settlePort_side _))).linkBounded h⟩
  · exact ⟨_, rfl, h⟩

theorem execReadoutFetchEnd_bounded {s : State} (answer : Answer) (g : Bool) (h : s.link.Bounded) :
    Completes (execReadoutFetchEnd answer g s) fun t => t.link.Bounded := by
  unfold execReadoutFetchEnd
  split
  · refine ⟨_, rfl, (State.settlePort_side _).linkBounded ?_⟩
    have hfree := (s.freePort_side g).linkBounded h
    split
    · exact (State.readoutFetched_side _ _).linkBounded hfree
    · exact hfree
  · exact ⟨_, rfl, h⟩

/-! ## Requests -/

/-- What a request's block does where it answers the request at its service: the request completes in a state whose
Link Unit is as the block found it. -/
def AnswersAtOnce (block : Entry → State → State) : Prop :=
  ∀ (e : Entry) (s : State), ∃ (u : State) (st : Status) (ws : List Word),
    block e s = u.complete e.arrival st ws ∧ u.link = s.link

/-- A block keeps the egress queues within their capacities. -/
def BlockBounded (block : Entry → State → State) : Prop :=
  ∀ (e : Entry) (s : State), s.link.Bounded → (block e s).link.Bounded

theorem AnswersAtOnce.bounded {block : Entry → State → State} (h : AnswersAtOnce block) : BlockBounded block := by
  intro e s hs
  obtain ⟨u, st, ws, hb, hu⟩ := h e s
  rw [hb]
  exact (u.complete_side e.arrival st ws).linkBounded (hu ▸ hs)

/-- A request refused or done at its service leaves the queues within their capacities. -/
theorem State.refuse_bounded {s : State} (e : Entry) (st : Status) (h : s.link.Bounded) :
    (s.refuse e st).link.Bounded := (s.complete_side _ _ _).linkBounded h
theorem State.done_bounded {s : State} (e : Entry) (ws : List Word) (h : s.link.Bounded) :
    (s.done e ws).link.Bounded := (s.complete_side _ _ _).linkBounded h

theorem serveGenLoad_answers : AnswersAtOnce serveGenLoad := by
  intro e s; unfold serveGenLoad; dsimp only; split <;> exact ⟨_, _, _, rfl, rfl⟩
theorem serveSourceClear_answers : AnswersAtOnce serveSourceClear := by
  intro e s; unfold serveSourceClear; dsimp only; split <;> exact ⟨_, _, _, rfl, rfl⟩
theorem serveSourceConfig_answers : AnswersAtOnce serveSourceConfig := by
  intro e s; unfold serveSourceConfig; dsimp only; split <;> exact ⟨_, _, _, rfl, rfl⟩
theorem serveSourceRead_answers : AnswersAtOnce serveSourceRead := by
  intro e s; unfold serveSourceRead; dsimp only; split <;> exact ⟨_, _, _, rfl, rfl⟩
theorem serveTrackSet_answers : AnswersAtOnce serveTrackSet := by
  intro e s; unfold serveTrackSet; dsimp only; repeat' split
  all_goals exact ⟨_, _, _, rfl, rfl⟩
theorem serveTrimCorrect_answers : AnswersAtOnce serveTrimCorrect := by
  intro e s; unfold serveTrimCorrect; dsimp only; split <;> exact ⟨_, _, _, rfl, rfl⟩
theorem serveTrackRead_answers : AnswersAtOnce serveTrackRead := by
  intro e s; unfold serveTrackRead; dsimp only; repeat' split
  all_goals exact ⟨_, _, _, rfl, rfl⟩
theorem serveMixSet_answers : AnswersAtOnce serveMixSet := by
  intro e s; unfold serveMixSet; dsimp only; split <;> exact ⟨_, _, _, rfl, rfl⟩
theorem serveMixTake_answers : AnswersAtOnce serveMixTake := fun _ _ => ⟨_, _, _, rfl, rfl⟩
theorem serveMixRead_answers : AnswersAtOnce serveMixRead := by
  intro e s; unfold serveMixRead; dsimp only; split
  · exact ⟨_, _, _, rfl, rfl⟩
  · refine ⟨_, _, _, rfl, ?_⟩
    split <;> rfl
theorem serveStreamSet_answers : AnswersAtOnce serveStreamSet := by
  intro e s; unfold serveStreamSet; repeat' split
  all_goals exact ⟨_, _, _, rfl, rfl⟩
theorem serveStreamRead_answers : AnswersAtOnce serveStreamRead := fun _ _ => ⟨_, _, _, rfl, rfl⟩
theorem serveMeterConfig_answers : AnswersAtOnce serveMeterConfig := by
  intro e s; unfold serveMeterConfig; dsimp only; repeat' split
  all_goals exact ⟨_, _, _, rfl, rfl⟩
theorem serveMeterRead_answers : AnswersAtOnce serveMeterRead := by
  intro e s; unfold serveMeterRead; dsimp only; split
  · exact ⟨_, _, _, rfl, rfl⟩
  · refine ⟨_, _, _, rfl, ?_⟩
    split <;> rfl
theorem serveTakeList_answers : AnswersAtOnce serveTakeList := by
  intro e s; unfold serveTakeList; repeat' split
  all_goals exact ⟨_, _, _, rfl, rfl⟩
theorem serveStoreConfig_answers : AnswersAtOnce serveStoreConfig := by
  intro e s; unfold serveStoreConfig; repeat' split
  all_goals exact ⟨_, _, _, rfl, rfl⟩
theorem serveStoreStatus_answers : AnswersAtOnce serveStoreStatus := by
  intro e s; unfold serveStoreStatus; dsimp only; split
  · exact ⟨_, _, _, rfl, rfl⟩
  · refine ⟨_, _, _, rfl, ?_⟩
    split <;> rfl
theorem serveQuery_answers : AnswersAtOnce serveQuery := by
  intro e s; unfold serveQuery; dsimp only; repeat' split
  all_goals exact ⟨_, _, _, rfl, rfl⟩
theorem serveReserve_answers : AnswersAtOnce serveReserve := by
  intro e s; unfold serveReserve; repeat' split
  all_goals exact ⟨_, _, _, rfl, rfl⟩
theorem serveRelease_answers : AnswersAtOnce serveRelease := by
  intro e s; unfold serveRelease; repeat' split
  all_goals exact ⟨_, _, _, rfl, rfl⟩

theorem serveTakeOpen_bounded : BlockBounded serveTakeOpen := by
  intro e s h
  unfold serveTakeOpen
  split
  · exact s.refuse_bounded e _ h
  split
  · exact s.refuse_bounded e _ h
  split
  · exact s.refuse_bounded e _ h
  split
  · exact s.refuse_bounded e _ h
  · exact ((State.setTakes_side _ _).trans ((State.firstAllocation_side _ _ _).trans
      ((State.holdSlot_side _ _ _).trans ((State.askCatalog_side _ _).trans
        (State.settlePort_side _))))).linkBounded h

theorem State.arm_side (s : State) (e : Entry) (t : Transition) (k : StoreOpKind) :
    StoreSide s (s.arm e t k) := (s.setTakes_side _).trans (State.holdSlot_side _ _ _)

theorem serveTakePause_bounded : BlockBounded serveTakePause := by
  intro e s h
  unfold serveTakePause
  split
  · split
    · exact s.refuse_bounded e _ h
    split
    · exact s.refuse_bounded e _ h
    · exact (s.arm_side _ _ _).linkBounded h
  · exact s.refuse_bounded e _ h

theorem serveTakeResume_bounded : BlockBounded serveTakeResume := by
  intro e s h
  unfold serveTakeResume
  split
  · split
    · exact s.refuse_bounded e _ h
    · exact (s.arm_side _ _ _).linkBounded h
  · exact s.refuse_bounded e _ h

theorem serveTakeClose_bounded : BlockBounded serveTakeClose := by
  intro e s h
  unfold serveTakeClose
  split
  · split
    · exact s.refuse_bounded e _ h
    · exact (s.arm_side _ _ _).linkBounded h
  · exact s.refuse_bounded e _ h

/-- A take's record is changed for a request that holds the slot, and the catalog write is asked for. -/
theorem State.asksCatalog_bounded {s : State} (n : Nat) (f : TakeRecord → TakeRecord) (e : Entry)
    (k : StoreOpKind) (w : Waiter) (h : s.link.Bounded) :
    ((((s.mapTake n f).holdSlot e k).askCatalog w).settlePort).link.Bounded :=
  ((s.mapTake_side n f).trans ((State.holdSlot_side _ _ _).trans ((State.askCatalog_side _ _).trans
    (State.settlePort_side _)))).linkBounded h

theorem serveProtect_bounded (v : Bool) : BlockBounded (serveProtect v) := by
  intro e s h
  unfold serveProtect
  split
  · exact s.refuse_bounded e _ h
  split
  · exact s.refuse_bounded e _ h
  split
  · exact s.refuse_bounded e _ h
  split
  · exact s.done_bounded e _ h
  · exact State.asksCatalog_bounded _ _ e _ _ h

theorem serveTakeDelete_bounded : BlockBounded serveTakeDelete := by
  intro e s h
  unfold serveTakeDelete
  split
  · exact s.refuse_bounded e _ h
  split
  · exact s.refuse_bounded e _ h
  split
  · exact s.refuse_bounded e _ h
  split
  · exact s.refuse_bounded e _ h
  · exact State.asksCatalog_bounded _ _ e _ _ h

theorem serveStoreFormat_bounded : BlockBounded serveStoreFormat := by
  intro e s h
  unfold serveStoreFormat
  split
  · exact s.refuse_bounded e _ h
  split
  · exact s.refuse_bounded e _ h
  split
  · exact s.refuse_bounded e _ h
  · exact ((State.holdSlot_side _ _ _).trans ((State.formatFrom_side _ _ _ _).trans
      (State.settlePort_side _))).linkBounded (s := { s with store := _ }) h

theorem serveReadTake_bounded : BlockBounded serveReadTake := by
  intro e s h
  unfold serveReadTake
  split
  · exact s.refuse_bounded e _ h
  split
  · exact s.refuse_bounded e _ h
  split
  · exact s.refuse_bounded e _ h
  · exact ((State.setReadout_side _ _).trans ((State.pageStepAndOffer_side _).trans
      (State.settlePort_side _))).linkBounded h

theorem serveReadStop_bounded : BlockBounded serveReadStop := by
  intro e s h
  unfold serveReadStop
  split
  · exact ((State.readoutEnd_side _ _).trans (State.complete_side _ _ _ _)).linkBounded h
  · exact s.refuse_bounded e _ h

theorem serveUnitStatus_bounded : BlockBounded serveUnitStatus := by
  intro e s h
  unfold serveUnitStatus
  split
  · exact s.refuse_bounded e _ h
  · refine State.done_bounded e _ ?_
    split <;> exact h

theorem serveUnitReset_bounded : BlockBounded serveUnitReset := by
  intro e s h
  unfold serveUnitReset
  split
  · exact s.refuse_bounded e _ h
  · exact State.done_bounded e _ s.link.warmReset_bounded

/-- A service hands the chosen request to its block, or nothing happens (R186, R187). -/
theorem State.serve_bounded {s : State} {block : Entry → State → State} (c : RequestCode)
    (hb : BlockBounded block) (h : s.link.Bounded) :
    Completes (.next (s.serve c block)) fun t => t.link.Bounded := by
  refine ⟨_, rfl, ?_⟩
  rcases s.serve_cases c block with hs | ⟨e, -, -, hs⟩
  · rw [hs]; exact h
  · rw [hs]; exact hb e _ h

/-! ## Every command -/

/-- Every command keeps the egress queues within their capacities (R10). -/
theorem exec_bounded (c : Instr) {s : State} (h : s.link.Bounded) :
    Completes (exec c s) fun t => t.link.Bounded := by
  cases c with
  | powerOn => exact ⟨_, rfl, by simp [LinkUnit.Bounded]⟩
  | rowEvent => exact ⟨_, rfl, State.row_bounded h⟩
  | sourceLapse n => exact completes_ite_bounded _ (State.row_bounded h) h
  | sourceAcquired n => exact completes_ite_bounded _ (State.row_bounded h) h
  | generatorLevelStep => exact completes_ite_bounded _ (State.row_bounded h) h
  | holdCountdownExpiry => exact ⟨_, rfl, s.takeHoldExpiry_side.linkBounded h⟩
  | mixBoundary => exact completes_ite_bounded _ (State.mixWork_bounded (s := s.boundaryGiven) h) h
  | archiveBoundary => exact completes_ite_bounded _ (State.archiveBoundary_bounded h) h
  | indexExhaustion => exact completes_ite_bounded _ (State.archiveBoundary_bounded h) h
  | windowEnd => exact ⟨_, rfl, State.takeWindowEnd_bounded h⟩
  | stageFrameComplete w => exact execStageFrameComplete_bounded w h
  | throughReturnFrameComplete w => exact execThroughReturnFrameComplete_bounded w h
  | programReturnFrameComplete w => exact execProgramReturnFrameComplete_bounded w h
  | strayWord d w => exact execStrayWord_bounded d w h
  | framingError d w => exact execFramingError_bounded d w h
  | frameAbandoned d => exact execFrameAbandoned_bounded d h
  | throughFrameEnd => exact execThroughFrameEnd_bounded h
  | stageReturnFrameEnd => exact execStageReturnFrameEnd_bounded h
  | programForwardFrameEnd => exact execProgramForwardFrameEnd_bounded h
  | stageLinkDown => exact execStageLinkDown_bounded h
  | programLinkDown => exact execProgramLinkDown_bounded h
  | throughPortDown => exact execThroughPortDown_bounded h
  | linkUp k => exact ⟨_, rfl, LinkUnit.up_bounded k h⟩
  | trackSet => exact State.serve_bounded _ serveTrackSet_answers.bounded h
  | trackRead => exact State.serve_bounded _ serveTrackRead_answers.bounded h
  | trimCorrect => exact State.serve_bounded _ serveTrimCorrect_answers.bounded h
  | sourceConfig => exact State.serve_bounded _ serveSourceConfig_answers.bounded h
  | sourceClear => exact State.serve_bounded _ serveSourceClear_answers.bounded h
  | sourceRead => exact State.serve_bounded _ serveSourceRead_answers.bounded h
  | genLoad => exact State.serve_bounded _ serveGenLoad_answers.bounded h
  | mixSet => exact State.serve_bounded _ serveMixSet_answers.bounded h
  | mixTake => exact State.serve_bounded _ serveMixTake_answers.bounded h
  | mixRead => exact State.serve_bounded _ serveMixRead_answers.bounded h
  | streamSet => exact State.serve_bounded _ serveStreamSet_answers.bounded h
  | streamRead => exact State.serve_bounded _ serveStreamRead_answers.bounded h
  | meterConfig => exact State.serve_bounded _ serveMeterConfig_answers.bounded h
  | meterRead => exact State.serve_bounded _ serveMeterRead_answers.bounded h
  | takeOpen => exact State.serve_bounded _ serveTakeOpen_bounded h
  | takePause => exact State.serve_bounded _ serveTakePause_bounded h
  | takeResume => exact State.serve_bounded _ serveTakeResume_bounded h
  | takeClose => exact State.serve_bounded _ serveTakeClose_bounded h
  | takeProtect => exact State.serve_bounded _ (serveProtect_bounded true) h
  | takeUnprotect => exact State.serve_bounded _ (serveProtect_bounded false) h
  | takeDelete => exact State.serve_bounded _ serveTakeDelete_bounded h
  | takeList => exact State.serve_bounded _ serveTakeList_answers.bounded h
  | storeFormat => exact State.serve_bounded _ serveStoreFormat_bounded h
  | storeConfig => exact State.serve_bounded _ serveStoreConfig_answers.bounded h
  | storeStatus => exact State.serve_bounded _ serveStoreStatus_answers.bounded h
  | readTake => exact State.serve_bounded _ serveReadTake_bounded h
  | readStop => exact State.serve_bounded _ serveReadStop_bounded h
  | unitStatus => exact State.serve_bounded _ serveUnitStatus_bounded h
  | query => exact State.serve_bounded _ serveQuery_answers.bounded h
  | reserve => exact State.serve_bounded _ serveReserve_answers.bounded h
  | release => exact State.serve_bounded _ serveRelease_answers.bounded h
  | unitReset => exact State.serve_bounded _ serveUnitReset_bounded h
  | archiveProgramEnd ok g => exact execArchiveProgramEnd_bounded ok g h
  | verifyFetchEnd a g => exact execVerifyFetchEnd_bounded a g h
  | badMarkWriteEnd ok g => exact execBadMarkWriteEnd_bounded ok g h
  | catalogProgramEnd ok g => exact execCatalogProgramEnd_bounded ok g h
  | catalogVerifyEnd a g => exact execCatalogVerifyEnd_bounded a g h
  | catalogEraseEnd ok g => exact execCatalogEraseEnd_bounded ok g h
  | eraseEnd ok g => exact execEraseEnd_bounded ok g h
  | formatEraseEnd ok g => exact execFormatEraseEnd_bounded ok g h
  | mountCatalogFetchEnd a g => exact execMountCatalogFetchEnd_bounded a g h
  | mountSpareFetchEnd a g => exact execMountSpareFetchEnd_bounded a g h
  | recoveryFetchEnd a g => exact execRecoveryFetchEnd_bounded a g h
  | timeLimitExpiry => exact ⟨_, rfl, State.takeExpiry_bounded h⟩
  | readoutFetchEnd a g => exact execReadoutFetchEnd_bounded a g h
  | frameHeaderTaken d w => exact execFrameHeaderTaken_bounded d w h
  | bodyWordTaken d w => exact execBodyWordTaken_bounded d w h

/-- Settles O3: each command keeps the capacities, so each step does. -/
theorem egressQueuesStayBounded : Obligations.EgressQueuesStayBounded := by
  intro s t hs ht
  unfold step at ht
  split at ht
  · cases ht; exact hs
  · rename_i c cs _
    obtain ⟨u, hu, hb⟩ := exec_bounded c (s := { s with pending := cs }) hs
    rw [hu] at ht
    cases ht; exact hb

end Sys2Proof.Machine
end

section
/-!
The state after reset meets every invariant: its tables are all copies of one entry, so a law of a table is a law of
that entry.
-/

namespace Sys2Proof.Machine

/-- What holds of one value holds of every member of a list of its copies. -/
theorem forall_mem_replicate_of {α : Type} {p : α → Prop} {a : α} (n : Nat) (h : p a) :
    ∀ x ∈ List.replicate n a, p x :=
  fun _ hx => List.eq_of_mem_replicate hx ▸ h

theorem bankLawful_zero : BankLawful (List.replicate Config.coefficients 0) :=
  ⟨List.length_replicate, forall_mem_replicate_of _ (by decide)⟩

/-- Disabled tracks take no cells of the delay pool (R44). -/
theorem poolCount_replicate_disabled (n : Nat) : poolCount (List.replicate n {}) = 0 := by
  simp [poolCount]

theorem reset_tracksLawful : State.reset.tracks.Lawful State.reset.rate :=
  ⟨List.length_replicate, forall_mem_replicate_of _ (by decide),
    (poolCount_replicate_disabled _).le.trans (Nat.zero_le _), fun h => nomatch h⟩

theorem reset_linesLawful : State.reset.tracks.LinesLawful := by
  refine ⟨List.length_replicate, List.length_replicate, fun x hx => ?_⟩
  have hzip : State.reset.tracks.routes.zip State.reset.tracks.lines
      = List.replicate Config.tracks (({} : Route), ([] : List Int)) := List.zip_replicate' ..
  rw [hzip] at hx
  rw [List.eq_of_mem_replicate hx]
  rfl

theorem reset_sourcesInRange : State.reset.sources.InRange :=
  ⟨by decide, List.length_replicate, forall_mem_replicate_of _ (by decide), by decide⟩

theorem reset_meterInRange : State.reset.meter.InRange State.reset.rate :=
  ⟨forall_mem_replicate_of _ (by decide), forall_mem_replicate_of _ (by decide), by decide, by decide, by decide,
    by decide, by decide, by decide⟩

/-- At reset every table has its size, and there is no take record (R21, R37, R56, R103, R155, R159, R169). -/
theorem reset_meetsSizes : State.reset.Sized :=
  ⟨List.length_replicate, List.length_replicate, List.length_replicate, List.length_replicate,
    List.length_replicate, List.length_replicate, List.length_replicate, List.length_replicate,
    List.length_replicate, List.length_replicate, List.length_replicate, List.length_replicate,
    List.length_replicate, fun _ h => nomatch h⟩

/-- At reset no row has brought anything due: no boundary, an empty window, an IDLE readout and a free port. -/
theorem reset_hasNothingDue : State.reset.NothingDue :=
  ⟨rfl, by decide, fun h => absurd h (by decide), fun j h => absurd h (Option.not_mem_none j)⟩

/-- Settles O13: law by law. -/
theorem resetMeetsEveryLaw : Obligations.ResetMeetsEveryLaw :=
  ⟨by decide, ⟨by decide, .nil, fun _ h => nomatch h⟩, ⟨bankLawful_zero, bankLawful_zero, fun _ h => nomatch h⟩,
    reset_tracksLawful, reset_linesLawful, by decide, State.reset_flash_wf, reset_sourcesInRange,
    reset_meterInRange, reset_meetsSizes, reset_hasNothingDue, fun h => absurd rfl h⟩

end Sys2Proof.Machine
end

section
/-!
What the parsers do with each word (R3, R4): one equation for each command of a word, from which the statements about
one word and about a whole frame follow.
-/

namespace Sys2Proof.Machine

variable {s : State} {d : Rx}

theorem marked_iff_headerMark (w : Word) : marked w = true ↔ headerMark w = 0xB4 := decide_eq_true_iff

theorem lengthGood_iff (w : Word) : lengthGood w = true ↔ 3 ≤ headerLength w ∧ headerLength w ≤ 64 := by
  simp [lengthGood]

/-! ## Reading the Link Unit after a parser was set -/

@[simp] theorem LinkUnit.setParser_parser (l : LinkUnit) (d : Rx) (p : Parser) : (l.setParser d p).parser d = p := by
  cases d <;> rfl

@[simp] theorem LinkUnit.setParser_receiving (l : LinkUnit) (d e : Rx) (p : Parser) :
    (l.setParser d p).receiving e = l.receiving e := by
  cases d <;> cases e <;> rfl

@[simp] theorem LinkUnit.setParser_setParser (l : LinkUnit) (d : Rx) (p q : Parser) :
    (l.setParser d p).setParser d q = l.setParser d q := by
  cases d <;> rfl

@[simp] theorem LinkUnit.setParser_abandoned (l : LinkUnit) (d : Rx) (p : Parser) :
    (l.setParser d p).abandoned = l.abandoned := by
  cases d <;> rfl

/-- A parser in HUNT has nothing to abandon. -/
theorem LinkUnit.abandon_of_hunt {l : LinkUnit} {d : Rx} (h : l.parser d = .hunt) : l.abandon d = l := by
  simp [LinkUnit.abandon, h]

/-- A parser in BODY or CHECK abandons its frame and counts it (R4). -/
theorem LinkUnit.abandon_of_busy {l : LinkUnit} {d : Rx} (h : l.parser d ≠ .hunt) :
    l.abandon d = { l.setParser d .hunt with abandoned := l.abandoned.raise d } := by
  unfold LinkUnit.abandon
  split
  · contradiction
  all_goals rfl

/-! ## One word -/

theorem execStrayWord_of_hunt (w : Word) (hup : s.link.receiving d = true) (hp : s.link.parser d = .hunt)
    (hw : headerMark w ≠ 0xB4) :
    execStrayWord d w s = .next { s with link := { s.link with stray := s.link.stray.raise d } } := by
  have hm : marked w = false := by simpa [hw] using marked_iff_headerMark w
  simp [execStrayWord, hup, hp, hm, State.setLink]

theorem execFramingError_of_hunt (w : Word) (hup : s.link.receiving d = true) (hp : s.link.parser d = .hunt)
    (hw : headerMark w = 0xB4) (hl : headerLength w < 3 ∨ 64 < headerLength w) :
    execFramingError d w s = .next { s with link := { s.link with framing := s.link.framing.raise d } } := by
  have hm : marked w = true := (marked_iff_headerMark w).mpr hw
  have hg : lengthGood w = false := by
    rw [← Bool.not_eq_true, lengthGood_iff]; omega
  simp [execFramingError, hup, hp, hm, hg, State.setLink]

theorem execFrameHeaderTaken_of_hunt (w : Word) (hup : s.link.receiving d = true) (hp : s.link.parser d = .hunt)
    (hw : headerMark w = 0xB4) (h3 : 3 ≤ headerLength w) (h64 : headerLength w ≤ 64) :
    execFrameHeaderTaken d w s = .next { s with link := s.link.setParser d (.body w [] w) } := by
  have hm : marked w = true := (marked_iff_headerMark w).mpr hw
  have hg : lengthGood w = true := (lengthGood_iff w).mpr ⟨h3, h64⟩
  simp [execFrameHeaderTaken, hup, hp, hm, hg, State.setLink, parserAfterHeader]

theorem execBodyWordTaken_of_body (w : Word) {h sum : Word} {taken : List Word}
    (hup : s.link.receiving d = true) (hp : s.link.parser d = .body h taken sum) :
    execBodyWordTaken d w s
      = .next { s with link := s.link.setParser d (parserAfterBody h taken sum w) } := by
  simp [execBodyWordTaken, hup, hp, State.setLink]

theorem execFrameAbandoned_of_busy (hup : s.link.receiving d = true) (hp : s.link.parser d ≠ .hunt) :
    execFrameAbandoned d s
      = .next { s with link := { s.link.setParser d .hunt with abandoned := s.link.abandoned.raise d } } := by
  simp [execFrameAbandoned, hup, LinkUnit.abandon_of_busy hp, State.setLink]

/-- A body word is kept and summed; the parser is in CHECK exactly after the last one (R4). -/
theorem parserAfterBody_more {h sum w : Word} {taken : List Word} (hl : taken.length + 3 < headerLength h) :
    parserAfterBody h taken sum w = .body h (taken ++ [w]) (sum + w) := by
  simp [parserAfterBody, hl]

theorem parserAfterBody_last {h sum w : Word} {taken : List Word} (hl : headerLength h = taken.length + 3) :
    parserAfterBody h taken sum w = .check h (taken ++ [w]) (sum + w) := by
  simp [parserAfterBody, hl]

/-- Settles O19, by the state the parser is in. -/
theorem eachWordTaken : Obligations.EachWordTaken := by
  intro d w s hup
  refine ⟨fun hp => ⟨fun hw => ?_, fun hw hl => ?_, fun hw h3 h64 => ?_⟩, fun h taken sum hp => ⟨fun hl => ?_,
    fun hl => ?_⟩, fun hp => ?_⟩
  · exact ⟨_, execStrayWord_of_hunt w hup hp hw, rfl⟩
  · exact ⟨_, execFramingError_of_hunt w hup hp hw hl, rfl⟩
  · exact ⟨_, execFrameHeaderTaken_of_hunt w hup hp hw h3 h64, rfl⟩
  · exact ⟨_, execBodyWordTaken_of_body w hup hp, by rw [parserAfterBody_more hl]⟩
  · exact ⟨_, execBodyWordTaken_of_body w hup hp, by rw [parserAfterBody_last hl]⟩
  · refine ⟨_, execFrameAbandoned_of_busy hup hp, ?_, rfl⟩
    cases d <;> rfl

/-! ## A whole frame -/

theorem Word.sum_append_singleton (ws : List Word) (w : Word) : Word.sum (ws ++ [w]) = Word.sum ws + w := by
  induction ws with
  | nil => simp [Word.sum]
  | cons v ws ih => simp [Word.sum, ih, BitVec.add_assoc]

/-- A run takes the command at the front of the queue first. -/
theorem run_of_exec {c : Instr} {cs : List Instr} {s t : State} (n : Nat) (hs : s.pending = c :: cs)
    (hc : exec c { s with pending := cs } = .next t) :
    Host.Core.run Sys2Proof.core (n + 1) s = Host.Core.run Sys2Proof.core n t := by
  have hstep : Sys2Proof.core.step s = .next t := by
    show step s = .next t
    simp [step, hs, hc]
  simp [Host.Core.run, hstep]

/-- From BODY, the words that the header still expects bring the parser to CHECK, each kept in order and summed. -/
theorem run_bodyWords (d : Rx) (h : Word) (rest : List Word) :
    ∀ (taken : List Word) (s : State), s.link.receiving d = true →
      s.link.parser d = .body h taken (Word.sum (h :: taken)) → rest ≠ [] →
      taken.length + rest.length + 2 = headerLength h → s.pending = rest.map (.bodyWordTaken d) →
      Host.Core.run Sys2Proof.core rest.length s = .next { s with
        pending := []
        link := s.link.setParser d (.check h (taken ++ rest) (Word.sum (h :: (taken ++ rest)))) } := by
  induction rest with
  | nil => exact fun _ _ _ _ hne => absurd rfl hne
  | cons w rest ih =>
    intro taken s hup hp _ hlen hs
    have hsum : Word.sum (h :: taken) + w = Word.sum (h :: (taken ++ [w])) :=
      (Word.sum_append_singleton (h :: taken) w).symm
    have hexec := execBodyWordTaken_of_body (s := { s with pending := rest.map (.bodyWordTaken d) }) w hup hp
    rw [List.length_cons, run_of_exec _ hs hexec]
    cases rest with
    | nil =>
      rw [parserAfterBody_last (by simpa using hlen.symm), hsum]
      rfl
    | cons v rest =>
      have hl : taken.length + 3 < headerLength h := by simp only [List.length_cons] at hlen; omega
      rw [parserAfterBody_more hl, hsum, ih (taken ++ [w]) _ (by simpa using hup) (by simp) (by simp)
        (by simp only [List.length_append, List.length_cons, List.length_nil] at hlen ⊢; omega) rfl]
      simp

/-- Settles O20: the header brings the parser to BODY with no words, and the body words from there to CHECK. -/
theorem frameCollectedWordByWord : Obligations.FrameCollectedWordByWord := by
  intro d h body s hup hp hm h3 h64 hlen hs
  have hne : body ≠ [] := fun hb => by simp [hb] at hlen; omega
  have hexec := execFrameHeaderTaken_of_hunt (s := { s with pending := body.map (.bodyWordTaken d) }) h hup hp hm
    h3 h64
  rw [run_of_exec _ hs hexec, run_bodyWords d h body [] _ (by simpa using hup) (by simp [Word.sum]) hne
    (by simpa using hlen) rfl]
  simp

end Sys2Proof.Machine
end

section
/-!
Complete frames (R5, R7, R8): what a frame brings by its check, its kind and its unit, one equation for each case.
-/

namespace Sys2Proof.Machine

variable {s : State} {h check sum : Word} {body : List Word}

/-! ## The stage link -/

/-- A good stage frame is taken out of the parser, repeated unless it is consumed, and delivered (R5, R6). -/
theorem execStageFrameComplete_good (hup : s.link.stageUp = true) (hp : s.link.rxStage = .check h body sum)
    (hc : check = ~~~(sum + 0x00005A33)) :
    let good : LinkUnit := { s.link with rxStage := .hunt, accepted := s.link.accepted.raise .stageForward }
    let repeated : State := { s with
      link := if s.consumes h then good else good.offerRepeat (h :: (body ++ [check])) }
    execStageFrameComplete check s = .next (repeated.stageFrame h body) := by
  have hsum : check = checkOf sum := hc
  unfold execStageFrameComplete
  rw [hup, hp]
  dsimp only
  rw [if_pos hsum]
  have hcons : (s.setLink { s.link.setParser .stageForward .hunt with
      accepted := (s.link.setParser .stageForward .hunt).accepted.raise .stageForward }).consumes h
      = s.consumes h := rfl
  rw [hcons]
  cases s.consumes h <;> rfl

theorem execStageFrameComplete_bad (hup : s.link.stageUp = true) (hp : s.link.rxStage = .check h body sum)
    (hc : check ≠ ~~~(sum + 0x00005A33)) :
    execStageFrameComplete check s = .next { s with
      link := { s.link with rxStage := .hunt
                            checkFailures := s.link.checkFailures.raise .stageForward }.offerRepeat
        (h :: (body ++ [check])) } := by
  have hsum : ¬ check = checkOf sum := hc
  unfold execStageFrameComplete
  rw [hup, hp]
  dsimp only
  rw [if_neg hsum]
  rfl

theorem State.stageFrame_sample (hk : headerKind h = 1) :
    s.stageFrame h body = { s with sources := s.sources.sampleArrives h body } := if_pos hk

theorem State.stageFrame_own (hk : headerKind h = 2) (hu : headerUnit h = s.unit) :
    s.stageFrame h body = s.requestArrives .stage false body := by
  simp [State.stageFrame, hk, hu, kindSample, kindManage]

theorem State.stageFrame_broadcast (hk : headerKind h = 2) (hu : headerUnit h ≠ s.unit) (h31 : headerUnit h = 31) :
    s.stageFrame h body = s.requestArrives .stage true body := by
  have : (31 : Nat) ≠ s.unit := h31 ▸ hu
  simp [State.stageFrame, hk, h31, this, kindSample, kindManage]

theorem State.stageFrame_other (hk : headerKind h ≠ 1)
    (hu : headerKind h ≠ 2 ∨ (headerUnit h ≠ s.unit ∧ headerUnit h ≠ 31)) : s.stageFrame h body = s := by
  refine (if_neg hk).trans ?_
  split
  · rename_i h2
    obtain ⟨hown, h31⟩ := hu.resolve_left fun hne => hne h2
    rw [if_neg hown, if_neg h31]
  · rfl

/-- A frame is consumed exactly where it is MANAGE for this unit (R5). -/
theorem State.consumes_iff : s.consumes h = true ↔ headerKind h = 2 ∧ headerUnit h = s.unit := by
  rw [State.consumes, Bool.and_eq_true, decide_eq_true_iff, decide_eq_true_iff]
  exact Iff.rfl

/-- Settles O22, case by case in the order of R5. -/
theorem stageFrameComplete : Obligations.StageFrameComplete := by
  intro s h check body sum hup hp
  refine ⟨fun hc => ?_, fun hc hk => ?_, fun hc hk hu => ?_, fun hc hk hu h31 => ?_, fun hc hk hu => ?_⟩
  · exact ⟨_, execStageFrameComplete_bad hup hp hc, rfl⟩
  · have hcons : ¬ s.consumes h = true := by simp [State.consumes_iff, hk]
    refine ⟨_, execStageFrameComplete_good hup hp hc, ?_⟩
    rw [if_neg hcons]
    exact State.stageFrame_sample hk
  · refine ⟨_, execStageFrameComplete_good hup hp hc, ?_⟩
    rw [if_pos (State.consumes_iff.mpr ⟨hk, hu⟩)]
    exact State.stageFrame_own hk hu
  · have hcons : ¬ s.consumes h = true := by simp [State.consumes_iff, hu]
    refine ⟨_, execStageFrameComplete_good hup hp hc, ?_⟩
    rw [if_neg hcons]
    exact State.stageFrame_broadcast hk hu h31
  · have hcons : ¬ s.consumes h = true := by
      rw [State.consumes_iff]
      rintro ⟨h2, hown⟩
      exact (hu.resolve_left fun hne => hne h2).1 hown
    refine ⟨_, execStageFrameComplete_good hup hp hc, ?_⟩
    rw [if_neg hcons]
    exact State.stageFrame_other hk hu

/-! ## The return directions -/

/-- A complete frame of the through port's return direction (R7). -/
theorem execThroughReturnFrameComplete_of_check (hup : s.link.throughUp = true)
    (hp : s.link.rxThrough = .check h body sum) :
    let l := s.link.setParser .throughReturn .hunt
    let good := { l with accepted := l.accepted.raise .throughReturn }
    execThroughReturnFrameComplete check s = .next (s.setLink (
      if check ≠ ~~~(sum + 0x00005A33) then { l with checkFailures := l.checkFailures.raise .throughReturn }
      else if headerKind h = 3 then good.offerRelay (h :: (body ++ [check]))
      else { good with wrongKindThrough := countUp l.wrongKindThrough 1 })) := by
  intro l good
  unfold execThroughReturnFrameComplete
  rw [hup, hp]
  by_cases hc : check = ~~~(sum + 0x00005A33)
  · rw [if_neg (not_not.mpr hc)]
    exact if_pos hc
  · rw [if_pos hc]
    exact if_neg hc

/-- A complete frame of the program link's return direction (R8). -/
theorem execProgramReturnFrameComplete_of_check (hup : s.link.programUp = true)
    (hp : s.link.rxProgram = .check h body sum) :
    let l := s.link.setParser .programReturn .hunt
    let good := { l with accepted := l.accepted.raise .programReturn }
    execProgramReturnFrameComplete check s = .next (
      if check ≠ ~~~(sum + 0x00005A33) then
        s.setLink { l with checkFailures := l.checkFailures.raise .programReturn }
      else if headerKind h ≠ 2 then s.setLink { good with wrongKindProgram := countUp l.wrongKindProgram 1 }
      else if headerUnit h = s.unit then (s.setLink good).requestArrives .program false body
      else if headerUnit h = 31 then (s.setLink good).requestArrives .program true body
      else s.setLink { good with misaddressed := countUp l.misaddressed 1 }) := by
  intro l good
  unfold execProgramReturnFrameComplete
  rw [hup, hp]
  by_cases hc : check = ~~~(sum + 0x00005A33)
  · refine (if_pos hc).trans ?_
    rw [if_neg (not_not.mpr hc)]
    by_cases hk : headerKind h = 2
    · refine (if_pos hk).trans ?_
      rw [if_neg (not_not.mpr hk)]
      by_cases hown : headerUnit h = s.unit
      · refine (if_pos hown).trans ?_
        rw [if_pos hown]
      refine (if_neg hown).trans ?_
      rw [if_neg hown]
      by_cases h31 : headerUnit h = 31
      · refine (if_pos h31).trans ?_
        rw [if_pos h31]
      · refine (if_neg h31).trans ?_
        rw [if_neg h31]
    · refine (if_neg hk).trans ?_
      rw [if_pos hk]
  · refine (if_neg hc).trans ?_
    rw [if_pos hc]

/-- Settles O23, by the equation of each return direction. -/
theorem returnFramesComplete : Obligations.ReturnFramesComplete := fun _ _ _ _ _ =>
  ⟨fun hup hp => ⟨_, execThroughReturnFrameComplete_of_check hup hp, rfl⟩,
    fun hup hp => ⟨_, execProgramReturnFrameComplete_of_check hup hp, rfl⟩⟩

end Sys2Proof.Machine
end

section
/-!
Offers to the egress queues and the arbiters that start frames (R6, R7, R9 to R12): one equation for each arbiter
where its direction is busy or idle, and one for each offer.
-/

namespace Sys2Proof.Machine

variable {l : LinkUnit} {s : State} {f : Frame}

/-! ## The arbiters -/

theorem LinkUnit.startThrough_busy (h : l.txThrough ≠ none) : l.startThrough = l := by
  obtain ⟨g, hg⟩ := Option.ne_none_iff_exists'.mp h
  simp [LinkUnit.startThrough, hg]

/-- With the through port UP and idle the oldest frame of the repeat queue starts, if there is one (R6). -/
theorem LinkUnit.startThrough_idle (hup : l.throughUp = true) (h : l.txThrough = none) :
    l.startThrough = { l with txThrough := l.repeatQ.head?, repeatQ := l.repeatQ.tail } := by
  cases hq : l.repeatQ with
  | nil =>
    cases l
    simp_all [LinkUnit.startThrough]
  | cons g q => simp [LinkUnit.startThrough, hup, h, hq]

theorem LinkUnit.startStageReturn_busy (h : l.txStageReturn ≠ none) : l.startStageReturn = l := by
  obtain ⟨g, hg⟩ := Option.ne_none_iff_exists'.mp h
  simp [LinkUnit.startStageReturn, hg]

/-- The reply queue is served where it is the only one that holds a frame, or was not served last (R11). -/
theorem LinkUnit.startStageReturn_reply {q : List Frame} (hup : l.stageUp = true) (h : l.txStageReturn = none)
    (hq : l.stageReplyQ = f :: q) (hm : l.relayQ = [] ∨ l.marker = .relay) :
    l.startStageReturn = l.takeReply f q := by
  cases hr : l.relayQ with
  | nil => simp [LinkUnit.startStageReturn, hup, h, hq, hr]
  | cons g r =>
    have hm' : l.marker = .relay := hm.resolve_left (by simp [hr])
    simp [LinkUnit.startStageReturn, hup, h, hq, hr, hm']

/-- The relay queue is served where it is the only one that holds a frame, or was not served last (R11). -/
theorem LinkUnit.startStageReturn_relay {q : List Frame} (hup : l.stageUp = true) (h : l.txStageReturn = none)
    (hq : l.relayQ = f :: q) (hm : l.stageReplyQ = [] ∨ l.marker = .reply) :
    l.startStageReturn = l.takeRelay f q := by
  cases hr : l.stageReplyQ with
  | nil => simp [LinkUnit.startStageReturn, hup, h, hq, hr]
  | cons g r =>
    have hm' : l.marker = .reply := hm.resolve_left (by simp [hr])
    simp [LinkUnit.startStageReturn, hup, h, hq, hr, hm']

theorem LinkUnit.startStageReturn_none (hq : l.stageReplyQ = []) (hr : l.relayQ = []) : l.startStageReturn = l := by
  unfold LinkUnit.startStageReturn
  split
  · simp [hq, hr]
  · rfl

theorem LinkUnit.startProgram_busy (h : l.txProgram ≠ none) : l.startProgram = (l, false) := by
  obtain ⟨g, hg⟩ := Option.ne_none_iff_exists'.mp h
  simp [LinkUnit.startProgram, hg]

theorem LinkUnit.startProgram_stream {q : List Frame} (hup : l.programUp = true) (h : l.txProgram = none)
    (hs : l.streamQ = f :: q) : l.startProgram = ({ l with streamQ := q, txProgram := some f }, false) := by
  simp [LinkUnit.startProgram, hup, h, hs]

theorem LinkUnit.startProgram_reply {q : List Frame} (hup : l.programUp = true) (h : l.txProgram = none)
    (hs : l.streamQ = []) (hp : l.programReplyQ = f :: q) :
    l.startProgram = ({ l with programReplyQ := q, txProgram := some f }, false) := by
  simp [LinkUnit.startProgram, hup, h, hs, hp]

theorem LinkUnit.startProgram_readout {q : List Frame} (hup : l.programUp = true) (h : l.txProgram = none)
    (hs : l.streamQ = []) (hp : l.programReplyQ = []) (hr : l.readoutQ = f :: q) :
    l.startProgram = ({ l with readoutQ := q, txProgram := some f }, true) := by
  simp [LinkUnit.startProgram, hup, h, hs, hp, hr]

theorem LinkUnit.startProgram_none (hs : l.streamQ = []) (hp : l.programReplyQ = []) (hr : l.readoutQ = []) :
    l.startProgram = (l, false) := by
  unfold LinkUnit.startProgram
  split
  · simp [hs, hp, hr]
  · rfl

/-! ## The offers -/

/-- An egress queue has no room where its link is DOWN or it is full (R10). -/
theorem noRoom {up : Bool} {n cap : Nat} (h : up = false ∨ cap ≤ n) : ¬ (up && decide (n < cap)) = true := by
  rcases h with h | h
  · simp [h]
  · simp [Nat.not_lt.mpr h]

theorem LinkUnit.offerRepeat_down (h : l.throughUp = false) : l.offerRepeat f = l := by
  simp [LinkUnit.offerRepeat, h]

theorem LinkUnit.offerRepeat_full (h : l.throughUp = true) (hq : 2 ≤ l.repeatQ.length) :
    l.offerRepeat f = { l with repeatDrops := countUp l.repeatDrops 1 } := by
  simp [LinkUnit.offerRepeat, h, Config.repeatCap, Nat.not_lt.mpr hq]

theorem LinkUnit.offerRepeat_room (h : l.throughUp = true) (hq : l.repeatQ.length < 2) :
    l.offerRepeat f = ({ l with repeatQ := l.repeatQ ++ [f] } : LinkUnit).startThrough := by
  simp [LinkUnit.offerRepeat, h, Config.repeatCap, hq]

theorem LinkUnit.offerRelay_refused (h : l.stageUp = false ∨ 8 ≤ l.relayQ.length) :
    l.offerRelay f = { l with relayDrops := countUp l.relayDrops 1 } :=
  if_neg (noRoom h)

theorem LinkUnit.offerRelay_room (h : l.stageUp = true) (hq : l.relayQ.length < 8) :
    l.offerRelay f = ({ l with relayQ := l.relayQ ++ [f] } : LinkUnit).startStageReturn := by
  simp [LinkUnit.offerRelay, h, Config.relayCap, hq]

theorem LinkUnit.offerStageReply_refused (h : l.stageUp = false ∨ 8 ≤ l.stageReplyQ.length) :
    l.offerReply .stage f = { l with stageReplyDrops := countUp l.stageReplyDrops 1 } :=
  if_neg (noRoom h)

theorem LinkUnit.offerStageReply_room (h : l.stageUp = true) (hq : l.stageReplyQ.length < 8) :
    l.offerReply .stage f = ({ l with stageReplyQ := l.stageReplyQ ++ [f] } : LinkUnit).startStageReturn := by
  simp [LinkUnit.offerReply, LinkUnit.offerStageReply, h, Config.stageReplyCap, hq]

theorem LinkUnit.offerProgramReply_refused (h : l.programUp = false ∨ 8 ≤ l.programReplyQ.length) :
    l.offerReply .program f = { l with programReplyDrops := countUp l.programReplyDrops 1 } :=
  if_neg (noRoom h)

theorem LinkUnit.offerProgramReply_room (h : l.programUp = true) (hq : l.programReplyQ.length < 8) :
    l.offerReply .program f = ({ l with programReplyQ := l.programReplyQ ++ [f] } : LinkUnit).startProgram.1 := by
  simp [LinkUnit.offerReply, LinkUnit.offerProgramReply, h, Config.programReplyCap, hq]

theorem LinkUnit.offerStream_refused (h : l.programUp = false ∨ 16 ≤ l.streamQ.length) :
    l.offerStream f = (l, false) :=
  if_neg (noRoom h)

theorem LinkUnit.offerStream_room (h : l.programUp = true) (hq : l.streamQ.length < 16) :
    l.offerStream f = (({ l with streamQ := l.streamQ ++ [f] } : LinkUnit).startProgram.1, true) := by
  simp [LinkUnit.offerStream, h, Config.streamCap, hq]

theorem LinkUnit.readoutRoom_iff : l.readoutRoom = true ↔ l.programUp = true ∧ l.readoutQ.length < 2 := by
  simp [LinkUnit.readoutRoom, Config.readoutCap]

/-! ## A busy program link stays busy with its frame -/

/-- A frame in transmission toward the rack is not taken off by anything that replies and readout frames do. -/
def LinkUnit.FrameStays (l m : LinkUnit) : Prop := ∀ a, l.txProgram = some a → m.txProgram = some a

theorem LinkUnit.FrameStays.refl (l : LinkUnit) : l.FrameStays l := fun _ h => h

theorem LinkUnit.FrameStays.trans {l m n : LinkUnit} (h : l.FrameStays m) (k : m.FrameStays n) : l.FrameStays n :=
  fun a ha => k a (h a ha)

theorem LinkUnit.startProgram_frameStays (l : LinkUnit) : l.FrameStays l.startProgram.1 := by
  intro a ha
  rw [LinkUnit.startProgram_busy (by simp [ha])]
  exact ha

theorem LinkUnit.startStageReturn_frameStays (l : LinkUnit) : l.FrameStays l.startStageReturn := by
  unfold LinkUnit.startStageReturn
  split
  · split
    · split <;> exact .refl l
    all_goals exact .refl l
  · exact .refl l

theorem LinkUnit.offerReply_frameStays (l : LinkUnit) (o : Origin) (f : Frame) : l.FrameStays (l.offerReply o f) := by
  cases o with
  | stage =>
    show l.FrameStays (l.offerStageReply f)
    unfold LinkUnit.offerStageReply
    split
    · exact LinkUnit.startStageReturn_frameStays { l with stageReplyQ := l.stageReplyQ ++ [f] }
    · exact .refl l
  | program =>
    show l.FrameStays (l.offerProgramReply f)
    unfold LinkUnit.offerProgramReply
    split
    · exact LinkUnit.startProgram_frameStays { l with programReplyQ := l.programReplyQ ++ [f] }
    · exact .refl l

theorem State.complete_frameStays (s : State) (a : Nat) (st : Status) (ws : List Word) :
    s.link.FrameStays (s.complete a st ws).link := by
  unfold State.complete
  split
  · exact .refl _
  · dsimp only
    split
    · split <;> exact .refl _
    · exact LinkUnit.offerReply_frameStays _ _ _

theorem State.readoutEnd_frameStays (s : State) (st : Status) : s.link.FrameStays (s.readoutEnd st).link := by
  refine .trans ?_ (State.complete_frameStays _ _ _ _)
  dsimp only
  split <;> exact .refl _

theorem State.readoutFetch_frameStays (s : State) : s.link.FrameStays s.readoutFetch.link := by
  unfold State.readoutFetch
  split
  · split
    · exact .refl _
    · exact s.readoutEnd_frameStays _
  · exact s.readoutEnd_frameStays _

theorem State.pageStep_frameStays (s : State) : s.link.FrameStays s.pageStep.link := by
  unfold State.pageStep State.backlogTest
  dsimp only
  split
  · split
    · exact s.readoutFetch_frameStays
    · exact .refl _
  · exact .refl _

theorem State.departure_frameStays (s : State) : s.link.FrameStays s.departure.link := by
  unfold State.departure
  split
  · exact .refl _
  · dsimp only
    split
    · rename_i n ns _ _
      exact State.readoutEnd_frameStays (s.setReadout { s.readout with
        notes := ns
        pagesSent := s.readout.pagesSent + n.endsPage.toNat
        pagesFailed := s.readout.pagesFailed + (n.endsPage && n.checkFailed).toNat }) _
    · exact .refl _

theorem State.egress_frameStays (s : State) : s.link.FrameStays s.egress.link := by
  unfold State.egress
  dsimp only
  split
  · exact s.link.startProgram_frameStays.trans (State.departure_frameStays { s with link := s.link.startProgram.1 })
  · exact s.link.startProgram_frameStays

theorem State.readoutAccept_frameStays (s : State) (b : BuiltFrame) :
    s.link.FrameStays (s.readoutAccept b).link := by
  have h : s.link.FrameStays (s.readoutJoin b).egress.link := State.egress_frameStays (s.readoutJoin b)
  unfold State.readoutAccept
  dsimp only
  split
  · exact h.trans (State.pageStep_frameStays _)
  · exact h

theorem State.readoutBuild_link (s : State) : s.readoutBuild.link = s.link := by
  unfold State.readoutBuild
  split <;> rfl

theorem State.readoutAdvance_frameStays (n : Nat) : ∀ s : State, s.link.FrameStays (s.readoutAdvance n).link := by
  induction n with
  | zero => exact fun s => .refl _
  | succ n ih =>
    intro s
    have hbuild : s.link.FrameStays s.readoutBuild.link := s.readoutBuild_link ▸ .refl _
    have hround : s.link.FrameStays (match s.readoutBuild.readout.held with
        | some b => if s.readoutBuild.link.readoutRoom then (s.readoutBuild.readoutAccept b).readoutAdvance n
          else s.readoutBuild
        | none => s.readoutBuild).link := by
      split
      · split
        · exact hbuild.trans ((State.readoutAccept_frameStays _ _).trans (ih _))
        · exact hbuild
      · exact hbuild
    rw [State.readoutAdvance]
    split
    · exact hround
    · exact hround
    · exact .refl _

/-! ## The store port settled -/

/-- `t` differs from `s` at most in the operations at the store port. -/
def PortSide (s t : State) : Prop :=
  ∃ inFlight waiting, t = { s with store := { s.store with inFlight := inFlight, waiting := waiting } }

theorem PortSide.refl (s : State) : PortSide s s := ⟨_, _, rfl⟩

theorem PortSide.trans {s t u : State} (h : PortSide s t) (k : PortSide t u) : PortSide s u := by
  obtain ⟨_, _, rfl⟩ := h
  obtain ⟨_, _, rfl⟩ := k
  exact ⟨_, _, rfl⟩

theorem PortSide.eq {s t : State} (h : PortSide s t) :
    t = { s with store := { s.store with inFlight := t.store.inFlight, waiting := t.store.waiting } } := by
  obtain ⟨_, _, rfl⟩ := h
  rfl

theorem State.grant_portSide (s : State) : PortSide s s.grant := by
  unfold State.grant
  split
  · exact ⟨_, _, rfl⟩
  · exact .refl s

theorem State.eraser_portSide (s : State) : PortSide s s.eraser := by
  unfold State.eraser
  split
  · exact ⟨_, _, rfl⟩
  · exact .refl s

/-- Settling the port moves nothing but its operations (R117, R118). -/
theorem State.settlePort_portSide (s : State) : PortSide s s.settlePort :=
  s.eraser_portSide.trans s.eraser.grant_portSide

theorem StoreSide.samplePathKept {s t : State} (h : StoreSide s t) : SamplePathKept s t :=
  ⟨h.rate, h.unit, h.sources, h.tracks, h.mix, h.stream, h.meter⟩

/-! ## Ends of transmission -/

theorem execThroughFrameEnd_of_busy (h : s.link.txThrough = some f) :
    execThroughFrameEnd s = .next (s.setLink { s.link with txThrough := none }.startThrough) := by
  simp [execThroughFrameEnd, h]

theorem execStageReturnFrameEnd_of_busy (h : s.link.txStageReturn = some f) :
    execStageReturnFrameEnd s = .next (s.setLink { s.link with txStageReturn := none }.startStageReturn) := by
  simp [execStageReturnFrameEnd, h]

theorem execProgramForwardFrameEnd_of_busy (h : s.link.txProgram = some f) :
    execProgramForwardFrameEnd s
      = .next (s.setLink { s.link with txProgram := none }).programFree.settlePort := by
  simp [execProgramForwardFrameEnd, h]

/-- Where no frame leaves the readout queue, only the Link Unit takes part (R12). -/
theorem State.programFree_quiet {m : LinkUnit} (h : s.link.startProgram = (m, false)) :
    s.programFree = { s with link := m } := by
  simp [State.programFree, State.egress, h]

/-- Where a frame leaves the readout queue, the Readout Engine takes its departure note and offers on (R12, R136). -/
theorem State.programFree_leaves {m : LinkUnit} (h : s.link.startProgram = (m, true)) :
    s.programFree = ({ s with link := m } : State).departure.readoutAdvance readoutFuel := by
  simp [State.programFree, State.egress, h]

/-- That frame is in transmission after all that follows. -/
theorem State.programFree_frame {m : LinkUnit} (h : s.link.startProgram = (m, true)) (hm : m.txProgram = some f) :
    s.programFree.link.txProgram = some f := by
  rw [State.programFree_leaves h]
  exact (State.departure_frameStays { s with link := m }).trans (State.readoutAdvance_frameStays _ _) f hm

/-- Settles O27: the offers by the room and the state of the direction, the ends by the queues that hold frames. -/
theorem transmissionEnds : Obligations.TransmissionEnds := by
  refine ⟨fun l f => ?_, fun s f => ⟨fun hup ht => ?_, fun hup ht => ?_, fun hup ht => ?_⟩⟩
  · refine ⟨LinkUnit.offerRepeat_down, LinkUnit.offerRepeat_full, fun h hq ht => ?_, fun h hq ht => ?_,
      LinkUnit.offerRelay_refused, LinkUnit.offerStageReply_refused, fun h ht => ⟨fun hq => ?_, fun hq => ?_⟩,
      fun h ht hq hr => ⟨?_, ?_⟩, LinkUnit.offerProgramReply_refused, LinkUnit.offerStream_refused,
      fun h ht => ⟨fun hq => ?_, fun hq => ?_⟩, fun h ht hs hp hr => ⟨?_, ?_⟩, LinkUnit.readoutRoom_iff⟩
    · exact (LinkUnit.offerRepeat_room h hq).trans (LinkUnit.startThrough_busy ht)
    · rw [LinkUnit.offerRepeat_room h (by simp [hq]),
        LinkUnit.startThrough_idle (l := { l with repeatQ := l.repeatQ ++ [f] }) h ht]
      simp [hq]
    · exact (LinkUnit.offerRelay_room h hq).trans (LinkUnit.startStageReturn_busy ht)
    · exact (LinkUnit.offerStageReply_room h hq).trans (LinkUnit.startStageReturn_busy ht)
    · rw [LinkUnit.offerRelay_room h (by simp [hr]), LinkUnit.startStageReturn_relay
        (l := { l with relayQ := l.relayQ ++ [f] }) (f := f) (q := []) h ht (by simp [hr]) (.inl hq)]
      simp [LinkUnit.takeRelay, hr]
    · rw [LinkUnit.offerStageReply_room h (by simp [hq]), LinkUnit.startStageReturn_reply
        (l := { l with stageReplyQ := l.stageReplyQ ++ [f] }) (f := f) (q := []) h ht (by simp [hq]) (.inl hr)]
      simp [LinkUnit.takeReply, hq]
    · rw [LinkUnit.offerProgramReply_room h hq,
        LinkUnit.startProgram_busy (l := { l with programReplyQ := l.programReplyQ ++ [f] }) ht]
    · rw [LinkUnit.offerStream_room h hq,
        LinkUnit.startProgram_busy (l := { l with streamQ := l.streamQ ++ [f] }) ht]
    · rw [LinkUnit.offerProgramReply_room h (by simp [hp]), LinkUnit.startProgram_reply
        (l := { l with programReplyQ := l.programReplyQ ++ [f] }) (f := f) (q := []) h ht hs (by simp [hp])]
      simp [hp]
    · rw [LinkUnit.offerStream_room h (by simp [hs]), LinkUnit.startProgram_stream
        (l := { l with streamQ := l.streamQ ++ [f] }) (f := f) (q := []) h ht (by simp [hs])]
      simp [hs]
  · refine ⟨_, execThroughFrameEnd_of_busy ht, ?_⟩
    exact congrArg s.setLink (LinkUnit.startThrough_idle (l := { s.link with txThrough := none }) hup rfl)
  · refine ⟨_, execStageReturnFrameEnd_of_busy ht, rfl, fun a q b r hq hr hm => ?_, fun a q b r hq hr hm => ?_,
      fun a q hq hr => ?_, fun b r hq hr => ?_, fun hq hr => ?_⟩
    · exact LinkUnit.startStageReturn_reply hup rfl hq (.inr hm)
    · exact LinkUnit.startStageReturn_relay hup rfl hr (.inr hm)
    · exact LinkUnit.startStageReturn_reply hup rfl hq (.inl hr)
    · exact LinkUnit.startStageReturn_relay hup rfl hr (.inl hq)
    · exact LinkUnit.startStageReturn_none hq hr
  · have hquiet : ∀ {m : LinkUnit}, ({ s.link with txProgram := none } : LinkUnit).startProgram = (m, false) →
        let t := (s.setLink { s.link with txProgram := none }).programFree.settlePort
        t = { s with link := m, store := { s.store with
          inFlight := t.store.inFlight, waiting := t.store.waiting } } := by
      intro m hm t
      have hfree := State.programFree_quiet (s := s.setLink { s.link with txProgram := none }) hm
      have ht : PortSide (s.setLink { s.link with txProgram := none }).programFree t := State.settlePort_portSide _
      rw [hfree] at ht
      exact ht.eq
    refine ⟨_, execProgramForwardFrameEnd_of_busy ht, ?_, fun a q hs => ?_, fun a q hs hp => ?_, fun hs hp hr => ?_,
      fun a q hs hp hr => ?_⟩
    · have hside := (State.programFree_side (s.setLink { s.link with txProgram := none })).trans
        (State.settlePort_side _)
      exact hside.samplePathKept
    · exact hquiet (LinkUnit.startProgram_stream hup rfl hs)
    · exact hquiet (LinkUnit.startProgram_reply hup rfl hs hp)
    · exact hquiet (LinkUnit.startProgram_none hs hp hr)
    · rw [(State.settlePort_portSide _).eq]
      exact State.programFree_frame (s := s.setLink { s.link with txProgram := none })
        (LinkUnit.startProgram_readout hup rfl hs hp hr) rfl

end Sys2Proof.Machine
end

section
/-!
Links going DOWN and coming UP (R14 to R16): what the Link Unit, the Request Queue and a running readout lose.
-/

namespace Sys2Proof.Machine

/-! ## The Link Unit's part -/

theorem LinkUnit.stageDown_eq (l : LinkUnit) :
    l.stageDown = { l with
      stageUp := false, rxStage := .hunt, txStageReturn := none, stageReplyQ := [], relayQ := []
      abandoned := if l.rxStage ≠ .hunt then l.abandoned.raise .stageForward else l.abandoned } := by
  by_cases h : l.rxStage = .hunt
  · simp [LinkUnit.stageDown, LinkUnit.abandon_of_hunt (d := .stageForward) h, h]
  · simp [LinkUnit.stageDown, LinkUnit.abandon_of_busy (d := .stageForward) h, h, LinkUnit.setParser]

theorem LinkUnit.programDown_eq (l : LinkUnit) :
    l.programDown = { l with
      programUp := false, rxProgram := .hunt, txProgram := none
      streamQ := [], programReplyQ := [], readoutQ := []
      abandoned := if l.rxProgram ≠ .hunt then l.abandoned.raise .programReturn else l.abandoned } := by
  by_cases h : l.rxProgram = .hunt
  · simp [LinkUnit.programDown, LinkUnit.abandon_of_hunt (d := .programReturn) h, h]
  · simp [LinkUnit.programDown, LinkUnit.abandon_of_busy (d := .programReturn) h, h, LinkUnit.setParser]

theorem LinkUnit.throughDown_eq (l : LinkUnit) :
    l.throughDown = { l with
      throughUp := false, rxThrough := .hunt, txThrough := none, repeatQ := []
      abandoned := if l.rxThrough ≠ .hunt then l.abandoned.raise .throughReturn else l.abandoned } := by
  by_cases h : l.rxThrough = .hunt
  · simp [LinkUnit.throughDown, LinkUnit.abandon_of_hunt (d := .throughReturn) h, h]
  · simp [LinkUnit.throughDown, LinkUnit.abandon_of_busy (d := .throughReturn) h, h, LinkUnit.setParser]

/-- Settles O30, one link at a time. -/
theorem throughPortDownAndLinkUp : Obligations.ThroughPortDownAndLinkUp := by
  intro s
  refine ⟨fun h => ⟨_, rfl, ?_⟩, fun h => ⟨_, rfl, ?_⟩, fun h => ⟨_, rfl, ?_⟩, fun h => ⟨_, rfl, ?_⟩⟩
  · simp [h, State.setLink, LinkUnit.throughDown_eq]
  all_goals simp [State.setLink, LinkUnit.up, h]

/-! ## Completion of requests, without and with a reply -/

theorem State.entryOf_none {s : State} {a : Nat} (h : ∀ e ∈ s.requests.entries, e.arrival ≠ a) :
    s.entryOf a = none :=
  List.find?_eq_none.mpr fun e he => by simpa using h e he

/-- A request that is no longer in the queue completes without a reply (R14). -/
theorem State.complete_gone {s : State} {a : Nat} (h : ∀ e ∈ s.requests.entries, e.arrival ≠ a) (st : Status)
    (ws : List Word) : s.complete a st ws = s := by
  simp [State.complete, State.entryOf_none h]

theorem State.entryOf_mem {s : State} {e : Entry} (hq : s.requests.Lawful) (he : e ∈ s.requests.entries) :
    s.entryOf e.arrival = some e :=
  find?_unique he (by simp) fun b hb hba => hq.unique hb he (by simpa using hba)

/-- A request of a lawful queue that completes leaves it and is answered (R188, R190). -/
theorem State.complete_mem {s : State} {e : Entry} (hq : s.requests.Lawful) (he : e ∈ s.requests.entries)
    (st : Status) (ws : List Word) : Answered s.link s.requests e st ws (s.complete e.arrival st ws) := by
  unfold State.complete
  rw [State.entryOf_mem hq he]
  cases hb : e.broadcast with
  | false => exact ⟨by simp [hb]; rfl, by simp [hb, State.reply, State.dropEntry]⟩
  | true =>
    by_cases hst : st = .done <;>
      exact ⟨by simp [hb, hst], by simp [hb, hst, State.dropEntry, State.countBroadcast]⟩

/-! ## The end of a readout -/

/-- What the end of a readout takes away, but for its reply (R139): its record, its queued frames unless it ends with
DONE, and the want of its fetch. -/
def State.readoutGone (s : State) (st : Status) : State :=
  { s with
    readout := {}
    link := if st = .done then s.link else { s.link with readoutQ := [] }
    store := { s.store with
      inFlight := s.store.inFlight.map fun j => { j with op := j.op.unwant }
      waiting := s.store.waiting.map PortOp.unwant } }

theorem State.readoutEnd_eq (s : State) (st : Status) :
    s.readoutEnd st = (s.readoutGone st).complete s.readout.arrival st
      [natWord s.readout.pagesSent, natWord s.readout.pagesFailed] := rfl

theorem State.readoutAbort_idle {s : State} (h : s.readout.state = .idle) : s.readoutAbort = s := by
  simp [State.readoutAbort, ReadoutEngine.busy, h]

theorem State.readoutAbort_busy {s : State} (h : s.readout.state ≠ .idle) :
    s.readoutAbort = s.readoutEnd .aborted := by
  simp [State.readoutAbort, ReadoutEngine.busy, h]

/-- The readout's own request is among those a link going DOWN removes, where it is one of that link's stations. -/
theorem State.ReadoutNamed.gone {s : State} {o : Origin} (hn : s.ReadoutNamed) (hs : s.readout.state ≠ .idle)
    (ho : s.readout.origin = o) : ∀ e ∈ (s.requests.linkDown o).entries, e.arrival ≠ s.readout.arrival := by
  intro e he hea
  obtain ⟨hmem, heo⟩ := List.mem_filter.mp he
  exact of_decide_eq_true heo (((hn hs).2 e hmem hea).trans ho)

/-! ## The links -/

/-- The state after the stage link's part of the Link Unit and its stations' requests are gone (R14). -/
def State.stageDown (s : State) : State :=
  { s with link := s.link.stageDown, requests := s.requests.linkDown .stage }

theorem execStageLinkDown_up {s : State} (h : s.link.stageUp = true) :
    execStageLinkDown s
      = .next (if s.readout.origin = .stage then s.stageDown.readoutAbort else s.stageDown) := by
  simp [execStageLinkDown, h, State.stageDown]

/-- Settles O28: a readout of a stage station ends with its request already gone, any other goes on. -/
theorem stageLinkDown : Obligations.StageLinkDown := by
  intro s hup
  refine ⟨_, execStageLinkDown_up hup, fun hro => ?_, fun ho hs hn => ?_⟩
  · have hkeep : (if s.readout.origin = .stage then s.stageDown.readoutAbort else s.stageDown) = s.stageDown := by
      split
      · rename_i ho
        exact State.readoutAbort_idle (hro.resolve_left (by simp [ho]))
      · rfl
    rw [hkeep, State.stageDown, LinkUnit.stageDown_eq]
    simp [RequestQueue.linkDown, cancelHeld]
  · rw [if_pos ho, State.readoutAbort_busy (s := s.stageDown) hs, State.readoutEnd_eq,
      State.complete_gone (hn.gone hs ho)]
    simp [State.readoutGone, State.stageDown, LinkUnit.stageDown_eq, RequestQueue.linkDown, cancelHeld]

/-- The state after the program link's part of the Link Unit, its stations' requests and the streams' continuity are
gone (R15, R166). -/
def State.programDown (s : State) : State :=
  { s with
    link := s.link.programDown
    requests := s.requests.linkDown .program
    stream := s.stream.map StreamBus.markGap }

theorem execProgramLinkDown_up {s : State} (h : s.link.programUp = true) :
    execProgramLinkDown s = .next s.programDown.readoutAbort := by
  simp [execProgramLinkDown, h, State.programDown]

/-- Requests that leave the queue leave it lawful. -/
theorem RequestQueue.Lawful.linkDown {q : RequestQueue} (h : q.Lawful) (o : Origin) : (q.linkDown o).Lawful := by
  obtain ⟨hlen, hpair, hlt⟩ := h
  exact ⟨(List.length_filter_le _ _).trans hlen, hpair.sublist List.filter_sublist,
    fun e he => hlt e (List.mem_of_mem_filter he)⟩

/-- Settles O29: a readout ends whatever its origin, with its request gone or answered. -/
theorem programLinkDown : Obligations.ProgramLinkDown := by
  intro s hup
  refine ⟨_, execProgramLinkDown_up hup, fun hs => ?_, fun hs => ?_⟩
  · rw [State.readoutAbort_idle (s := s.programDown) hs]
    simp [State.programDown, LinkUnit.programDown_eq, RequestQueue.linkDown, cancelHeld, StreamBus.markGap]
  · rw [State.readoutAbort_busy (s := s.programDown) hs, State.readoutEnd_eq]
    have hlink : (s.programDown.readoutGone .aborted).link = s.link.programDown := by
      simp [State.readoutGone, State.programDown, LinkUnit.programDown_eq]
    have hreq : (s.programDown.readoutGone .aborted).requests = s.requests.linkDown .program := rfl
    refine ⟨?_, fun ho hn => ?_, fun r hr hq hro hra => ?_⟩
    · rw [State.complete_eq]
      simp [State.readoutGone, State.programDown, StreamBus.markGap]
    · rw [State.complete_gone (hn.gone hs ho), hlink, hreq]
      simp [LinkUnit.programDown_eq, RequestQueue.linkDown, cancelHeld]
    · have hmem : r ∈ (s.requests.linkDown .program).entries := List.mem_filter.mpr ⟨hr, by simp [hro]⟩
      have hans := State.complete_mem (s := s.programDown.readoutGone .aborted) (hq.linkDown .program) hmem .aborted
        [natWord s.readout.pagesSent, natWord s.readout.pagesFailed]
      rw [hlink, hreq, hra, LinkUnit.programDown_eq] at hans
      simpa [RequestQueue.linkDown, cancelHeld, State.programDown] using hans

end Sys2Proof.Machine
end

section
/-!
RESERVE, RELEASE, UNIT_RESET and POWER_ON (R17, R183, R193 to R195, R201): how a served request ends at its service, and
what the two resets leave.
-/

namespace Sys2Proof.Machine

/-! ## Services that end their request -/

theorem Served.mem {s : State} {c : RequestCode} {e : Entry} (h : Served s c e) : e ∈ s.requests.entries :=
  (State.choice_mem h.1).1

/-- The request being served, as it stands in the queue, is the only one of its arrival number, so what completes is
that request, whatever else its service has changed. -/
theorem Served.complete_ends {s u v : State} {c : RequestCode} {e : Entry} (h : Served s c e)
    (hv : v = { u with requests := { u.requests with entries := (s.activate e.arrival).requests.entries } })
    (hu : u.requests.entries = s.requests.entries) (st : Status) (ws : List Word) :
    Ends u e st ws (v.complete e.arrival st ws) := by
  obtain ⟨hchoice, hcode, hq⟩ := h
  obtain ⟨t, ht, heq, hans⟩ := State.complete_spec (u := v) hq (State.choice_mem hchoice).1 (by rw [hv]) st ws
  rw [ht]
  subst hv
  rw [← hu] at hans
  exact ⟨heq, hans⟩

/-- A request refused at its service (R187). -/
theorem Served.refused {s : State} {c : RequestCode} {e : Entry} (h : Served s c e) (st : Status) :
    Ends s e st [] ((s.activate e.arrival).refuse e st) :=
  h.complete_ends rfl rfl st []

/-! ## RESERVE and RELEASE -/

theorem Entry.short_of_required {e : Entry} (h : e.required = 1) : e.short = true ↔ e.operands = [] := by
  simp [Entry.short, h]

/-- The scope operand is CONFIG for 1, STORE for 2 and none otherwise (R183, R198). -/
theorem Entry.scopeOperand_none {e : Entry} (h : e.required = 1)
    (hbad : e.operands = [] ∨ (field (e.op 0) 7 0 ≠ 1 ∧ field (e.op 0) 7 0 ≠ 2)) : e.scopeOperand = none := by
  unfold Entry.scopeOperand
  split
  · rfl
  · rename_i hs
    obtain ⟨h1, h2⟩ := hbad.resolve_left fun he => hs ((Entry.short_of_required h).mpr he)
    split <;> simp_all

/-- Any other scope operand names a reservation: the one a RESERVE or RELEASE reads and writes. -/
theorem Entry.scopeOperand_named {e : Entry} (h : e.required = 1)
    (hgood : ¬ (e.operands = [] ∨ (field (e.op 0) 7 0 ≠ 1 ∧ field (e.op 0) 7 0 ≠ 2))) :
    ∃ c, e.scopeOperand = some c
      ∧ (∀ q : RequestQueue,
        q.holderOf c = if field (e.op 0) 7 0 = 1 then q.reserveConfig else q.reserveStore)
      ∧ ∀ (q : RequestQueue) (x : Option Station), q.setHolder x c = { q with
          reserveConfig := if field (e.op 0) 7 0 = 1 then x else q.reserveConfig
          reserveStore := if field (e.op 0) 7 0 = 1 then q.reserveStore else x } := by
  obtain ⟨hne, hscope⟩ := not_or.mp hgood
  have hshort : ¬ e.short = true := by rwa [Entry.short_of_required h]
  by_cases h1 : field (e.op 0) 7 0 = 1
  · exact ⟨.config, by simp [Entry.scopeOperand, hshort, h1], fun q => by simp [h1, RequestQueue.holderOf],
      fun q x => by simp [h1, RequestQueue.setHolder]⟩
  · have h2 : field (e.op 0) 7 0 = 2 := by
      by_contra h2
      exact hscope ⟨h1, h2⟩
    exact ⟨.store, by simp [Entry.scopeOperand, hshort, h2], fun q => by simp [h2, RequestQueue.holderOf],
      fun q x => by simp [h2, RequestQueue.setHolder]⟩

/-- A service's marking of its request leaves the reservations. -/
theorem State.activate_holderOf (s : State) (a : Nat) (c : Scope) :
    (s.activate a).requests.holderOf c = s.requests.holderOf c := by
  cases c <;> rfl

theorem exec_serve {s : State} {e : Entry} {c : RequestCode} (b : Entry → State → State) (h : Served s c e) :
    (.next (s.serve c b) : Host.Outcome State Fault Refusal) = .next (b e (s.activate e.arrival)) := by
  obtain ⟨hchoice, hcode, -⟩ := h
  rw [State.serve_of_choice b hchoice hcode]

/-- RESERVE takes a free reservation for the request's station and refuses one that is held (R183). -/
theorem serveReserve_scope {s : State} {e : Entry} {c : Scope} (hc : e.scopeOperand = some c) :
    serveReserve e s = if s.requests.holderOf c = none
      then ({ s with requests := s.requests.setHolder (some e.holder) c } : State).done e []
      else s.refuse e .reserved := by
  cases hh : s.requests.holderOf c <;> simp [serveReserve, hc, hh]

/-- RELEASE frees the reservation of the request's own station only (R183). -/
theorem serveRelease_scope {s : State} {e : Entry} {c : Scope} (hc : e.scopeOperand = some c) :
    serveRelease e s = if s.requests.holderOf c = some ⟨e.origin, e.station⟩
      then ({ s with requests := s.requests.setHolder none c } : State).done e [] else s.refuse e .reserved := by
  unfold serveRelease
  rw [hc]
  rfl

/-! ## UNIT_RESET -/

/-- Marking a request ACTIVE leaves a lawful queue lawful. -/
theorem State.activate_lawful {s : State} (h : s.requests.Lawful) (a : Nat) : (s.activate a).requests.Lawful := by
  obtain ⟨hlen, hpair, hlt⟩ := h
  have hmark : ∀ e : Entry, (if e.arrival = a then { e with active := true } else e).arrival = e.arrival := by
    intro e; split <;> rfl
  have hid : ∀ (e : Entry) (o : Origin) (i n : Nat),
      (if e.arrival = a then { e with active := true } else e).is o i n = e.is o i n := by
    intro e o i n; split <;> rfl
  refine ⟨by simpa [State.activate] using hlen, ?_, ?_⟩
  · refine List.pairwise_map.mpr (hpair.imp fun {x y} hxy => ?_)
    rw [hmark, hmark, hid]
    refine ⟨hxy.1, ?_⟩
    have : ∀ z : Entry, (if z.arrival = a then { z with active := true } else z).origin = z.origin
      ∧ (if z.arrival = a then { z with active := true } else z).station = z.station
      ∧ (if z.arrival = a then { z with active := true } else z).number = z.number := by
      intro z; split <;> exact ⟨rfl, rfl, rfl⟩
    rw [(this y).1, (this y).2.1, (this y).2.2]
    exact hxy.2
  · intro e he
    obtain ⟨x, hx, rfl⟩ := List.mem_map.mp he
    rw [hmark]
    exact hlt x hx

/-- UNIT_RESET is refused while a take is live or a readout runs (R193). -/
theorem serveUnitReset_busy {s : State} {e : Entry} (h : s.liveTake ≠ none ∨ s.readout.state ≠ .idle) :
    serveUnitReset e (s.activate e.arrival) = (s.activate e.arrival).refuse e .wrongState := by
  refine if_pos ?_
  rw [Bool.or_eq_true]
  exact h.imp Option.isSome_iff_ne_none.mpr decide_eq_true

theorem serveUnitReset_free {s : State} {e : Entry} (h : ¬ (s.liveTake ≠ none ∨ s.readout.state ≠ .idle)) :
    serveUnitReset e (s.activate e.arrival) = ((s.activate e.arrival).warmReset e.arrival).done e [] := by
  refine if_neg ?_
  rw [Bool.or_eq_true]
  exact fun hb => h (hb.imp Option.isSome_iff_ne_none.mp of_decide_eq_true)

/-- The state a UNIT_RESET leaves before its own reply (R193, R194). -/
theorem Served.unitReset {s : State} {e : Entry} (h : Served s .unitReset e) :
    ∃ t, ((s.activate e.arrival).warmReset e.arrival).done e [] = t
      ∧ t = { (s.activate e.arrival).warmReset e.arrival with link := t.link, requests := t.requests }
      ∧ t.requests = { storeOp := s.requests.storeOp, nextArrival := s.requests.nextArrival }
      ∧ t.link = if e.broadcast then s.link.warmReset
        else s.link.warmReset.offerReply e.origin (t.replyFrame e.station e.number e.code.number .done []) := by
  have hq : ((s.activate e.arrival).warmReset e.arrival).requests.Lawful := by
    obtain ⟨hlen, hpair, hlt⟩ := State.activate_lawful h.2.2 e.arrival
    exact ⟨(List.length_filter_le _ _).trans hlen, hpair.sublist List.filter_sublist,
      fun x hx => hlt x (List.mem_of_mem_filter hx)⟩
  have he : ({ e with active := true } : Entry) ∈ ((s.activate e.arrival).warmReset e.arrival).requests.entries :=
    List.mem_filter.mpr ⟨List.mem_map.mpr ⟨e, h.mem, by simp⟩, by simp⟩
  obtain ⟨hlink, hreq⟩ := State.complete_mem hq he .done []
  refine ⟨_, rfl, State.complete_eq _ _ _ _, hreq.trans ?_, hlink⟩
  simp [State.warmReset, RequestQueue.warmReset]

/-! ## POWER_ON -/

/-- Pages that take free words one after another leave every page below and above them as it reads. -/
theorem State.scramblePages_read_other (n : Nat) : ∀ (s : State) (k m : Nat), (m < k ∨ k + n ≤ m) →
    (s.scramblePages k n).flash.read m = s.flash.read m := by
  induction n with
  | zero => exact fun _ _ _ _ => rfl
  | succ n ih =>
    intro s k m hm
    rw [State.scramblePages, ih (s.scramblePage k) (k + 1) m (by omega), State.scramblePage_flash,
      FlashMemory.read_write_other _ _ _ _ (by omega)]

/-- An operation that is cut leaves every page it does not write as it reads (R103). -/
theorem State.operationCut_read_other (s : State) (op : PortOp) (k : Nat) (h : ¬ op.writes k) :
    (s.operationCut op).flash.read k = s.flash.read k := by
  have hextent : ∀ e, ¬ k / Config.extentPages = e →
      (s.scramblePages (PageAddress.key ⟨e, 0⟩) Config.extentPages).flash.read k = s.flash.read k := by
    intro e he
    refine State.scramblePages_read_other _ _ _ _ ?_
    simp only [PageAddress.key, Config.extentPages] at he ⊢
    omega
  cases op with
  | catalogProgram a p => exact FlashMemory.read_write_other _ _ _ _ h
  | archiveProgram a p => exact FlashMemory.read_write_other _ _ _ _ h
  | catalogErase e => exact hextent e h
  | eraserErase e => exact hextent e h
  | formatErase e => exact hextent e h
  | archiveBadMark e => exact FlashMemory.read_write_other _ _ _ _ h
  | eraserBadMark e => exact FlashMemory.read_write_other _ _ _ _ h
  | catalogVerify a p => rfl
  | archiveVerify a p => rfl
  | mountFetch a => rfl
  | mountSpare e => rfl
  | recoveryFetch a => rfl
  | readoutFetch a w => rfl

theorem State.powerCut_read_other (s : State) (k : Nat)
    (h : ∀ j, s.store.inFlight = some j → ¬ j.op.writes k) : s.powerCut.flash.read k = s.flash.read k := by
  unfold State.powerCut
  split
  · rename_i j hj
    exact s.operationCut_read_other j.op k (h j hj)
  · rfl

/-- Settles O55: RESERVE and RELEASE end their request over the reservation they write; the two resets leave the values
the model constructs, and a page the cut operation does not write reads as before. -/
theorem reservationsAndResets : Obligations.ReservationsAndResets := by
  intro s e
  refine ⟨fun h => ?_, fun h => ?_, fun h => ⟨fun hbusy => ?_, fun hbusy => ?_⟩,
    fun high pins m0 m1 m2 m3 up0 up1 up2 => ?_⟩
  · have hreq : e.required = 1 := by simp [Entry.required, h.2.1]
    have hexec := exec_serve serveReserve h
    refine ⟨fun hbad => ⟨_, hexec, ?_⟩, fun hgood hheld => ⟨_, hexec, ?_⟩, fun hgood hfree => ⟨_, hexec, ?_⟩⟩
    · rw [serveReserve, Entry.scopeOperand_none hreq hbad]
      exact h.refused .badOperand
    · obtain ⟨c, hc, hholder, -⟩ := Entry.scopeOperand_named hreq hgood
      rw [serveReserve_scope hc, State.activate_holderOf, hholder, if_neg hheld]
      exact h.refused .reserved
    · obtain ⟨c, hc, hholder, hput⟩ := Entry.scopeOperand_named hreq hgood
      rw [serveReserve_scope hc, State.activate_holderOf, hholder, if_pos hfree, hput]
      refine h.complete_ends ?_ ?_ .done [] <;> rfl
  · have hreq : e.required = 1 := by simp [Entry.required, h.2.1]
    have hexec := exec_serve serveRelease h
    refine ⟨fun hbad => ⟨_, hexec, ?_⟩, fun hgood hother => ⟨_, hexec, ?_⟩, fun hgood hmine => ⟨_, hexec, ?_⟩⟩
    · rw [serveRelease, Entry.scopeOperand_none hreq hbad]
      exact h.refused .badOperand
    · obtain ⟨c, hc, hholder, -⟩ := Entry.scopeOperand_named hreq hgood
      rw [serveRelease_scope hc, State.activate_holderOf, hholder, if_neg hother]
      exact h.refused .reserved
    · obtain ⟨c, hc, hholder, hput⟩ := Entry.scopeOperand_named hreq hgood
      rw [serveRelease_scope hc, State.activate_holderOf, hholder, if_pos hmine, hput]
      refine h.complete_ends ?_ ?_ .done [] <;> rfl
  · refine ⟨_, exec_serve serveUnitReset h, ?_⟩
    rw [serveUnitReset_busy hbusy]
    exact h.refused .wrongState
  · obtain ⟨t, ht, heq, hreq, hlink⟩ := h.unitReset
    refine ⟨_, exec_serve serveUnitReset h, ?_⟩
    rw [serveUnitReset_free hbusy, ht]
    generalize hl : t.link = l, hr : t.requests = q at heq hreq hlink
    subst heq hreq
    refine ⟨?_, rfl, rfl, rfl, rfl, rfl, rfl, rfl, rfl, rfl, hlink⟩
    repeat' apply And.intro
    all_goals rfl
  · refine ⟨_, rfl, ?_, rfl, rfl, rfl, rfl, rfl, rfl, rfl, rfl, rfl, rfl, rfl, rfl, rfl, rfl, rfl, rfl, rfl, rfl, rfl,
      rfl, rfl, rfl, s.powerCut_read_other⟩
    repeat' apply And.intro
    all_goals rfl

end Sys2Proof.Machine
end

section
/-!
The mix boundary (R161, R164, R165): what the buses' offers make of the stream queue, one after another, as a
function of the room the queue has.
-/

namespace Sys2Proof.Machine

/-- A bus after its turn at a mix boundary: with a frame offered when it is enabled (R161 step 1). -/
def StreamBus.coded (b : StreamBus) (accepted : Bool) : StreamBus :=
  if b.mode = .disabled then b else b.offered accepted

/-- The STREAM frames of the enabled buses, the first of them numbered `n` (R164). -/
def streamFrames (unit n : Nat) (bs : List StreamBus) : List Frame :=
  (bs.zipIdx n).filterMap fun x => x.1.mode.width.map fun m => x.1.frame unit x.2 m

/-- The buses after their turns when the stream queue has room for `room` more frames: a bus's frame is accepted when
fewer enabled buses than that stand before it (R165). -/
def codedWithin (room : Nat) (bs : List StreamBus) : List StreamBus :=
  bs.zipIdx.map fun x =>
    x.1.coded (decide ((bs.take x.2).countP (fun b => b.mode ≠ .disabled) < room))

theorem BusMode.width_eq_none {m : BusMode} : m.width = none ↔ m = .disabled := by
  cases m <;> simp [BusMode.width]

variable {unit n m : Nat} {b : StreamBus} {bs : List StreamBus} {l : LinkUnit}

/-! ## One bus -/

/-- A frame accepted with the direction busy waits at the tail. -/
theorem LinkUnit.offerStream_waits {f : Frame} (hup : l.programUp = true) (ht : l.txProgram ≠ none)
    (hq : l.streamQ.length < 16) : l.offerStream f = ({ l with streamQ := l.streamQ ++ [f] }, true) := by
  rw [LinkUnit.offerStream_room hup hq, LinkUnit.startProgram_busy (l := { l with streamQ := l.streamQ ++ [f] }) ht]

/-- A frame accepted with the direction idle and no stream frame queued starts at once. -/
theorem LinkUnit.offerStream_starts {f : Frame} (hup : l.programUp = true) (ht : l.txProgram = none)
    (hq : l.streamQ = []) : l.offerStream f = ({ l with txProgram := some f, streamQ := [] }, true) := by
  rw [LinkUnit.offerStream_room hup (by simp [hq]), LinkUnit.startProgram_stream
    (l := { l with streamQ := l.streamQ ++ [f] }) hup ht (congrArg (· ++ [f]) hq)]

theorem StreamBus.codeBlock_disabled (h : b.mode.width = none) (a : Bool) :
    b.codeBlock unit n l = (b.coded a, l) := by
  rw [StreamBus.codeBlock, h, StreamBus.coded, if_pos (BusMode.width_eq_none.mp h)]

theorem StreamBus.codeBlock_enabled {k : LinkUnit} {a : Bool} (h : b.mode.width = some m)
    (hoffer : l.offerStream (b.frame unit n m) = (k, a)) : b.codeBlock unit n l = (b.coded a, k) := by
  have hm : b.mode ≠ .disabled := fun hd => by simp [hd, BusMode.width] at h
  simp only [StreamBus.codeBlock, h, hoffer, StreamBus.coded, if_neg hm]

theorem streamFrames_disabled (h : b.mode.width = none) :
    streamFrames unit n (b :: bs) = streamFrames unit (n + 1) bs := by
  simp [streamFrames, h]

theorem streamFrames_enabled (h : b.mode.width = some m) :
    streamFrames unit n (b :: bs) = b.frame unit n m :: streamFrames unit (n + 1) bs := by
  simp [streamFrames, h]

theorem streamFrames_length_le : (streamFrames unit n bs).length ≤ bs.length := by
  simpa [streamFrames] using List.length_filterMap_le _ (bs.zipIdx n)

/-- The first bus's frame needs one place; what is left is the room of the others. -/
theorem codedWithin_cons (room : Nat) : codedWithin room (b :: bs)
    = b.coded (decide (0 < room)) :: codedWithin (room - if b.mode = .disabled then 0 else 1) bs := by
  simp only [codedWithin, List.zipIdx_cons', List.map_cons, List.map_map]
  refine congrArg₂ _ (by simp) (List.map_congr_left fun x _ => ?_)
  by_cases hd : b.mode = .disabled
  · simp [hd]
  · have : ∀ k : Nat, k + 1 < room ↔ k < room - 1 := by omega
    simp [hd, this]

/-- With room for a frame of every bus, every frame is accepted. -/
theorem codedWithin_of_length_le {room : Nat} (h : bs.length ≤ room) :
    codedWithin room bs = bs.map (StreamBus.coded · true) := by
  induction bs generalizing room with
  | nil => rfl
  | cons b bs ih =>
    rw [List.length_cons] at h
    rw [codedWithin_cons, ih (by split <;> omega), List.map_cons, decide_eq_true (by omega)]

/-! ## All buses -/

theorem codeBuses_cons {c : StreamBus} {k : LinkUnit} (h : b.codeBlock unit n l = (c, k)) :
    codeBuses unit n (b :: bs) l = (c :: (codeBuses unit (n + 1) bs k).1, (codeBuses unit (n + 1) bs k).2) := by
  rw [codeBuses, h]

/-- With the program link DOWN every frame is dropped (R165). -/
theorem codeBuses_down (h : l.programUp = false) :
    codeBuses unit n bs l = (bs.map (StreamBus.coded · false), l) := by
  induction bs generalizing n with
  | nil => rfl
  | cons b bs ih =>
    have hb : b.codeBlock unit n l = (b.coded false, l) := by
      cases hw : b.mode.width with
      | none => exact StreamBus.codeBlock_disabled hw false
      | some m => exact StreamBus.codeBlock_enabled hw (LinkUnit.offerStream_refused (.inl h))
    rw [codeBuses_cons hb, ih, List.map_cons]

/-- With the direction busy the frames join the tail of the queue while it has room, and the rest are dropped. -/
theorem codeBuses_busy (hup : l.programUp = true) (ht : l.txProgram ≠ none) :
    codeBuses unit n bs l = (codedWithin (16 - l.streamQ.length) bs,
      { l with streamQ := l.streamQ ++ (streamFrames unit n bs).take (16 - l.streamQ.length) }) := by
  induction bs generalizing n l with
  | nil => simp [codeBuses, codedWithin, streamFrames]
  | cons b bs ih =>
    rw [codedWithin_cons]
    cases hw : b.mode.width with
    | none =>
      rw [codeBuses_cons (StreamBus.codeBlock_disabled hw (decide (0 < 16 - l.streamQ.length))), ih hup ht,
        streamFrames_disabled hw, if_pos (BusMode.width_eq_none.mp hw), Nat.sub_zero]
    | some m =>
      have hm : b.mode ≠ .disabled := fun hd => by simp [hd, BusMode.width] at hw
      rw [streamFrames_enabled hw, if_neg hm]
      rcases Nat.lt_or_ge l.streamQ.length 16 with hlt | hge
      · rw [codeBuses_cons (StreamBus.codeBlock_enabled hw (LinkUnit.offerStream_waits hup ht hlt)),
          ih (l := { l with streamQ := l.streamQ ++ [b.frame unit n m] }) hup ht, decide_eq_true (by omega),
          List.take_cons (by omega)]
        simp [Nat.sub_sub]
      · rw [codeBuses_cons (StreamBus.codeBlock_enabled hw (LinkUnit.offerStream_refused (.inr hge))), ih hup ht,
          Nat.sub_eq_zero_of_le hge]
        simp

/-- With the direction busy and room for all, every frame joins the queue. -/
theorem codeBuses_room (hup : l.programUp = true) (ht : l.txProgram ≠ none)
    (hroom : l.streamQ.length + bs.length ≤ 16) :
    codeBuses unit n bs l = (bs.map (StreamBus.coded · true),
      { l with streamQ := l.streamQ ++ streamFrames unit n bs }) := by
  rw [codeBuses_busy hup ht, codedWithin_of_length_le (by omega),
    List.take_of_length_le (streamFrames_length_le.trans (by omega))]

/-- With the direction idle and no frame queued the first frame starts at once, and the others queue behind it. -/
theorem codeBuses_idle (hup : l.programUp = true) (ht : l.txProgram = none) (hq : l.streamQ = [])
    (hlen : bs.length ≤ 16) :
    codeBuses unit n bs l = (bs.map (StreamBus.coded · true), match streamFrames unit n bs with
      | [] => l
      | f :: fs => { l with txProgram := some f, streamQ := fs }) := by
  induction bs generalizing n with
  | nil => rfl
  | cons b bs ih =>
    rw [List.length_cons] at hlen
    cases hw : b.mode.width with
    | none =>
      rw [codeBuses_cons (StreamBus.codeBlock_disabled hw true), ih (by omega), streamFrames_disabled hw, List.map_cons]
    | some m =>
      rw [codeBuses_cons (StreamBus.codeBlock_enabled hw (LinkUnit.offerStream_starts hup ht hq)),
        codeBuses_room (l := { l with txProgram := some (b.frame unit n m), streamQ := [] }) hup nofun
          (by rw [List.length_nil]; omega), streamFrames_enabled hw, List.map_cons]
      rfl

/-! ## The boundary -/

/-- What a bus is once its frame's fate is known and its next mode is in force (R161, R164, R165). -/
theorem StreamBus.takeMode_coded (b : StreamBus) (accepted : Bool) : (b.coded accepted).takeMode = {
    mode := b.next, next := b.next
    seq := if b.mode = .disabled then (if b.next = .disabled then b.seq else 0) else (b.seq + 1) % 2 ^ 32
    gap := if b.mode = .disabled then (if b.next = .disabled then b.gap else false)
      else if b.next = .disabled then false else !accepted
    drops := if b.mode = .disabled ∨ accepted = true then b.drops else countUp b.drops 1
    buffer := List.replicate 32 none } := by
  by_cases hm : b.mode = .disabled <;> by_cases hn : b.next = .disabled <;>
    simp [StreamBus.coded, StreamBus.takeMode, StreamBus.offered, hm, hn, Config.mixRows]

/-- A boundary that is due and is not at row 0 is a mix boundary only (R19). -/
theorem exec_mixBoundary {s : State} (hdue : s.sources.boundaryDue = true) (hrow : s.sources.rowCounter ≠ 0) :
    exec .mixBoundary s = .next { s.boundaryGiven with
      link := (codeBuses s.unit 0 s.stream s.link).2
      stream := (codeBuses s.unit 0 s.stream s.link).1.map StreamBus.takeMode
      mix := s.mix.boundary } :=
  congrArg Host.Outcome.next (if_pos (by simp [State.mixDue, hdue, hrow]))

/-- Settles O37, by induction over the buses: the queue's room decides which frames it takes. -/
theorem mixBoundarySwapsAndCodes : Obligations.MixBoundarySwapsAndCodes := by
  intro s hdue hrow hlen
  have hafter : ∀ a : Bool, (fun b : StreamBus => (b.coded a).takeMode) = _ :=
    fun a => funext fun b => b.takeMode_coded a
  refine ⟨_, exec_mixBoundary hdue hrow, rfl, rfl, fun hup => ?_, fun hup ht hroom => ?_, fun hup ht => ?_,
    fun hup ht hq => ?_⟩
  · rw [codeBuses_down hup]
    exact ⟨rfl, by rw [List.map_map]; exact congrArg (List.map · _) (hafter false)⟩
  · rw [codeBuses_room hup ht (by omega)]
    exact ⟨rfl, by rw [List.map_map]; exact congrArg (List.map · _) (hafter true)⟩
  · rw [codeBuses_busy hup ht]
    refine ⟨rfl, ?_⟩
    rw [codedWithin, List.map_map]
    exact List.map_congr_left fun x _ => x.1.takeMode_coded _
  · rw [codeBuses_idle hup ht hq (by omega)]
    exact ⟨by rw [List.map_map]; exact congrArg (List.map · _) (hafter true), rfl⟩

end Sys2Proof.Machine
end

section
/-!
A readout that goes on (R131 to R137, R139 to R141): what the store port does with a fetch, the rules of the loop that
builds and offers frames, and the ends.
-/

namespace Sys2Proof.Machine

variable {s t u : State} {op : PortOp} {st : Status} {e : Entry} {b : BuiltFrame}

/-! ## The store port -/

theorem State.submit_portSide (s : State) (op : PortOp) : PortSide s (s.submit op) := ⟨_, _, rfl⟩

theorem State.freePort_portSide (s : State) (g : Bool) : PortSide s (s.freePort g) := by
  unfold State.freePort
  split
  · exact .trans ⟨_, _, rfl⟩ (State.grant_portSide _)
  · exact ⟨_, _, rfl⟩

theorem State.AtPort.submitted (s : State) (op : PortOp) : (s.submit op).AtPort op :=
  .inl (List.mem_append_right _ (List.mem_singleton_self op))

theorem State.AtPort.grant (h : s.AtPort op) : s.grant.AtPort op := by
  unfold State.grant
  split
  · rename_i next hfree hnext
    have hwaits : op ∈ s.store.waiting := h.resolve_right (by simp [hfree])
    by_cases heq : op = next
    · exact .inr (congrArg some heq.symm)
    · exact .inl ((List.mem_erase_of_ne heq).mpr hwaits)
  · exact h

theorem State.AtPort.eraser (h : s.AtPort op) : s.eraser.AtPort op := by
  unfold State.eraser
  split
  · exact h.imp_left (List.mem_append_left _)
  · exact h

/-- An operation at the port stays there when the port is settled: it waits on, or it is granted. -/
theorem State.AtPort.settlePort (h : s.AtPort op) : s.settlePort.AtPort op := h.eraser.grant

/-- What the port then does leaves a request answered. -/
theorem Answered.portSide {l : LinkUnit} {q : RequestQueue} {ws : List Word} (h : Answered l q e st ws t)
    (hp : PortSide t u) : Answered l q e st ws u := by
  obtain ⟨_, _, rfl⟩ := hp
  exact h

/-! ## The end of a readout -/

theorem State.readoutEnd_readout (s : State) (st : Status) : (s.readoutEnd st).readout = {} := by
  rw [State.readoutEnd_eq, State.complete_eq]
  rfl

/-- A readout whose request is in the queue ends with its status and its page counts (R139). -/
theorem State.readoutEnd_answers (hq : s.requests.Lawful) (he : e ∈ s.requests.entries)
    (harr : e.arrival = s.readout.arrival) (hp : PortSide (s.readoutEnd st) t) :
    t.readout = {} ∧ t.takes = s.takes ∧ t.store.table = s.store.table
      ∧ Answered (if st = .done then s.link else { s.link with readoutQ := [] }) s.requests e st
        [natWord s.readout.pagesSent, natWord s.readout.pagesFailed] t := by
  have hend : Answered (s.readoutGone st).link (s.readoutGone st).requests e st
      [natWord s.readout.pagesSent, natWord s.readout.pagesFailed] (s.readoutEnd st) := by
    rw [State.readoutEnd_eq, ← harr]
    exact State.complete_mem (s := s.readoutGone st) hq he _ _
  refine ⟨by rw [hp.eq]; exact s.readoutEnd_readout st, ?_, ?_, hend.portSide hp⟩
  all_goals rw [hp.eq, State.readoutEnd_eq, State.complete_eq]; rfl

/-! ## The backlog test and the fetch -/

theorem State.readoutFetch_found {a : PageAddress} (hl : s.store.locate s.readout.take s.readout.nextPage = some a)
    (ha : s.store.answers a.extent = true) :
    s.readoutFetch = (s.setReadout { s.readout with state := .fetching }).submit (.readoutFetch a true) := by
  simp [State.readoutFetch, hl, ha]

theorem State.readoutFetch_absent (h : ∀ a, s.store.locate s.readout.take s.readout.nextPage = some a →
    s.store.answers a.extent = false) : s.readoutFetch = s.readoutEnd .storeFault := by
  unfold State.readoutFetch
  split
  · rename_i a hl
    simp [h a hl]
  · rfl

theorem State.backlogTest_deep (h : s.store.backlog < s.store.queue.length) :
    s.backlogTest = s.setReadout { s.readout with state := .holding, countdown := s.store.holdTime } :=
  if_neg (Nat.not_le.mpr h)

theorem State.backlogTest_shallow (h : s.store.queue.length ≤ s.store.backlog) : s.backlogTest = s.readoutFetch :=
  if_pos h

theorem exec_holdCountdownExpiry (hs : s.readout.state = .holding) (hc : s.readout.countdown = 0) :
    exec .holdCountdownExpiry s = .next s.backlogTest.settlePort :=
  congrArg Host.Outcome.next (if_pos (by simp [State.holdDue, hs, hc]))

/-! ## The page step -/

theorem State.readoutTake_eq (s : State) : s.readoutTake
    = ((s.takes.record s.readout.take).any fun k => k.state.live,
      ((s.takes.record s.readout.take).map TakeRecord.pageCount).getD 0) := by
  unfold State.readoutTake
  cases s.takes.record s.readout.take <;> rfl

theorem State.pageStep_more (h : s.readout.nextPage < s.readoutTake.2) : s.pageStep = s.backlogTest := if_pos h

theorem State.pageStep_atEnd (h : s.readoutTake.2 ≤ s.readout.nextPage) :
    s.pageStep = s.setReadout { s.readout with state := if s.readoutTake.1 then .following else .final } :=
  if_neg (Nat.not_lt.mpr h)

/-! ## The loop that builds and offers frames -/

/-- The engine has frames to build only in SENDING and FINAL (R135, R137). -/
theorem State.readoutAdvance_rest (hs : s.readout.state ≠ .sending) (hf : s.readout.state ≠ .final) (n : Nat) :
    s.readoutAdvance n = s := by
  cases n with
  | zero => rfl
  | succ n => cases h : s.readout.state <;> simp_all [State.readoutAdvance]

/-- One round in SENDING and FINAL: the frame at hand is offered and, where it is accepted, the next is built. -/
theorem State.readoutAdvance_round (h : s.readout.state = .sending ∨ s.readout.state = .final)
    (hb : s.readoutBuild.readout.held = some b) (n : Nat) :
    s.readoutAdvance (n + 1) = if s.readoutBuild.link.readoutRoom
      then (s.readoutBuild.readoutAccept b).readoutAdvance n else s.readoutBuild := by
  rcases h with h | h <;> simp [State.readoutAdvance, h, hb]

theorem State.readoutBuild_held (hb : s.readout.held = some b) : s.readoutBuild = s := by
  simp [State.readoutBuild, hb]

theorem State.readoutBuild_page (hs : s.readout.state = .sending) (hb : s.readout.held = none) :
    s.readoutBuild = s.setReadout { s.readout with
      held := some s.pageFrame
      cut := s.readout.cut + ((s.readout.buffer.drop s.readout.cut).take 56).length, fresh := false } := by
  simp [State.readoutBuild, hs, hb, Config.readoutWords]

theorem State.readoutBuild_closing (hs : s.readout.state = .final) (hb : s.readout.held = none) :
    s.readoutBuild = s.setReadout { s.readout with held := some s.closingFrame } := by
  simp [State.readoutBuild, hs, hb]

/-- With the program direction busy an accepted frame waits in the queue, and the page step follows where it ended
its page without LAST (R136). -/
theorem State.readoutAccept_busy (ht : s.link.txProgram ≠ none) (b : BuiltFrame) : s.readoutAccept b
    = if b.note.endsPage && !b.note.last then (s.readoutJoin b).pageStep else s.readoutJoin b := by
  have hegress : (s.readoutJoin b).egress = s.readoutJoin b := by
    have hbusy : (s.readoutJoin b).link.startProgram = ((s.readoutJoin b).link, false) := LinkUnit.startProgram_busy ht
    simp [State.egress, hbusy]
  simp only [State.readoutAccept, hegress]

/-! ## An accepted frame -/

theorem State.readoutJoin_last (h : b.note.last = true) : s.readoutJoin b = { s with
    link := { s.link with readoutQ := s.link.readoutQ ++ [b.words] }
    readout := { s.readout with
      held := none, notes := s.readout.notes ++ [b.note], state := .ending, buffer := [] } } := by
  simp [State.readoutJoin, h]

theorem State.readoutJoin_inner (h : b.note.last = false) (he : b.note.endsPage = false) :
    s.readoutJoin b = { s with
      link := { s.link with readoutQ := s.link.readoutQ ++ [b.words] }
      readout := { s.readout with held := none, notes := s.readout.notes ++ [b.note] } } := by
  simp [State.readoutJoin, h, he]

theorem State.readoutJoin_ends (h : b.note.last = false) (he : b.note.endsPage = true) :
    s.readoutJoin b = { s with
      link := { s.link with readoutQ := s.link.readoutQ ++ [b.words] }
      readout := { s.readout with
        held := none, notes := s.readout.notes ++ [b.note], buffer := []
        nextPage := s.readout.nextPage + 1, firstPage := false } } := by
  simp [State.readoutJoin, h, he]

/-- With the direction busy and room in the queue, the frame at hand joins it and the engine goes on. -/
theorem State.readoutAdvance_accepts (h : s.readout.state = .sending ∨ s.readout.state = .final)
    (hb : s.readoutBuild.readout.held = some b) (hup : s.link.programUp = true) (ht : s.link.txProgram ≠ none)
    (hq : s.link.readoutQ.length < 2) (n : Nat) :
    s.readoutAdvance (n + 1) = (if b.note.endsPage && !b.note.last then (s.readoutBuild.readoutJoin b).pageStep
      else s.readoutBuild.readoutJoin b).readoutAdvance n := by
  rw [State.readoutAdvance_round h hb, State.readoutBuild_link, if_pos (LinkUnit.readoutRoom_iff.mpr ⟨hup, hq⟩),
    State.readoutAccept_busy (by rwa [State.readoutBuild_link])]

/-- With two frames in the queue the frame at hand waits. -/
theorem State.readoutAdvance_waits (h : s.readout.state = .sending ∨ s.readout.state = .final)
    (hb : s.readoutBuild.readout.held = some b) (hq : 2 ≤ s.link.readoutQ.length) (n : Nat) :
    s.readoutAdvance (n + 1) = s.readoutBuild := by
  rw [State.readoutAdvance_round h hb, State.readoutBuild_link, if_neg]
  exact fun hroom => Nat.not_lt.mpr hq (LinkUnit.readoutRoom_iff.mp hroom).2

/-- A frame has left the queue and one is left there: the frame that was held joins it, and the engine goes on. -/
theorem State.readoutAdvance_held {g : Frame} (h : s.readout.state = .sending ∨ s.readout.state = .final)
    (hb : s.readout.held = some b) (hup : s.link.programUp = true) (ht : s.link.txProgram ≠ none)
    (hq : s.link.readoutQ = [g]) : s.readoutAdvance readoutFuel
      = (if b.note.endsPage && !b.note.last then (s.readoutJoin b).pageStep else s.readoutJoin b).readoutAdvance 7 := by
  have hbuild := State.readoutBuild_held hb
  rw [readoutFuel, State.readoutAdvance_accepts h (by rwa [hbuild]) hup ht (by simp [hq]), hbuild]

/-! ## Built frames that wait -/

/-- In SENDING the next frame of the page is built, and waits where the queue is full (R135, R136). -/
theorem State.readoutAdvance_cut (h : s.readout.state = .sending) (hb : s.readout.held = none)
    (hq : 2 ≤ s.link.readoutQ.length) (n : Nat) : s.readoutAdvance (n + 1) = s.setReadout { s.readout with
      held := some s.pageFrame
      cut := s.readout.cut + ((s.readout.buffer.drop s.readout.cut).take 56).length, fresh := false } := by
  have hbuild := State.readoutBuild_page h hb
  rw [State.readoutAdvance_waits (.inl h) (by rw [hbuild]; rfl) hq, hbuild]

/-- In FINAL the closing frame is built, and waits where the queue is full (R136, R137). -/
theorem State.readoutAdvance_closing (h : s.readout.state = .final) (hb : s.readout.held = none)
    (hq : 2 ≤ s.link.readoutQ.length) (n : Nat) :
    s.readoutAdvance (n + 1) = s.setReadout { s.readout with held := some s.closingFrame } := by
  have hbuild := State.readoutBuild_closing h hb
  rw [State.readoutAdvance_waits (.inr h) (by rw [hbuild]; rfl) hq, hbuild]

/-! ## The page step in the loop -/

theorem State.pageStep_advance_deep (h : s.readout.nextPage < s.readoutTake.2)
    (hd : s.store.backlog < s.store.queue.length) (n : Nat) : s.pageStep.readoutAdvance n
      = s.setReadout { s.readout with state := .holding, countdown := s.store.holdTime } := by
  rw [State.pageStep_more h, State.backlogTest_deep hd, State.readoutAdvance_rest] <;> simp

theorem State.pageStep_advance_fetch {a : PageAddress} (h : s.readout.nextPage < s.readoutTake.2)
    (hd : s.store.queue.length ≤ s.store.backlog)
    (hl : s.store.locate s.readout.take s.readout.nextPage = some a) (ha : s.store.answers a.extent = true) (n : Nat) :
    s.pageStep.readoutAdvance n
      = (s.setReadout { s.readout with state := .fetching }).submit (.readoutFetch a true) := by
  rw [State.pageStep_more h, State.backlogTest_shallow hd, State.readoutFetch_found hl ha,
    State.readoutAdvance_rest] <;> simp

theorem State.pageStep_advance_following (h : s.readoutTake.2 ≤ s.readout.nextPage) (hl : s.readoutTake.1 = true)
    (n : Nat) : s.pageStep.readoutAdvance n = s.setReadout { s.readout with state := .following } := by
  rw [State.pageStep_atEnd h, if_pos hl, State.readoutAdvance_rest] <;> simp

/-- At the end of a closed take the closing frame is built, and waits where the queue is full (R137). -/
theorem State.pageStep_advance_final (h : s.readoutTake.2 ≤ s.readout.nextPage) (hl : s.readoutTake.1 = false)
    (hb : s.readout.held = none) (hq : 2 ≤ s.link.readoutQ.length) (n : Nat) :
    s.pageStep.readoutAdvance (n + 1)
      = s.setReadout { s.readout with state := .final, held := some s.closingFrame } := by
  rw [State.pageStep_atEnd h, if_neg (by rw [hl]; nofun)]
  exact State.readoutAdvance_closing (s := s.setReadout { s.readout with state := .final }) rfl hb hq n

theorem State.pageFrame_eq (s : State) : s.pageFrame =
    let r := s.readout
    let data := (r.buffer.drop r.cut).take 56
    let ends := decide (4096 ≤ r.cut + data.length)
    let last := ends && (!r.run || (!s.readoutTake.1 && decide (r.nextPage + 1 = s.readoutTake.2)))
    { words := makeFrame s.unit kindReadout 0
        (readoutBody r.take r.nextPage r.cut r.fresh r.checkFailed last data)
      note := ⟨ends, r.checkFailed, last⟩ } := rfl

/-! ## A frame leaves the readout queue -/

/-- The readout's record after the oldest departure note is taken (R136). -/
def ReadoutEngine.noted (r : ReadoutEngine) (n : DepartureNote) (ns : List DepartureNote) : ReadoutEngine :=
  { r with
    notes := ns
    pagesSent := r.pagesSent + n.endsPage.toNat
    pagesFailed := r.pagesFailed + (n.endsPage && n.checkFailed).toNat }

/-- What the start of the readout queue's oldest frame leaves, before the engine goes on. -/
def State.frameLeft (s : State) (f : Frame) (q : List Frame) (n : DepartureNote) (ns : List DepartureNote) : State :=
  { s with
    link := { s.link with txProgram := some f, readoutQ := q }
    readout := s.readout.noted n ns }

theorem State.departure_noted {n : DepartureNote} {ns : List DepartureNote} (hn : s.readout.notes = n :: ns) :
    s.departure = if n.last then (s.setReadout (s.readout.noted n ns)).readoutEnd .done
      else s.setReadout (s.readout.noted n ns) := by
  simp [State.departure, hn, ReadoutEngine.noted]

section
variable {f : Frame} {q : List Frame} {n : DepartureNote} {ns : List DepartureNote}

/-- The end of a transmission with only the readout queue holding frames starts its oldest one (R12, R136). -/
theorem exec_programForwardFrameEnd (hup : s.link.programUp = true)
    (ht : s.link.txProgram ≠ none) (hs : s.link.streamQ = []) (hp : s.link.programReplyQ = [])
    (hr : s.link.readoutQ = f :: q) (hn : s.readout.notes = n :: ns) :
    exec .programForwardFrameEnd s = .next (State.settlePort
      ((if n.last then (s.frameLeft f q n ns).readoutEnd .done else s.frameLeft f q n ns).readoutAdvance
        readoutFuel)) := by
  obtain ⟨g, hg⟩ := Option.ne_none_iff_exists'.mp ht
  refine (execProgramForwardFrameEnd_of_busy hg).trans (congrArg (Host.Outcome.next ∘ State.settlePort) ?_)
  refine (State.programFree_leaves (s := s.setLink { s.link with txProgram := none })
    (LinkUnit.startProgram_readout hup rfl hs hp hr)).trans ?_
  exact congrArg (State.readoutAdvance · readoutFuel) (State.departure_noted hn)

/-- The start of the frame that carries LAST ends the readout with DONE (R140). -/
theorem exec_programForwardFrameEnd_last (hup : s.link.programUp = true)
    (ht : s.link.txProgram ≠ none) (hs : s.link.streamQ = []) (hp : s.link.programReplyQ = [])
    (hr : s.link.readoutQ = f :: q) (hn : s.readout.notes = n :: ns) (hl : n.last = true) :
    exec .programForwardFrameEnd s = .next ((s.frameLeft f q n ns).readoutEnd .done).settlePort := by
  rw [exec_programForwardFrameEnd hup ht hs hp hr hn, if_pos hl, State.readoutAdvance_rest]
  all_goals rw [State.readoutEnd_readout]; nofun

end

/-! ## A page has been fetched -/

theorem exec_readoutFetchEnd {a : PageAddress} {wanted : Bool} {rows : Nat}
    (h : s.store.inFlight = some ⟨.readoutFetch a wanted, rows⟩) (answer : Answer) (g : Bool) :
    exec (.readoutFetchEnd answer g) s = .next (State.settlePort
      (if wanted then (s.freePort g).readoutFetched (s.fetched a answer) else s.freePort g)) := by
  change execReadoutFetchEnd answer g s = _
  simp [execReadoutFetchEnd, h]

theorem exec_readoutFetchEnd_wanted {a : PageAddress} {rows : Nat}
    (h : s.store.inFlight = some ⟨.readoutFetch a true, rows⟩) (answer : Answer) (g : Bool) :
    ∃ i w, exec (.readoutFetchEnd answer g) s = .next (State.settlePort (State.readoutFetched
      { s with store := { s.store with inFlight := i, waiting := w } } (s.fetched a answer))) := by
  obtain ⟨i, w, hfree⟩ := s.freePort_portSide g
  exact ⟨i, w, (exec_readoutFetchEnd h answer g).trans (by rw [if_pos rfl, hfree])⟩

/-- A fetched page in the read buffer (R134). -/
def State.pageLoaded (s : State) (p : PageImage) : State :=
  s.setReadout { s.readout with
    state := .sending
    buffer := p.data
    checkFailed := decide (p.spare.getD 3 0 ≠ ~~~(Word.sum p.data))
    cut := if s.readout.firstPage then s.readout.startOffset else 0
    fresh := true }

theorem State.readoutFetched_page (s : State) (p : PageImage) :
    s.readoutFetched (some p) = (s.pageLoaded p).readoutAdvance readoutFuel := by
  simp [State.readoutFetched, State.pageLoaded, PageImage.good, pageCheck]

theorem length_readoutWords {ws : List Word} {n : Nat} (hlen : ws.length = 4096) (hcut : n + 56 < 4096) :
    ((ws.drop n).take 56).length = 56 := by
  simp only [List.length_take, List.length_drop]
  omega

/-- A frame that ends before its page does carries 56 words and no LAST (R135). -/
theorem State.pageFrame_inner (hlen : s.readout.buffer.length = 4096) (hcut : s.readout.cut + 56 < 4096) :
    s.pageFrame = {
      words := makeFrame s.unit kindReadout 0 (readoutBody s.readout.take s.readout.nextPage s.readout.cut
        s.readout.fresh s.readout.checkFailed false ((s.readout.buffer.drop s.readout.cut).take 56))
      note := ⟨false, s.readout.checkFailed, false⟩ } := by
  simp only [State.pageFrame_eq, length_readoutWords hlen hcut, decide_eq_false (Nat.not_le.mpr hcut), Bool.false_and]

/-- A frame that ends before its page does has been cut and has joined the queue. -/
def State.frameCut (s : State) : State :=
  { s with
    link := { s.link with readoutQ := s.link.readoutQ ++ [s.pageFrame.words] }
    readout := { s.readout with
      cut := s.readout.cut + 56, fresh := false
      notes := s.readout.notes ++ [⟨false, s.readout.checkFailed, false⟩] } }

theorem State.readoutAdvance_frameCut (h : s.readout.state = .sending) (hb : s.readout.held = none)
    (hup : s.link.programUp = true) (ht : s.link.txProgram ≠ none) (hq : s.link.readoutQ.length < 2)
    (hlen : s.readout.buffer.length = 4096) (hcut : s.readout.cut + 56 < 4096) (n : Nat) :
    s.readoutAdvance (n + 1) = s.frameCut.readoutAdvance n := by
  have hbuild := State.readoutBuild_page h hb
  rw [length_readoutWords hlen hcut] at hbuild
  have hnote : s.pageFrame.note = ⟨false, s.readout.checkFailed, false⟩ := by rw [State.pageFrame_inner hlen hcut]
  rw [State.readoutAdvance_accepts (.inl h) (b := s.pageFrame) (by rw [hbuild]; rfl) hup ht hq, hnote,
    Bool.false_and, if_neg nofun, State.readoutJoin_inner (by rw [hnote]) (by rw [hnote]), hbuild, hnote]
  simp only [State.frameCut, State.setReadout, hb]

/-- Frame `j` of the rest of the page in the read buffer, where the page does not end with it (R135, R196). -/
def State.frameAt (s : State) (j : Nat) : Frame :=
  makeFrame s.unit kindReadout 0 (readoutBody s.readout.take s.readout.nextPage (s.readout.cut + 56 * j)
    (decide (j = 0)) s.readout.checkFailed false ((s.readout.buffer.drop (s.readout.cut + 56 * j)).take 56))

/-- A page with more than three frames to come, offered to an empty queue: two frames join it, and one is held. -/
theorem State.readoutAdvance_threeFrames (h : s.readout.state = .sending) (hb : s.readout.held = none)
    (hup : s.link.programUp = true) (ht : s.link.txProgram ≠ none) (hq : s.link.readoutQ = [])
    (hlen : s.readout.buffer.length = 4096) (hfresh : s.readout.fresh = true) (hcut : s.readout.cut + 168 < 4096) :
    s.readoutAdvance readoutFuel = { s with
      link := { s.link with readoutQ := [s.frameAt 0, s.frameAt 1] }
      readout := { s.readout with
        cut := s.readout.cut + 168, fresh := false
        held := some ⟨s.frameAt 2, ⟨false, s.readout.checkFailed, false⟩⟩
        notes := s.readout.notes
          ++ [⟨false, s.readout.checkFailed, false⟩, ⟨false, s.readout.checkFailed, false⟩] } } := by
  have hcut0 : s.readout.cut + 56 < 4096 := by omega
  have hcut1 : s.frameCut.readout.cut + 56 < 4096 := by change s.readout.cut + 56 + 56 < 4096; omega
  have hcut2 : s.frameCut.frameCut.readout.cut + 56 < 4096 := by change s.readout.cut + 56 + 56 + 56 < 4096; omega
  have h0 : s.pageFrame.words = s.frameAt 0 := by rw [State.pageFrame_inner hlen hcut0, hfresh]; rfl
  have h1 : s.frameCut.pageFrame.words = s.frameAt 1 := by
    rw [State.pageFrame_inner (s := s.frameCut) hlen hcut1]; rfl
  have h2 : s.frameCut.frameCut.pageFrame = ⟨s.frameAt 2, ⟨false, s.readout.checkFailed, false⟩⟩ := by
    rw [State.pageFrame_inner (s := s.frameCut.frameCut) hlen hcut2]; rfl
  rw [readoutFuel, State.readoutAdvance_frameCut h hb hup ht (by simp [hq]) hlen hcut0,
    State.readoutAdvance_frameCut (s := s.frameCut) h hb hup ht (by simp [State.frameCut, hq]) hlen hcut1,
    State.readoutAdvance_cut (s := s.frameCut.frameCut) h hb (by simp [State.frameCut]), h2,
    length_readoutWords (ws := s.frameCut.frameCut.readout.buffer) hlen hcut2]
  simp [State.frameCut, State.setReadout, hq, ← h0, ← h1]

/-- The last frame of the only page of a readout, offered to an empty queue, carries LAST (R135). -/
theorem State.readoutAdvance_lastFrame (h : s.readout.state = .sending) (hb : s.readout.held = none)
    (hup : s.link.programUp = true) (ht : s.link.txProgram ≠ none) (hq : s.link.readoutQ = [])
    (hlen : s.readout.buffer.length = 4096) (hrun : s.readout.run = false) (hlo : 4040 ≤ s.readout.cut)
    (hhi : s.readout.cut < 4096) :
    s.readoutAdvance readoutFuel = { s with
      link := { s.link with readoutQ := [makeFrame s.unit kindReadout 0
        (readoutBody s.readout.take s.readout.nextPage s.readout.cut s.readout.fresh s.readout.checkFailed true
          ((s.readout.buffer.drop s.readout.cut).take 56))] }
      readout := { s.readout with
        state := .ending, buffer := [], cut := 4096, fresh := false
        notes := s.readout.notes ++ [⟨true, s.readout.checkFailed, true⟩] } } := by
  have hbuild := State.readoutBuild_page h hb
  have hend : s.readout.cut + ((s.readout.buffer.drop s.readout.cut).take 56).length = 4096 := by
    simp only [List.length_take, List.length_drop]
    omega
  have hframe := s.pageFrame_eq
  simp only [hend, hrun, Nat.le_refl, decide_true, Bool.not_false, Bool.true_or, Bool.and_true] at hframe
  have hlast : s.pageFrame.note.last = true := by rw [hframe]
  rw [readoutFuel, State.readoutAdvance_accepts (.inl h) (b := s.pageFrame) (by rw [hbuild]; rfl) hup ht (by simp [hq]),
    hlast, Bool.not_true, Bool.and_false, if_neg nofun, State.readoutJoin_last hlast,
    State.readoutAdvance_rest, hbuild, hend, hframe]
  · simp [State.setReadout, hq, hb]
  · nofun
  · nofun

/-- Only the port moves besides what the engine did: the form of every clause in which the readout goes on. -/
theorem completes_engine {c : Instr} {l : LinkUnit} {r : ReadoutEngine}
    (hx : exec c s = .next t.settlePort) (ht : PortSide { s with link := l, readout := r } t) :
    Completes (exec c s) fun u => u = { s with
      link := l, store := { s.store with inFlight := u.store.inFlight, waiting := u.store.waiting }, readout := r } :=
  ⟨_, hx, (ht.trans t.settlePort_portSide).eq⟩

/-- The same with what else holds at the port. -/
theorem completes_settled {c : Instr} {l : LinkUnit} {r : ReadoutEngine} {p : State → Prop}
    (hx : exec c s = .next t.settlePort) (ht : PortSide { s with link := l, readout := r } t)
    (hp : p t.settlePort) :
    Completes (exec c s) fun u => u = { s with
      link := l, store := { s.store with inFlight := u.store.inFlight, waiting := u.store.waiting }, readout := r }
        ∧ p u :=
  ⟨_, hx, (ht.trans t.settlePort_portSide).eq, hp⟩

/-- Settles O54, clause by clause: what the backlog test, the departure or the fetched page makes of the engine's
record and the readout queue, and then the port settled. -/
theorem readoutGoesOn : Obligations.ReadoutGoesOn := by
  intro s
  refine ⟨fun hs hc => ⟨fun hdeep => ?_, fun hshallow a hl ha => ?_, fun hshallow habs e he hq harr => ?_⟩,
    fun f q n ns hup ht hsq hpq hrq hn => ⟨fun hlast e he hq harr => ?_, fun g b hlast hg hb hstate => ?_⟩,
    fun a wanted rows answer g hfly => ⟨fun hw => ?_, fun hw hfail e he hq harr => ?_,
      fun page hw hgot hlen hheld hup ht hrq => ⟨fun hroom => ?_, fun hrun hlo hhi => ?_⟩⟩⟩
  · refine ⟨_, exec_holdCountdownExpiry hs hc, ?_⟩
    have hp := State.settlePort_portSide s.backlogTest
    rw [State.backlogTest_deep hdeep, ← hs] at hp ⊢
    obtain ⟨_, _, heq⟩ := hp
    rw [heq]
    exact ⟨rfl, rfl⟩
  · refine ⟨_, exec_holdCountdownExpiry hs hc, ?_⟩
    rw [State.backlogTest_shallow hshallow, State.readoutFetch_found hl ha]
    obtain ⟨_, _, heq⟩ := (State.submit_portSide _ _).trans (State.settlePort_portSide
      ((s.setReadout { s.readout with state := .fetching }).submit (.readoutFetch a true)))
    exact ⟨by rw [heq]; rfl, by rw [heq]; rfl, (State.AtPort.submitted _ _).settlePort⟩
  · refine ⟨_, exec_holdCountdownExpiry hs hc, ?_⟩
    rw [State.backlogTest_shallow hshallow, State.readoutFetch_absent habs]
    exact State.readoutEnd_answers hq he harr (State.settlePort_portSide _)
  · exact ⟨_, exec_programForwardFrameEnd_last hup ht hsq hpq hrq hn hlast,
      State.readoutEnd_answers (s := s.frameLeft f q n ns) hq he harr (State.settlePort_portSide _)⟩
  · intro r leaves pages live word
    subst hg
    have hexec := exec_programForwardFrameEnd hup ht hsq hpq hrq hn
    rw [hlast, if_neg nofun,
      State.readoutAdvance_held (s := s.frameLeft f [g] n ns) hstate hb hup nofun rfl] at hexec
    refine ⟨fun hbl => ?_, fun hbl hbe hsend => ?_, fun hbl hbe => ?_⟩
    · have hj := State.readoutJoin_last (s := s.frameLeft f [g] n ns) hbl
      rw [hbl, Bool.not_true, Bool.and_false, if_neg nofun] at hexec
      generalize State.readoutJoin _ b = u at hexec hj
      rw [State.readoutAdvance_rest (by rw [hj]; nofun) (by rw [hj]; nofun)] at hexec
      exact completes_settled hexec ⟨_, _, hj⟩ trivial
    · have hj := State.readoutJoin_inner (s := s.frameLeft f [g] n ns) hbl hbe
      rw [hbe, Bool.false_and, if_neg nofun] at hexec
      generalize State.readoutJoin _ b = u at hexec hj
      rw [State.readoutAdvance_cut (by rw [hj]; exact hsend) (by rw [hj]) (by rw [hj]; exact Nat.le_refl 2),
        State.pageFrame_eq, State.readoutTake_eq] at hexec
      exact completes_settled hexec ⟨_, _, by rw [hj]; rfl⟩ trivial
    · have hj := State.readoutJoin_ends (s := s.frameLeft f [g] n ns) hbl hbe
      rw [hbe, hbl, Bool.not_false, Bool.and_true, if_pos rfl] at hexec
      generalize State.readoutJoin _ b = u at hexec hj
      have hpages : u.readoutTake = (live, pages) := by rw [State.readoutTake_eq, hj]; rfl
      intro r deep
      refine ⟨fun hmore hdeep => ?_, fun hmore hdeep a hl ha => ?_, fun hend hlive => ?_, fun hend hlive => ?_⟩
      · rw [State.pageStep_advance_deep (by rw [hpages, hj]; exact hmore) (by rw [hj]; exact hdeep)] at hexec
        exact completes_settled hexec ⟨_, _, by rw [hj]; rfl⟩ trivial
      · rw [State.pageStep_advance_fetch (by rw [hpages, hj]; exact hmore) (by rw [hj]; exact Nat.not_lt.mp hdeep)
          (by rw [hj]; exact hl) (by rw [hj]; exact ha)] at hexec
        exact completes_settled hexec (.trans ⟨_, _, by rw [hj]; rfl⟩ (State.submit_portSide _ _))
          (State.AtPort.submitted _ _).settlePort
      · rw [State.pageStep_advance_following (by rw [hpages, hj]; exact hend) (by rw [hpages]; exact hlive)] at hexec
        exact completes_settled hexec ⟨_, _, by rw [hj]; rfl⟩ trivial
      · rw [State.pageStep_advance_final (by rw [hpages, hj]; exact hend) (by rw [hpages]; exact hlive)
          (by rw [hj]) (by rw [hj]; exact Nat.le_refl 2)] at hexec
        exact completes_settled hexec ⟨_, _, by rw [hj]; rfl⟩ trivial
  · refine ⟨_, exec_readoutFetchEnd hfly answer g, ?_⟩
    rw [hw, if_neg nofun]
    exact ((s.freePort_portSide g).trans (State.settlePort_portSide _)).eq
  · subst hw hfail
    obtain ⟨i, w, hexec⟩ := exec_readoutFetchEnd_wanted hfly .failed g
    exact ⟨_, hexec, State.readoutEnd_answers
      (s := { s with store := { s.store with inFlight := i, waiting := w } }) hq he harr (State.settlePort_portSide _)⟩
  · subst hw
    obtain ⟨i, w, hexec⟩ := exec_readoutFetchEnd_wanted hfly answer g
    rw [hgot, State.readoutFetched_page, State.readoutAdvance_threeFrames
      (s := State.pageLoaded { s with store := { s.store with inFlight := i, waiting := w } } page)
      rfl hheld hup ht hrq hlen rfl hroom] at hexec
    exact completes_engine hexec ⟨_, _, rfl⟩
  · subst hw
    obtain ⟨i, w, hexec⟩ := exec_readoutFetchEnd_wanted hfly answer g
    rw [hgot, State.readoutFetched_page, State.readoutAdvance_lastFrame
      (s := State.pageLoaded { s with store := { s.store with inFlight := i, waiting := w } } page)
      rfl hheld hup ht hrq hlen hrun hlo hhi] at hexec
    exact completes_engine hexec ⟨_, _, rfl⟩

end Sys2Proof.Machine
end

section
/-!
Bits packed into words and read back (R70, R164): what a field of `n` bits holds, and that the words of a packed list
of bits give those bits in order.
-/

namespace Sys2Proof.Machine

/-! ## Bits and numbers -/

@[simp] theorem natBits_length (n v : Nat) : (natBits n v).length = n := by
  induction n with
  | zero => rfl
  | succ n ih => simp [natBits, ih]

@[simp] theorem intBits_length (n : Nat) (x : Int) : (intBits n x).length = n := natBits_length n _

theorem bitsNat_append_singleton (bs : List Bool) (b : Bool) : bitsNat (bs ++ [b]) = 2 * bitsNat bs + b.toNat := by
  simp [bitsNat]

theorem bitsNat_append (xs ys : List Bool) : bitsNat (xs ++ ys) = bitsNat xs * 2 ^ ys.length + bitsNat ys := by
  induction ys using List.reverseRecOn with
  | nil => simp [bitsNat]
  | append_singleton ys b ih =>
    rw [← List.append_assoc, bitsNat_append_singleton, bitsNat_append_singleton, ih, List.length_append,
      List.length_singleton, pow_succ]
    ring

theorem bitsNat_cons (b : Bool) (bs : List Bool) : bitsNat (b :: bs) = b.toNat * 2 ^ bs.length + bitsNat bs := by
  simpa [bitsNat] using bitsNat_append [b] bs

theorem bitsNat_lt (bs : List Bool) : bitsNat bs < 2 ^ bs.length := by
  induction bs with
  | nil => simp [bitsNat]
  | cons b bs ih =>
    rw [bitsNat_cons, List.length_cons, pow_succ]
    have : b.toNat * 2 ^ bs.length ≤ 2 ^ bs.length := by cases b <;> simp
    omega

@[simp] theorem bitsNat_replicate_false (n : Nat) : bitsNat (List.replicate n false) = 0 := by
  induction n with
  | zero => rfl
  | succ n ih => simp [List.replicate_succ, bitsNat_cons, ih]

/-- Reading back `n` bits gives the number they were taken from, below 2^n. -/
theorem bitsNat_natBits (n v : Nat) : bitsNat (natBits n v) = v % 2 ^ n := by
  induction n with
  | zero => simp [natBits, bitsNat, Nat.mod_one]
  | succ n ih =>
    rw [natBits, bitsNat_cons, ih, natBits_length, Nat.mod_pow_succ, Nat.toNat_testBit]
    ring

/-- Lists of the same length are told apart by the number they form. -/
theorem eq_of_bitsNat_eq : ∀ {xs ys : List Bool}, xs.length = ys.length → bitsNat xs = bitsNat ys → xs = ys
  | [], [], _, _ => rfl
  | x :: xs, y :: ys, hlen, h => by
    have htail : xs.length = ys.length := Nat.succ.inj hlen
    rw [bitsNat_cons, bitsNat_cons, htail] at h
    have hx := bitsNat_lt xs
    have hy := bitsNat_lt ys
    rw [htail] at hx
    generalize 2 ^ ys.length = p at h hx hy
    have hbit : x = y := by
      cases x <;> cases y <;> simp_all
      all_goals omega
    subst hbit
    exact congrArg _ (eq_of_bitsNat_eq htail (Nat.add_left_cancel h))

/-- The bits of the number that bits form are those bits. -/
theorem natBits_bitsNat {n : Nat} {bs : List Bool} (h : bs.length = n) : natBits n (bitsNat bs) = bs := by
  subst h
  refine eq_of_bitsNat_eq (natBits_length _ _) ?_
  rw [bitsNat_natBits, Nat.mod_eq_of_lt (bitsNat_lt bs)]

/-! ## Words -/

/-- A word holds its bits from bit 31 down, with zeros below them (R70). -/
theorem natBits_bitsWord {bs : List Bool} (h : bs.length ≤ 32) :
    natBits 32 (bitsWord bs).toNat = bs ++ List.replicate (32 - bs.length) false := by
  have hlen : (bs ++ List.replicate (32 - bs.length) false).length = 32 := by simp; omega
  have hnat : bitsNat bs * 2 ^ (32 - bs.length) = bitsNat (bs ++ List.replicate (32 - bs.length) false) := by
    simp [bitsNat_append]
  have hlt := bitsNat_lt (bs ++ List.replicate (32 - bs.length) false)
  rw [hlen] at hlt
  rw [bitsWord, hnat, BitVec.toNat_ofNat, Nat.mod_eq_of_lt hlt, natBits_bitsNat hlen]

theorem packInto_length (n : Nat) (bs : List Bool) : (packInto n bs).length = n := by
  induction n generalizing bs with
  | zero => rfl
  | succ n ih => simp [packInto, ih]

theorem unpackWords_append (us vs : List Word) : unpackWords (us ++ vs) = unpackWords us ++ unpackWords vs := by
  induction us with
  | nil => rfl
  | cons u us ih => simp [unpackWords, ih]

/-- The words that bits were packed into give those bits, then the zeros that fill the last word (R70). -/
theorem unpackWords_packInto {n : Nat} {bs : List Bool} (h : bs.length ≤ 32 * n) :
    unpackWords (packInto n bs) = bs ++ List.replicate (32 * n - bs.length) false := by
  induction n generalizing bs with
  | zero => simp_all [packInto, unpackWords]
  | succ n ih =>
    have hdrop : (bs.drop 32).length ≤ 32 * n := by rw [List.length_drop]; omega
    rw [packInto, unpackWords, natBits_bitsWord (List.length_take_le _ _), ih hdrop]
    rcases Nat.le_total 32 bs.length with hlong | hshort
    · have hfill : 32 * n - (bs.length - 32) = 32 * (n + 1) - bs.length := by omega
      rw [List.length_take, Nat.min_eq_left hlong, Nat.sub_self, List.length_drop, hfill, List.replicate_zero,
        List.append_nil, ← List.append_assoc, List.take_append_drop]
    · have hfill : 32 - bs.length + 32 * n = 32 * (n + 1) - bs.length := by omega
      rw [List.take_of_length_le hshort, List.drop_eq_nil_of_le hshort, List.nil_append, List.length_nil,
        Nat.sub_zero, List.append_assoc, List.replicate_append_replicate, hfill]

theorem unpackWords_packBits (bs : List Bool) :
    ∃ fill, unpackWords (packBits bs) = bs ++ fill :=
  ⟨_, unpackWords_packInto (by simp only [wordsFor]; omega)⟩

/-! ## Fields of a width -/

/-- In a row of fields of one width, field `j` stands at `m * j`. -/
theorem take_drop_flatMap {f : Int → List Bool} {m : Nat} (hf : ∀ x, (f x).length = m) (rest : List Bool) :
    ∀ (xs : List Int) (j : Nat), j < xs.length →
      ((xs.flatMap f ++ rest).drop (m * j)).take m = f (xs.getD j 0)
  | [], _, h => absurd h (Nat.not_lt_zero _)
  | x :: xs, 0, _ => by simp [List.append_assoc, List.take_left' (hf x)]
  | x :: xs, j + 1, h => by
    have hdrop : m * (j + 1) = (f x).length + m * j := by rw [hf]; ring
    rw [List.flatMap_cons, List.append_assoc, hdrop, ← List.drop_drop, List.drop_left]
    simpa using take_drop_flatMap hf rest xs j (Nat.lt_of_succ_lt_succ h)

/-- A number in range is read back from its two's complement field (R70, R164). -/
theorem signedOf_intBits {n : Nat} {x : Int} (hn : 0 < n) (hlo : -(2 ^ (n - 1) : Nat) ≤ x)
    (hhi : x < (2 ^ (n - 1) : Nat)) : signedOf n (bitsNat (intBits n x)) = x := by
  have hpow : (2 ^ n : Nat) = 2 * 2 ^ (n - 1) := by rw [← pow_succ', Nat.sub_add_cancel hn]
  have hpos : 0 < (2 ^ (n - 1) : Nat) := Nat.two_pow_pos _
  rw [intBits, bitsNat_natBits, signedOf, hpow]
  generalize (2 ^ (n - 1) : Nat) = p at *
  rcases lt_or_ge x 0 with hneg | hnonneg
  · have hmod : x % (2 * p : Nat) = x + 2 * p := by
      rw [← Int.add_emod_right, Int.emod_eq_of_lt] <;> omega
    have hnat : (x + 2 * p).toNat % (2 * p) = (x + 2 * p).toNat := Nat.mod_eq_of_lt (by omega)
    rw [hmod, hnat, if_neg (by omega)]
    omega
  · have hmod : x % (2 * p : Nat) = x := Int.emod_eq_of_lt hnonneg (by omega)
    have hnat : x.toNat % (2 * p) = x.toNat := Nat.mod_eq_of_lt (by omega)
    rw [hmod, hnat, if_pos (by omega)]
    omega

end Sys2Proof.Machine
end

section
/-!
The frames the part originates (R2, R9): their header fields and check, REPLY with the alert summary (R188, R189),
STREAM with its mantissas (R164).
-/

namespace Sys2Proof.Machine

/-! ## Words and frames -/

theorem natWord_toNat {n : Nat} (h : n < 2 ^ 32) : (natWord n).toNat = n := by
  rw [natWord, BitVec.toNat_ofNat, Nat.mod_eq_of_lt h]

theorem field_natWord {n hi lo : Nat} (h : n < 2 ^ 32) : field (natWord n) hi lo = n / 2 ^ lo % 2 ^ (hi + 1 - lo) := by
  rw [field, natWord_toNat h]

/-- The fields of a header word in range are read back (R196). -/
theorem headerWord_fields {kind aux unit n : Nat} (hk : kind < 16) (ha : aux < 256) (hu : unit < 32) (hn : n < 128) :
    headerMark (headerWord kind aux unit n) = 0xB4 ∧ headerKind (headerWord kind aux unit n) = kind
      ∧ headerAux (headerWord kind aux unit n) = aux ∧ headerUnit (headerWord kind aux unit n) = unit
      ∧ headerLength (headerWord kind aux unit n) = n := by
  simp only [headerMark, headerKind, headerAux, headerUnit, headerLength, headerWord, Config.frameMark]
  rw [field_natWord (by omega), field_natWord (by omega), field_natWord (by omega), field_natWord (by omega),
    field_natWord (by omega)]
  norm_num
  omega

@[simp] theorem makeFrame_length (unit kind aux : Nat) (body : List Word) :
    (makeFrame unit kind aux body).length = body.length + 2 := by
  simp [makeFrame]

/-- The body stands between the header and the check word. -/
theorem makeFrame_body (unit kind aux : Nat) (body : List Word) :
    (makeFrame unit kind aux body).tail.dropLast = body := by
  simp [makeFrame]

/-- The sum of all words of a frame with its check word (R2). -/
theorem makeFrame_sum (unit kind aux : Nat) (body : List Word) :
    Word.sum (makeFrame unit kind aux body) + 0x00005A33 = 0xFFFFFFFF := by
  rw [makeFrame, Word.sum_append_singleton, checkWord, Config.checkSalt]
  generalize Word.sum (headerWord kind aux unit (body.length + 2) :: body) = w
  bv_omega

/-! ## Replies -/

theorem RequestCode.number_lt (c : RequestCode) : c.number < 256 := by
  cases c <;> decide

theorem RequestCode.ofNumber_number (c : RequestCode) : RequestCode.ofNumber c.number = some c := by
  cases c <;> rfl

theorem Status.code_lt (st : Status) : st.code < 256 := by
  cases st <;> decide

/-- Six flags summed with the weights of bits 0 to 5. -/
theorem testBit_sixFlags : ∀ b0 b1 b2 b3 b4 b5 : Bool,
    let n := b0.toNat + 2 * b1.toNat + 4 * b2.toNat + 8 * b3.toNat + 16 * b4.toNat + 32 * b5.toNat
    n < 64 ∧ n.testBit 0 = b0 ∧ n.testBit 1 = b1 ∧ n.testBit 2 = b2 ∧ n.testBit 3 = b3 ∧ n.testBit 4 = b4
      ∧ n.testBit 5 = b5 := by
  decide

/-- Each bit of the alert summary is its condition (R189). -/
theorem State.alerts_bits (s : State) : s.alerts < 64
    ∧ s.alerts.testBit 0 = s.alertLapsed ∧ s.alerts.testBit 1 = s.alertTakeLoss
    ∧ s.alerts.testBit 2 = s.alertStoreLow ∧ s.alerts.testBit 3 = s.alertStoreStall
    ∧ s.alerts.testBit 4 = s.alertStoreFault ∧ s.alerts.testBit 5 = s.meter.clipAlert :=
  testBit_sixFlags _ _ _ _ _ _

/-! ## STREAM frames -/

theorem shiftFrom_le (m p : Nat) : ∀ n s, shiftFrom m p n s ≤ s + n
  | 0, _ => Nat.le_refl _
  | n + 1, s => by
    have := shiftFrom_le m p n (s + 1)
    rw [shiftFrom]
    split <;> omega

theorem blockShift_le (m p : Nat) : blockShift m p ≤ 24 - m := by
  simpa [blockShift] using shiftFrom_le m p (24 - m) 0

theorem clampInt_mem {lo hi : Int} (h : lo ≤ hi) (x : Int) : lo ≤ clampInt lo hi x ∧ clampInt lo hi x ≤ hi := by
  unfold clampInt
  split
  · omega
  · split <;> omega

/-- A mantissa is read back from its field (R163, R164). -/
theorem signedOf_mantissa {m : Nat} (hm : 0 < m) (s : Nat) (y : Int) :
    signedOf m (bitsNat (intBits m (mantissa m s y))) = mantissa m s y := by
  have hpos : 0 < (2 ^ (m - 1) : Nat) := Nat.two_pow_pos _
  obtain ⟨hlo, hhi⟩ := clampInt_mem (lo := -(2 ^ (m - 1) : Nat)) (hi := (2 ^ (m - 1) : Nat) - 1) (by omega)
    (if s = 0 then y else (y + (2 ^ (s - 1) : Nat)) / (2 ^ s : Nat))
  exact signedOf_intBits hm hlo (Int.lt_of_le_sub_one hhi)

/-- The words of 32 mantissas are as many as the mantissas have bits. -/
theorem mantissaWords_length {m : Nat} {ys : List Int} (h : ys.length = 32) : (mantissaWords m ys).length = m := by
  have hbits : (ys.flatMap fun y => intBits m (mantissa m (blockShift m (blockPeak ys)) y)).length = 32 * m := by
    simp only [List.length_flatMap, intBits_length, List.map_const', List.sum_replicate, h, smul_eq_mul]
  rw [mantissaWords, packBits, packInto_length, hbits, wordsFor]
  omega

/-- Field `j` of the mantissa words, whatever words follow them, is mantissa `j` (R164). -/
theorem mantissaWords_field {m j : Nat} {ys : List Int} (hm : 0 < m) (hj : j < ys.length) (ws : List Word) :
    signedOf m (bitsNat (((unpackWords (mantissaWords m ys ++ ws)).drop (m * j)).take m))
      = mantissa m (blockShift m (blockPeak ys)) (ys.getD j 0) := by
  obtain ⟨fill, hfill⟩ := unpackWords_packBits
    (ys.flatMap fun y => intBits m (mantissa m (blockShift m (blockPeak ys)) y))
  rw [unpackWords_append, mantissaWords, hfill, List.append_assoc, take_drop_flatMap (fun x => by simp) _ _ _ hj,
    signedOf_mantissa hm]

theorem StreamBus.samples_of_buffer {b : StreamBus} {ys : List Int} (h : b.buffer = ys.map some) : b.samples = ys := by
  simp [StreamBus.samples, h, Function.comp_def]

theorem StreamBus.frame_of_buffer {b : StreamBus} {unit bus m : Nat} {ys : List Int} (h : b.buffer = ys.map some) :
    b.frame unit bus m = makeFrame unit kindStream bus (natWord b.seq
      :: natWord (b.gap.toNat * 2 ^ 16 + m * 2 ^ 8 + blockShift m (blockPeak ys)) :: mantissaWords m ys) := by
  rw [StreamBus.frame, StreamBus.samples_of_buffer h]

/-- Settles O21: the fields by arithmetic on the words they are packed into, the mantissas by reading back bits. -/
theorem originatedFramesAreSound : Obligations.OriginatedFramesAreSound := by
  refine ⟨fun unit kind aux body hu hk ha hn => ?_, fun s station number c st result hs hn => ?_,
    fun b unit bus m ys hm hb hlen _ => ?_⟩
  · obtain ⟨hmark, hkind, haux, hunit, hlength⟩ := headerWord_fields (n := body.length + 2) hk ha hu (by omega)
    exact ⟨hmark, hkind, haux, hunit, by rw [makeFrame_length]; exact hlength, makeFrame_length _ _ _ _,
      List.take_left, makeFrame_sum _ _ _ _⟩
  · intro f w a
    have hc := c.number_lt
    have hst := st.code_lt
    obtain ⟨hlt, h0, h1, h2, h3, h4, h5⟩ := s.alerts_bits
    have hw : w = natWord (station * 2 ^ 24 + number * 2 ^ 16 + c.number * 2 ^ 8 + st.code) := rfl
    have ha : a.toNat = s.alerts := natWord_toNat (Nat.lt_trans hlt (by norm_num))
    have hfields : field w 31 24 = station ∧ field w 23 16 = number ∧ field w 15 8 = c.number
        ∧ field w 7 0 = st.code := by
      rw [hw, field_natWord (by omega), field_natWord (by omega), field_natWord (by omega), field_natWord (by omega)]
      norm_num
      omega
    obtain ⟨hstation, hnumber, hcode, hstatus⟩ := hfields
    refine ⟨rfl, hstation, hnumber, by rw [hcode, c.ofNumber_number], ?_, by rwa [ha], ?_⟩
    · rw [hstatus]
      cases st <;> rfl
    · simp only [bitSet, ha, h0, h1, h2, h3, h4, h5]
      refine ⟨?_, ?_, ?_, ?_, ?_, trivial⟩
      · simp [State.alertLapsed]
      · simp [State.alertTakeLoss, Option.any_eq_true]
      · simp [State.alertStoreLow]
      · simp [State.alertStoreStall, StoreController.stalled, Option.any_eq_true]
      · simp [State.alertStoreFault]
  · intro f w shift
    have hm0 : 0 < m := by omega
    have hshift : shift ≤ 24 - m := blockShift_le m _
    have hgap : b.gap.toNat < 2 := b.gap.toNat_lt
    have hf : f = makeFrame unit 4 bus (natWord b.seq
        :: natWord (b.gap.toNat * 2 ^ 16 + m * 2 ^ 8 + shift) :: mantissaWords m ys) := StreamBus.frame_of_buffer hb
    have hw : w = natWord (b.gap.toNat * 2 ^ 16 + m * 2 ^ 8 + shift) := congrArg (List.getD · 2 0) hf
    have hnat : w.toNat = b.gap.toNat * 2 ^ 16 + m * 2 ^ 8 + shift := by rw [hw, natWord_toNat (by omega)]
    refine ⟨by rw [hf, makeFrame_body], ?_, fun hseq => ?_, ?_, ?_, ?_, by omega, fun j hj => ?_⟩
    · rw [hf, makeFrame_length, List.length_cons, List.length_cons, mantissaWords_length hlen]
      rcases hm with rfl | rfl <;> rfl
    · rw [hf]
      exact natWord_toNat hseq
    · rw [bitSet, hnat, Nat.testBit_eq_decide_div_mod_eq]
      cases hg : b.gap <;> simp <;> omega
    · rw [field, hnat]
      norm_num
      omega
    · rw [field, hnat]
      norm_num
      omega
    · rw [hf]
      exact mantissaWords_field hm0 (by omega) [_]

end Sys2Proof.Machine
end

section
/-!
What the store, the takes and the readout do to the track sets of the take records and to the module ports
(R40, R60, R81, R103): `TakesSide`, one lemma for each shared operation, beside `StoreSide` of Laws/StoreSide.
-/

namespace Sys2Proof.Machine

/-- A record's track set names tracks of the part in ascending order (R40, R60). -/
def TakeRecord.SetLawful (k : TakeRecord) : Prop := k.trackSet.Pairwise (· < ·) ∧ ∀ n ∈ k.trackSet, n < 128

/-- Every record's track set is lawful. -/
def TakeController.SetsLawful (c : TakeController) : Prop := ∀ k ∈ c.records, k.SetLawful

/-- `t` has as many module ports as `s`, and lawful track sets where `s` has. -/
structure TakesSide (s t : State) : Prop where
  modules : t.store.modules.length = s.store.modules.length
  sets : s.takes.SetsLawful → t.takes.SetsLawful

namespace TakesSide

theorem refl (s : State) : TakesSide s s := ⟨rfl, id⟩

theorem trans {s t u : State} (h : TakesSide s t) (k : TakesSide t u) : TakesSide s u :=
  ⟨k.modules.trans h.modules, fun hs => k.sets (h.sets hs)⟩

/-- A change that leaves the records and the module ports. -/
theorem of_eq {s t : State} (hr : t.takes.records = s.takes.records)
    (hm : t.store.modules = s.store.modules) : TakesSide s t :=
  ⟨congrArg List.length hm, fun hs => by rw [TakeController.SetsLawful, hr]; exact hs⟩

/-- The same before an operation. -/
theorem after {s t u : State} (k : TakesSide t u) (hr : t.takes.records = s.takes.records)
    (hm : t.store.modules = s.store.modules) : TakesSide s u := (of_eq hr hm).trans k

/-- Records changed one by one, none in its track set. -/
theorem map {s t : State} {f : TakeRecord → TakeRecord} (hf : ∀ k, (f k).trackSet = k.trackSet)
    (hr : t.takes.records = s.takes.records.map f) (hm : t.store.modules = s.store.modules) : TakesSide s t := by
  refine ⟨congrArg List.length hm, fun hs k hk => ?_⟩
  obtain ⟨j, hj, rfl⟩ := List.mem_map.mp (hr ▸ hk)
  rw [TakeRecord.SetLawful, hf]
  exact hs j hj

/-- A fold of operations, each of which keeps the track sets. -/
theorem foldl {α : Type} (f : State → α → State) (hf : ∀ s a, TakesSide s (f s a)) (xs : List α) :
    ∀ s, TakesSide s (xs.foldl f s) := by
  induction xs with
  | nil => exact refl
  | cons a as ih => exact fun s => (hf s a).trans (ih _)

end TakesSide

open TakesSide

/-! ## Records, port, completion -/

theorem State.mapTake_takes_side (s : State) (n : Nat) {f : TakeRecord → TakeRecord}
    (hf : ∀ k, (f k).trackSet = k.trackSet) : TakesSide s (s.mapTake n f) :=
  .map (f := fun t => if t.number = n then f t else t)
    (fun k => by split; exacts [hf k, rfl]) rfl rfl

/-- A record is changed, but for its track set, before an operation. -/
theorem TakesSide.mapped {s u : State} {n : Nat} {f : TakeRecord → TakeRecord} (k : TakesSide (s.mapTake n f) u)
    (hf : ∀ k, (f k).trackSet = k.trackSet) : TakesSide s u := (s.mapTake_takes_side n hf).trans k

theorem State.dropTake_takes_side (s : State) (n : Nat) : TakesSide s (s.dropTake n) :=
  ⟨rfl, fun hs k hk => hs k (List.mem_of_mem_filter hk)⟩

theorem State.grant_takes_side (s : State) : TakesSide s s.grant := by
  unfold State.grant
  split
  · exact .of_eq rfl rfl
  · exact .refl s

theorem State.eraser_takes_side (s : State) : TakesSide s s.eraser := by
  unfold State.eraser
  split
  · exact .of_eq rfl rfl
  · exact .refl s

theorem State.settlePort_takes_side (s : State) : TakesSide s s.settlePort :=
  s.eraser_takes_side.trans s.eraser.grant_takes_side

theorem State.freePort_takes_side (s : State) (g : Bool) : TakesSide s (s.freePort g) := by
  have h : TakesSide s { s with store := { s.store with inFlight := none } } := .of_eq rfl rfl
  unfold State.freePort
  dsimp only
  split
  · exact h.trans (State.grant_takes_side _)
  · exact h

theorem State.complete_takes_side (s : State) (a : Nat) (st : Status) (ws : List Word) :
    TakesSide s (s.complete a st ws) := by
  rw [State.complete_eq]
  exact .of_eq rfl rfl

theorem State.completeStoreOp_takes_side (s : State) (st : Status) (ws : List Word) :
    TakesSide s (s.completeStoreOp st ws) := by
  unfold State.completeStoreOp
  split
  · exact .refl s
  · exact .after (State.complete_takes_side _ _ _ _) rfl rfl

/-! ## Readout -/

theorem State.readoutEnd_takes_side (s : State) (st : Status) : TakesSide s (s.readoutEnd st) := by
  rw [State.readoutEnd_eq]
  exact .after (State.complete_takes_side _ _ _ _) rfl rfl

theorem State.readoutFetch_takes_side (s : State) : TakesSide s s.readoutFetch := by
  unfold State.readoutFetch
  split
  · split
    · exact .of_eq rfl rfl
    · exact s.readoutEnd_takes_side _
  · exact s.readoutEnd_takes_side _

theorem State.backlogTest_takes_side (s : State) : TakesSide s s.backlogTest := by
  unfold State.backlogTest
  split
  · exact s.readoutFetch_takes_side
  · exact .of_eq rfl rfl

theorem State.pageStep_takes_side (s : State) : TakesSide s s.pageStep := by
  unfold State.pageStep
  dsimp only
  split
  · exact s.backlogTest_takes_side
  · exact .of_eq rfl rfl

theorem State.readoutBuild_takes_side (s : State) : TakesSide s s.readoutBuild := by
  unfold State.readoutBuild
  split <;> exact .of_eq rfl rfl

theorem State.departure_takes_side (s : State) : TakesSide s s.departure := by
  unfold State.departure
  split
  · exact .refl s
  · rename_i n ns _
    have h : TakesSide s (s.setReadout { s.readout with
        notes := ns
        pagesSent := s.readout.pagesSent + n.endsPage.toNat
        pagesFailed := s.readout.pagesFailed + (n.endsPage && n.checkFailed).toNat }) := .of_eq rfl rfl
    dsimp only
    split
    · exact h.trans (State.readoutEnd_takes_side _ _)
    · exact h

theorem State.egress_takes_side (s : State) : TakesSide s s.egress := by
  have h : TakesSide s { s with link := s.link.startProgram.1 } := .of_eq rfl rfl
  unfold State.egress
  dsimp only
  split
  · exact h.trans (State.departure_takes_side _)
  · exact h

theorem State.readoutAccept_takes_side (s : State) (b : BuiltFrame) : TakesSide s (s.readoutAccept b) := by
  have h : TakesSide s (s.readoutJoin b).egress :=
    .after (State.egress_takes_side _) (by rw [State.readoutJoin]) rfl
  unfold State.readoutAccept
  dsimp only
  split
  · exact h.trans (State.pageStep_takes_side _)
  · exact h

theorem State.readoutAdvance_takes_side (n : Nat) : ∀ s : State, TakesSide s (s.readoutAdvance n) := by
  induction n with
  | zero => exact fun s => .refl s
  | succ n ih =>
    intro s
    have h := s.readoutBuild_takes_side
    rw [State.readoutAdvance]
    split
    · dsimp only
      split
      · split
        · exact h.trans ((State.readoutAccept_takes_side _ _).trans (ih _))
        · exact h
      · exact h
    · dsimp only
      split
      · split
        · exact h.trans ((State.readoutAccept_takes_side _ _).trans (ih _))
        · exact h
      · exact h
    · exact .refl s

theorem State.readoutFetched_takes_side (s : State) (a : Option PageImage) : TakesSide s (s.readoutFetched a) := by
  unfold State.readoutFetched
  split
  · exact s.readoutEnd_takes_side _
  · exact .after (State.readoutAdvance_takes_side _ _) rfl rfl

theorem State.readoutVerifyNotice_takes_side (s : State) : TakesSide s s.readoutVerifyNotice := by
  unfold State.readoutVerifyNotice
  split
  · exact s.backlogTest_takes_side
  · exact .refl s

theorem State.readoutClosedNotice_takes_side (s : State) (n : Nat) : TakesSide s (s.readoutClosedNotice n) := by
  unfold State.readoutClosedNotice
  split
  · split
    · exact s.backlogTest_takes_side
    · exact .after (State.readoutAdvance_takes_side _ _) rfl rfl
  · exact .refl s

theorem State.readoutAbort_takes_side (s : State) : TakesSide s s.readoutAbort := by
  unfold State.readoutAbort
  split
  · exact s.readoutEnd_takes_side _
  · exact .refl s

theorem State.programFree_takes_side (s : State) : TakesSide s s.programFree := by
  unfold State.programFree
  split
  · exact s.egress_takes_side.trans (State.readoutAdvance_takes_side _ _)
  · exact s.egress_takes_side

/-! ## Catalog -/

theorem State.catalogAttempt_takes_side (s : State) (w : CatalogWrite) : TakesSide s (s.catalogAttempt w).1 := by
  unfold State.catalogAttempt
  dsimp only
  repeat' split
  all_goals exact .of_eq rfl rfl

theorem State.openFailed_takes_side (s : State) (n : Nat) : TakesSide s (s.openFailed n) :=
  (s.dropTake_takes_side n).trans (.after (State.completeStoreOp_takes_side _ _ _) rfl rfl)

theorem State.deleteEnd_takes_side (s : State) (n : Nat) (ok : Bool) : TakesSide s (s.deleteEnd n ok) := by
  unfold State.deleteEnd
  split
  · exact (s.dropTake_takes_side n).trans (.after (State.completeStoreOp_takes_side _ _ _) rfl rfl)
  · exact .mapped (State.completeStoreOp_takes_side _ _ _) fun _ => rfl

theorem State.formatWritten_takes_side (s : State) (ok : Bool) : TakesSide s (s.formatWritten ok) := by
  unfold State.formatWritten
  dsimp only
  split <;> exact .after (State.completeStoreOp_takes_side _ _ _) rfl rfl

theorem State.storeOpWritten_takes_side (s : State) (ok : Bool) : TakesSide s (s.storeOpWritten ok) := by
  unfold State.storeOpWritten
  split
  · exact .refl s
  · split
    · split
      · exact .of_eq rfl rfl
      · exact s.openFailed_takes_side _
    · exact s.completeStoreOp_takes_side _ _
    · exact s.completeStoreOp_takes_side _ _
    · exact s.completeStoreOp_takes_side _ _
    · split
      · exact s.completeStoreOp_takes_side _ _
      · exact .mapped (State.completeStoreOp_takes_side _ _ _) fun _ => rfl
    · exact s.deleteEnd_takes_side _ _
    · exact s.formatWritten_takes_side _

theorem State.waiterTold_takes_side (ok : Bool) (s : State) (w : Waiter) : TakesSide s (s.waiterTold ok w) := by
  cases w
  · exact s.storeOpWritten_takes_side ok
  · exact .refl s
  · exact .of_eq rfl rfl

theorem State.writeOutcome_takes_side (s : State) (ok : Bool) : TakesSide s (s.writeOutcome ok) := by
  unfold State.writeOutcome
  split
  · exact .refl s
  · exact .after (TakesSide.foldl _ (State.waiterTold_takes_side ok) _ _) rfl rfl

theorem State.writeStart_takes_side (s : State) (ws : List Waiter) : TakesSide s (s.writeStart ws) := by
  have h := s.catalogAttempt_takes_side ⟨s.takes.image, 0, ws⟩
  unfold State.writeStart
  dsimp only
  split
  · exact h
  · exact h.trans (State.writeOutcome_takes_side _ _)

theorem State.writeEnd_takes_side (s : State) (ok : Bool) : TakesSide s (s.writeEnd ok) := by
  have h := s.writeOutcome_takes_side ok
  unfold State.writeEnd
  dsimp only
  split
  · exact h
  · exact h.trans (.after (State.writeStart_takes_side _ _) rfl rfl)

theorem State.askCatalog_takes_side (s : State) (w : Waiter) : TakesSide s (s.askCatalog w) := by
  unfold State.askCatalog
  split
  · exact s.writeStart_takes_side _
  · exact .of_eq rfl rfl

theorem State.attemptFailed_takes_side (s : State) : TakesSide s s.attemptFailed := by
  unfold State.attemptFailed
  split
  · exact .refl s
  · split
    · exact s.writeEnd_takes_side _
    · rename_i w _ _
      have h := s.catalogAttempt_takes_side { w with failed := w.failed + 1 }
      dsimp only
      split
      · exact h
      · exact h.trans (State.writeEnd_takes_side _ _)

theorem State.catalogErased_takes_side (s : State) (e : Nat) : TakesSide s (s.catalogErased e) := by
  unfold State.catalogErased
  split
  · exact .refl s
  · rename_i w _
    have h : TakesSide s ((s.setTakes { s.takes with catCurrent := e, catNext := 0 }).catalogAttempt w).1 :=
      .after (State.catalogAttempt_takes_side _ w) rfl rfl
    dsimp only
    split
    · exact h
    · exact h.trans (State.writeEnd_takes_side _ _)

/-! ## Staging and drain -/

theorem StoreController.feed_modules (c : StoreController) (w : WriteState) (n : Nat) (b : Bool) :
    (c.feed w n b).modules = c.modules := by
  unfold StoreController.feed
  dsimp only
  repeat' split
  all_goals rfl

theorem State.allocate_takes_side (s : State) (n f : Nat) (w : WriteState) :
    ∀ x ∈ s.allocate n f w, TakesSide s x.2 := by
  intro x hx
  unfold State.allocate at hx
  split at hx
  · cases hx
  · cases hx
    exact .of_eq rfl rfl

theorem State.target_takes_side (s : State) (p : StagingPage) (w : WriteState) :
    ∀ x ∈ s.target p w, TakesSide s x.2 := by
  intro x hx
  unfold State.target at hx
  split at hx
  · cases hx
    exact .of_eq rfl rfl
  · split at hx
    · rename_i e t he
      cases hx
      have h := s.allocate_takes_side _ _ _ _ (Option.mem_def.mpr he)
      dsimp only
      split
      · exact h.trans (.of_eq rfl rfl)
      · exact h
    · cases hx

theorem State.submitA_takes_side (s : State) : TakesSide s s.submitA := by
  unfold State.submitA
  split
  · split
    · split
      · rename_i a t ht
        exact (s.target_takes_side _ _ _ (Option.mem_def.mpr ht)).trans (.of_eq rfl rfl)
      · exact .of_eq rfl rfl
    · exact .refl s
  · exact .refl s

theorem State.submitB_takes_side (s : State) : TakesSide s s.submitB := by
  unfold State.submitB
  split
  · split
    · split
      · rename_i a t ht
        exact (s.target_takes_side _ _ _ (Option.mem_def.mpr ht)).trans (.of_eq rfl rfl)
      · exact .of_eq rfl rfl
    · exact .refl s
  · exact .refl s

theorem State.stagingRound_takes_side (s : State) : TakesSide s s.stagingRound := by
  unfold State.stagingRound
  split
  · exact .after ((State.submitA_takes_side _).trans (State.submitB_takes_side _)) rfl
      (StoreController.feed_modules ..)
  · exact .refl s

theorem State.drainDiscard_takes_side (s : State) (n : Nat) (w : WriteState) :
    TakesSide s (s.drainDiscard n w) :=
  .after (t := { s with store := (s.drainDiscard n w).store }) (State.mapTake_takes_side _ n fun _ => rfl) rfl rfl

theorem State.drainComplete_takes_side (s : State) (n : Nat) : TakesSide s (s.drainComplete n) :=
  .mapped (f := fun t => { t with state := .closed })
    (.after ((State.readoutClosedNotice_takes_side _ n).trans (State.askCatalog_takes_side _ _)) rfl rfl) fun _ => rfl

theorem State.drain_takes_side (s : State) : TakesSide s s.drain := by
  unfold State.drain
  split
  · split
    · dsimp only
      split <;> split
      · exact (s.drainDiscard_takes_side _ _).trans (State.drainComplete_takes_side _ _)
      · exact s.drainDiscard_takes_side _ _
      · exact s.drainComplete_takes_side _
      · exact .refl s
    · exact .refl s
  · exact .refl s

theorem State.pump_takes_side (s : State) : TakesSide s s.pump :=
  s.stagingRound_takes_side.trans ((State.stagingRound_takes_side _).trans (State.drain_takes_side _))

theorem State.pageMoves_takes_side (s : State) (a b : StagingState) (f : Bool) :
    TakesSide s (s.pageMoves a b f) := by
  unfold State.pageMoves
  dsimp only
  repeat' split
  all_goals exact .of_eq rfl rfl

theorem State.pageVerified_takes_side (s : State) (a : StagingState) : TakesSide s (s.pageVerified a) := by
  have h : ∀ u : State, TakesSide u (u.pageMoves a .empty false).readoutVerifyNotice.pump := fun u =>
    (u.pageMoves_takes_side _ _ _).trans
      ((State.readoutVerifyNotice_takes_side _).trans (State.pump_takes_side _))
  unfold State.pageVerified
  dsimp only
  split
  · exact .mapped (h _) fun _ => rfl
  · exact h s

theorem State.raiseWritePage_takes_side (s : State) (e : Nat) : TakesSide s (s.raiseWritePage e) := by
  unfold State.raiseWritePage
  repeat' split
  all_goals exact .of_eq rfl rfl

theorem State.pageFailed_takes_side (s : State) (e : Nat) (a : StagingState) : TakesSide s (s.pageFailed e a) :=
  .after ((State.pageMoves_takes_side _ _ _ _).trans (State.pump_takes_side _)) rfl rfl

/-! ## Mount and format -/

/-- The track set a slot names is read off in ascending order (R199). -/
theorem trackSetOf_lawful (w0 w1 w2 w3 : Word) :
    (trackSetOf w0 w1 w2 w3).Pairwise (· < ·) ∧ ∀ n ∈ trackSetOf w0 w1 w2 w3, n < 128 :=
  ⟨List.pairwise_lt_range.sublist List.filter_sublist,
    fun _ hn => List.mem_range.mp (List.mem_of_mem_filter hn)⟩

theorem loadedRecords_lawful (data : List Word) : ∀ k ∈ loadedRecords data, k.SetLawful := by
  intro k hk
  obtain ⟨i, -, rfl⟩ := List.mem_map.mp hk
  exact trackSetOf_lawful ..

theorem State.recoverTake_takes_side (s : State) (n : Nat) (pages : List (Nat × List Word)) :
    TakesSide s (s.mapTake n fun t => t.recover pages) := s.mapTake_takes_side n fun _ => rfl

theorem State.recoverGo_takes_side (n : Nat) : ∀ (s : State) r, TakesSide s (s.recoverGo n r) := by
  induction n with
  | zero => exact fun s r => .refl s
  | succ n ih =>
    intro s r
    cases r with
    | none =>
      rw [State.recoverGo]
      split
      · exact .after (State.askCatalog_takes_side _ _) rfl rfl
      · split
        · exact (s.recoverTake_takes_side _ _).trans (ih _ _)
        · exact ih _ _
    | some r =>
      obtain ⟨r, b⟩ := r
      rw [State.recoverGo]
      split
      · exact .of_eq rfl rfl
      · split
        · split
          · exact ih _ _
          · exact (s.recoverTake_takes_side _ _).trans (ih _ _)
        · split
          · exact .of_eq rfl rfl
          · exact (s.recoverTake_takes_side _ _).trans (ih _ _)

theorem State.recoveryFetched_takes_side (s : State) (r : Recovery) (a : PageAddress) (g : Option PageImage) :
    TakesSide s (s.recoveryFetched r a g) := by
  unfold State.recoveryFetched
  dsimp only
  split <;> split
  · exact (s.recoverTake_takes_side _ _).trans (State.recoverGo_takes_side _ _ _)
  · exact s.recoverGo_takes_side _ _
  · exact (s.recoverTake_takes_side _ _).trans (State.recoverGo_takes_side _ _ _)
  · exact s.recoverGo_takes_side _ _

theorem State.scanDone_takes_side (s : State) : TakesSide s s.scanDone := by
  have h : TakesSide s (s.setTakes { s.takes with records := s.takes.records.map fun t =>
      { t with firstExtent := s.store.firstExtentOf t.number } }) :=
    .map (f := fun t => { t with firstExtent := s.store.firstExtentOf t.number }) (fun _ => rfl) rfl rfl
  unfold State.scanDone
  dsimp only
  split
  · exact h.trans (State.recoverGo_takes_side _ _ _)
  · exact h.trans (.of_eq rfl rfl)

theorem State.scanFrom_takes_side (n : Nat) : ∀ (s : State) e, TakesSide s (s.scanFrom n e) := by
  induction n with
  | zero => exact fun s e => .refl s
  | succ n ih =>
    intro s e
    rw [State.scanFrom]
    split
    · exact s.scanDone_takes_side
    · split
      · exact .of_eq rfl rfl
      · exact .after (ih _ _) rfl rfl
      · exact ih _ _

theorem State.scanned_takes_side (s : State) (e : Nat) (sp : Option (List Word)) :
    TakesSide s (s.scanned e sp) := .after (State.scanFrom_takes_side _ _ _) rfl rfl

theorem State.loadCatalog_takes_side (s : State) (b : Option FoundCatalog) (u v : Nat) :
    TakesSide s (s.loadCatalog b u v) := by
  unfold State.loadCatalog
  split
  · exact ⟨rfl, fun _ => loadedRecords_lawful _⟩
  · exact ⟨rfl, fun _ _ hk => nomatch hk⟩

theorem State.catalogDone_takes_side (s : State) (b : Option FoundCatalog) (u v : Nat) :
    TakesSide s (s.catalogDone b u v) := by
  unfold State.catalogDone
  exact (s.loadCatalog_takes_side (if s.store.answers 0 then b else none) u v).trans
    (.after (State.scanFrom_takes_side _ _ _) rfl rfl)

theorem State.catalogFrom_takes_side (s : State) (i : Nat) (b : Option FoundCatalog) (u v : Nat) :
    TakesSide s (s.catalogFrom i b u v) := by
  unfold State.catalogFrom
  split
  · exact .of_eq rfl rfl
  · exact s.catalogDone_takes_side _ _ _

theorem State.catalogFetched_takes_side (s : State) (i : Nat) (b : Option FoundCatalog) (u v : Nat)
    (g : Option PageImage) : TakesSide s (s.catalogFetched i b u v g) := s.catalogFrom_takes_side _ _ _ _

theorem State.mountStart_takes_side (s : State) : TakesSide s s.mountStart := by
  unfold State.mountStart
  split
  · split
    · exact .after (State.catalogFrom_takes_side _ _ _ _ _) rfl rfl
    · exact .of_eq rfl rfl
  all_goals exact .refl s

theorem State.mountFailed_takes_side (s : State) (e : Nat) : TakesSide s (s.mountFailed e) := by
  unfold State.mountFailed
  split
  · exact s.catalogFetched_takes_side _ _ _ _ _
  · exact s.scanFrom_takes_side _ _
  · exact s.recoveryFetched_takes_side _ _ _
  · exact .refl s
  · exact .refl s

theorem State.formatStopped_takes_side (s : State) : TakesSide s s.formatStopped :=
  .after (State.completeStoreOp_takes_side _ _ _) rfl rfl

theorem State.formatErased_takes_side (s : State) (f : Format) : TakesSide s (s.formatErased f) := by
  have h : TakesSide s { s with
      takes := { s.takes with records := [], nextTake := 1 }
      store := { s.store with
        table := s.store.table.map (fun (y : Nat × Extent) => (y.1, { y.2 with owner := none })) } } :=
    ⟨rfl, fun _ _ hk => nomatch hk⟩
  unfold State.formatErased
  dsimp only
  split
  · exact h.trans (.after (State.askCatalog_takes_side _ _) rfl rfl)
  · exact h.trans (State.formatStopped_takes_side _)

theorem State.formatSubmit_takes_side (s : State) (e : Nat) : TakesSide s (s.formatSubmit e) := by
  unfold State.formatSubmit
  repeat' split
  all_goals exact .of_eq rfl rfl

theorem State.formatFrom_takes_side (f : Format) (n : Nat) :
    ∀ (s : State) e, TakesSide s (s.formatFrom f n e) := by
  induction n with
  | zero => exact fun s e => .refl s
  | succ n ih =>
    intro s e
    rw [State.formatFrom]
    split
    · exact s.formatErased_takes_side f
    · split
      · exact s.formatSubmit_takes_side e
      · exact ih _ _
      · exact ih _ _

theorem State.formatMarks_takes_side (s : State) (e : Nat) (ok : Bool) : TakesSide s (s.formatMarks e ok) := by
  unfold State.formatMarks
  dsimp only
  repeat' split
  all_goals exact .of_eq rfl rfl

theorem State.formatErasedOne_takes_side (s : State) (e : Nat) (ok : Bool) :
    TakesSide s (s.formatErasedOne e ok) := by
  unfold State.formatErasedOne
  split
  · exact .refl s
  · exact (s.formatMarks_takes_side e ok).trans (.after (State.formatFrom_takes_side _ _ _ _) rfl rfl)

/-! ## Lost operations -/

theorem State.moduleFault_takes_side (s : State) (m : Nat) : TakesSide s (s.moduleFault m) :=
  ⟨List.length_set, id⟩

theorem State.pageWaits_takes_side (s : State) (a : StagingState) :
    TakesSide s (s.pageMoves a .waiting true).pump :=
  (s.pageMoves_takes_side _ _ _).trans (State.pump_takes_side _)

theorem State.operationLost_takes_side (x : Bool) (s : State) (op : PortOp) :
    TakesSide s (State.operationLost x s op) := by
  unfold State.operationLost
  split
  · exact .after (State.attemptFailed_takes_side _) rfl rfl
  · exact .after (State.attemptFailed_takes_side _) rfl rfl
  · exact s.writeEnd_takes_side _
  · exact s.mountFailed_takes_side _
  · exact s.mountFailed_takes_side _
  · exact s.mountFailed_takes_side _
  · dsimp only
    split
    · exact .after ((State.raiseWritePage_takes_side s.countProgramFailure _).trans
        (State.pageWaits_takes_side _ _)) rfl rfl
    · exact s.pageWaits_takes_side _
  · exact .after (State.pageWaits_takes_side s.countMismatch _) rfl rfl
  · exact .refl s
  · exact .refl s
  · split
    · exact s.readoutEnd_takes_side _
    · exact .refl s
  · exact .of_eq rfl rfl
  · dsimp only
    split
    · exact .after (State.formatFrom_takes_side _ _ s.countEraseFailure _) rfl rfl
    · exact .of_eq rfl rfl

/-! ## The boundary's transitions -/

theorem State.closeTake_takes_side (s : State) (n i : Nat) : TakesSide s (s.closeTake n i) :=
  .mapped (State.pump_takes_side _) fun _ => rfl

theorem State.exhaust_takes_side (s : State) (n i : Nat) (a : Option Transition) :
    TakesSide s (s.exhaust n i a) := by
  unfold State.exhaust
  refine .trans ?_ (State.closeTake_takes_side _ _ _)
  split
  · exact s.completeStoreOp_takes_side _ _
  · exact s.completeStoreOp_takes_side _ _
  · exact .refl s
  · exact .refl s

theorem State.takeHold_takes_side (s : State) (t : TakeRecord) (i : Nat) (a : Option Transition) :
    TakesSide s (s.takeHold t i a) := by
  unfold State.takeHold
  split
  · exact .mapped (State.askCatalog_takes_side _ _) fun _ => rfl
  · exact .mapped (State.askCatalog_takes_side _ _) fun _ => rfl
  · exact s.closeTake_takes_side _ _
  · exact .refl s

/-- An operation's end or cut changes module contents only. -/
theorem FlashSide.takes_side {s t : State} (h : FlashSide s t) : TakesSide s t :=
  .of_eq (by rw [h.takes]) (by rw [h.store])

end Sys2Proof.Machine
end

section
/-!
What a command can do to the sample path (rate, sources, tracks, block records, mix, stream, meters) and to the tables
beside it: `SampleMoves`, said once for every command in `exec_moves`, so that an invariant of the sample path is one
short case for each kind of move.
-/

namespace Sys2Proof.Machine

/-- The sample path of `t` is that of `s`, but for the contents of block records; module ports and track sets as
`TakesSide` says. -/
structure SampleKept (s t : State) : Prop where
  rate : t.rate = s.rate
  sources : t.sources = s.sources
  tracks : t.tracks = s.tracks
  blocks : t.coder.blocks.length = s.coder.blocks.length
  mix : t.mix = s.mix
  stream : t.stream = s.stream
  meter : t.meter = s.meter
  takes : TakesSide s t

/-- The moves of the sample path: what rows, boundaries, window ends, SAMPLE frames, resets and requests do to it. -/
inductive SampleMoves : State → State → Prop
  | kept {s t : State} (h : SampleKept s t) : SampleMoves s t
  | trans {s t u : State} (h : SampleMoves s t) (k : SampleMoves t u) : SampleMoves s u
  | powerOn {s t : State} (hs : t.sources = {}) (ht : t.tracks = {}) (hc : t.coder = {}) (hk : t.takes = {})
      (hm : t.store.modules.length = 4) (hx : t.mix = {}) (hb : t.stream = List.replicate Config.buses {})
      (he : t.meter = {}) : SampleMoves s t
  | warmReset (s : State) (a : Nat) : SampleMoves s (s.warmReset a)
  | sampleArrives (s : State) (h : Word) (body : List Word) :
      SampleMoves s { s with sources := s.sources.sampleArrives h body }
  | rowSamples {s : State} (h : s.windowDue = false) : SampleMoves s s.rowSamples
  | windowEnd (s : State) : SampleMoves s s.takeWindowEnd
  | boundaryGiven (s : State) : SampleMoves s s.boundaryGiven
  | mixWork (s : State) : SampleMoves s s.mixWork
  | clearBlocks (s : State) : SampleMoves s s.clearBlocks
  | generator (s : State) (g : Generator) :
      SampleMoves s { s with sources := { s.sources with generator := g } }
  | sourceClear (s : State) (n : Nat) :
      SampleMoves s { s with sources := s.sources.mapRecord n SourceRecord.clear }
  | sourceLimit (s : State) (n v : Nat) :
      SampleMoves s { s with sources := s.sources.mapRecord n fun r => { r with limit := clampNat 1 255 v } }
  | trackSet {s : State} {n : Nat} {new : Route} {fields : List Nat} {ws : List Word} (hn : n < Config.tracks)
      (hw : (s.track n).route.writeAll fields ws = some new)
      (hr : s.rate = .k96 → Config.tracksAt96 ≤ n → new.enabled = false)
      (hp : poolWith s.tracks.routes n new ≤ Config.poolCells) :
      SampleMoves s (s.setTrack n ((s.track n).reconfigure new))
  | trim {s : State} (n : Nat) {g : Nat} (hg : g ≤ Config.trimMax) :
      SampleMoves s { s with tracks := { s.tracks with
        routes := s.tracks.routes.modify n fun r => { r with trim := g } } }
  | saturations (s : State) (first count : Nat) :
      SampleMoves s { s with tracks := { s.tracks with
        saturations := clearRange s.tracks.saturations first count } }
  | pendingBank {s : State} {place : Nat} {vs : List Int} (h : place + vs.length ≤ Config.coefficients) :
      SampleMoves s { s with mix := { s.mix with
        pendingBank := writeRun s.mix.pendingBank place (vs.map saturate) } }
  | swapArmed (s : State) : SampleMoves s { s with mix := { s.mix with swapArmed := true } }
  | clips (s : State) : SampleMoves s { s with mix := { s.mix with clips := List.replicate Config.buses 0 } }
  | nextModes {s : State} {w : Word} {bs : List StreamBus} (h : nextModes w 0 s.stream = some bs) :
      SampleMoves s { s with stream := bs }
  | gaps (s : State) : SampleMoves s { s with stream := s.stream.map StreamBus.markGap }
  | unitCounts (s : State) : SampleMoves s s.clearUnitCounts
  | settings {s : State} {v w x : Word} {o t n : Nat} (ho : settingOf v s.meter.overLevel 1 8388608 = some o)
      (ht : settingOf w s.meter.silenceThreshold 0 8388607 = some t)
      (hn : settingOf x s.meter.silenceWindows 1 255 = some n) :
      SampleMoves s { s with meter := { s.meter with overLevel := o, silenceThreshold := t, silenceWindows := n } }
  | overs (s : State) (first count : Nat) :
      SampleMoves s { s with meter := { s.meter with tracks := clearOvers s.meter.tracks first count } }
  | newTake {s t : State} (e : Entry) (first : Nat) (h : t = { s with takes := t.takes })
      (hr : t.takes.records = s.takes.records ++ [s.newRecord e first]) : SampleMoves s t

/-! ## What keeps the sample path -/

namespace SampleKept

theorem refl (s : State) : SampleKept s s := ⟨rfl, rfl, rfl, rfl, rfl, rfl, rfl, .refl s⟩

theorem trans {s t u : State} (h : SampleKept s t) (k : SampleKept t u) : SampleKept s u where
  rate := k.rate.trans h.rate
  sources := k.sources.trans h.sources
  tracks := k.tracks.trans h.tracks
  blocks := k.blocks.trans h.blocks
  mix := k.mix.trans h.mix
  stream := k.stream.trans h.stream
  meter := k.meter.trans h.meter
  takes := h.takes.trans k.takes

/-- A fold of operations, each of which keeps the sample path. -/
theorem foldl {α : Type} (f : State → α → State) (hf : ∀ s a, SampleKept s (f s a)) (xs : List α) :
    ∀ s, SampleKept s (xs.foldl f s) := by
  induction xs with
  | nil => exact refl
  | cons a as ih => exact fun s => (hf s a).trans (ih _)

end SampleKept

theorem StoreSide.kept {s t : State} (h : StoreSide s t) (k : TakesSide s t) : SampleKept s t :=
  ⟨h.rate, h.sources, h.tracks, congrArg List.length h.blocks, h.mix, h.stream, h.meter, k⟩

theorem FlashSide.kept {s t : State} (h : FlashSide s t) : SampleKept s t :=
  ⟨h.rate, h.sources, h.tracks, by rw [h.coder], h.mix, h.stream, h.meter, h.takes_side⟩

theorem SampleMoves.refl (s : State) : SampleMoves s s := .kept (.refl s)

/-- A move followed by what keeps the sample path. -/
theorem SampleMoves.then {s t u : State} (h : SampleMoves s t) (k : SampleKept t u) : SampleMoves s u :=
  h.trans (.kept k)

variable (s : State)

theorem State.settlePort_kept : SampleKept s s.settlePort := s.settlePort_side.kept s.settlePort_takes_side

theorem State.freePort_kept (g : Bool) : SampleKept s (s.freePort g) :=
  (s.freePort_side g).kept (s.freePort_takes_side g)

theorem State.complete_kept (a : Nat) (st : Status) (ws : List Word) : SampleKept s (s.complete a st ws) :=
  (s.complete_side a st ws).kept (s.complete_takes_side a st ws)

theorem State.completeStoreOp_kept (st : Status) (ws : List Word) : SampleKept s (s.completeStoreOp st ws) :=
  (s.completeStoreOp_side st ws).kept (s.completeStoreOp_takes_side st ws)

theorem State.activate_kept (a : Nat) : SampleKept s (s.activate a) :=
  ⟨rfl, rfl, rfl, rfl, rfl, rfl, rfl, .of_eq rfl rfl⟩

theorem State.submit_kept (op : PortOp) : SampleKept s (s.submit op) := (s.submit_side op).kept (.of_eq rfl rfl)

theorem State.operationEnds_kept (op : PortOp) (ok : Bool) : SampleKept s (s.operationEnds op ok) :=
  (s.operationEnds_side op ok).kept

theorem State.readoutAbort_kept : SampleKept s s.readoutAbort := s.readoutAbort_side.kept s.readoutAbort_takes_side

theorem State.pump_kept : SampleKept s s.pump := s.pump_side.kept s.pump_takes_side

theorem State.pageFailed_kept (e : Nat) (a : StagingState) : SampleKept s (s.pageFailed e a) :=
  (s.pageFailed_side e a).kept (s.pageFailed_takes_side e a)

theorem State.pageVerified_kept (a : StagingState) : SampleKept s (s.pageVerified a) :=
  (s.pageVerified_side a).kept (s.pageVerified_takes_side a)

theorem State.pageMoves_kept (a b : StagingState) (f : Bool) : SampleKept s (s.pageMoves a b f) :=
  (s.pageMoves_side a b f).kept (s.pageMoves_takes_side a b f)

theorem State.raiseWritePage_kept (e : Nat) : SampleKept s (s.raiseWritePage e) :=
  (s.raiseWritePage_side e).kept (s.raiseWritePage_takes_side e)

theorem State.countProgramFailure_kept : SampleKept s s.countProgramFailure :=
  s.countProgramFailure_side.kept (.of_eq rfl rfl)

theorem State.countMismatch_kept : SampleKept s s.countMismatch := s.countMismatch_side.kept (.of_eq rfl rfl)

theorem State.countEraseFailure_kept : SampleKept s s.countEraseFailure :=
  s.countEraseFailure_side.kept (.of_eq rfl rfl)

theorem State.attemptFailed_kept : SampleKept s s.attemptFailed :=
  s.attemptFailed_side.kept s.attemptFailed_takes_side

theorem State.writeEnd_kept (ok : Bool) : SampleKept s (s.writeEnd ok) :=
  (s.writeEnd_side ok).kept (s.writeEnd_takes_side ok)

theorem State.askCatalog_kept (w : Waiter) : SampleKept s (s.askCatalog w) :=
  (s.askCatalog_side w).kept (s.askCatalog_takes_side w)

theorem State.holdSlot_kept (e : Entry) (k : StoreOpKind) : SampleKept s (s.holdSlot e k) :=
  (s.holdSlot_side e k).kept (.of_eq rfl rfl)

theorem State.arm_kept (e : Entry) (t : Transition) (k : StoreOpKind) : SampleKept s (s.arm e t k) :=
  (s.arm_side e t k).kept (.of_eq rfl rfl)

theorem State.takeHoldExpiry_kept : SampleKept s s.takeHoldExpiry := by
  unfold State.takeHoldExpiry
  split
  · exact (s.backlogTest_side.kept s.backlogTest_takes_side).trans (State.settlePort_kept _)
  · exact .refl s

theorem State.operationLost_kept (x : Bool) (op : PortOp) : SampleKept s (State.operationLost x s op) :=
  (State.operationLost_side x s op).kept (State.operationLost_takes_side x s op)

/-! ## Expiry of the time limit -/

theorem State.expire_kept (op : PortOp) (g : Bool) : SampleKept s (s.expire op g) := by
  refine (s.operationCut_side op).kept.trans (.trans (t := { s.operationCut op with store :=
      { (s.operationCut op).store with
        waiting := (s.operationCut op).store.waiting.filter fun o => moduleOf o.extent ≠ moduleOf op.extent
        expiries := countUp (s.operationCut op).store.expiries 1 } })
    ⟨rfl, rfl, rfl, rfl, rfl, rfl, rfl, .of_eq rfl rfl⟩ ?_)
  exact (((State.moduleFault_side _ _).kept (State.moduleFault_takes_side _ _)).trans
    ((State.freePort_kept _ g).trans ((State.operationLost_kept _ true op).trans
      (SampleKept.foldl _ (fun s op => State.operationLost_kept s false op) _ _))))

theorem State.takeExpiry_kept : SampleKept s s.takeExpiry := by
  unfold State.takeExpiry
  split
  · exact .trans (t := { s with freeCount := s.freeCount + 1 })
      ⟨rfl, rfl, rfl, rfl, rfl, rfl, rfl, .of_eq rfl rfl⟩
      ((State.expire_kept _ _ _).trans (State.settlePort_kept _))
  · exact .refl s

/-! ## Boundaries -/

@[simp] theorem ArchiveCoder.setLoss_length (c : ArchiveCoder) (n : Nat) (v : Bool) :
    (c.setLoss n v).blocks.length = c.blocks.length := List.length_modify ..

theorem State.offerPacket_kept (take n : Nat) (ws : List Word) : SampleKept s (s.offerPacket take n ws) := by
  unfold State.offerPacket
  split
  · refine .trans ?_ (State.pump_kept _)
    exact ⟨rfl, rfl, rfl, s.coder.setLoss_length n false, rfl, rfl, rfl, .mapped (.of_eq rfl rfl) fun _ => rfl⟩
  · exact ⟨rfl, rfl, rfl, s.coder.setLoss_length n true, rfl, rfl, rfl, .mapped (.of_eq rfl rfl) fun _ => rfl⟩

theorem State.codeTracks_kept (take i : Nat) (ns : List Nat) :
    ∀ s : State, SampleKept s (s.codeTracks take i ns) := by
  induction ns with
  | nil => exact .refl
  | cons n ns ih => exact fun s => (s.offerPacket_kept take n _).trans (ih _)

theorem State.endBlock_kept (k : TakeRecord) (i : Nat) : SampleKept s (s.endBlock k i) := by
  have hcoded : SampleKept s (s.codeEnded k i).disarm := by
    refine .trans ?_ ((State.disarm_side _).kept (.of_eq rfl rfl))
    unfold State.codeEnded
    split
    · exact State.codeTracks_kept _ _ _ s
    · exact .refl s
  unfold State.endBlock
  dsimp only
  split
  · exact hcoded.trans ((State.exhaust_side ..).kept (State.exhaust_takes_side ..))
  · exact hcoded.trans (((State.raiseIndex_side ..).kept (.of_eq rfl rfl)).trans
      ((State.takeHold_side ..).kept (State.takeHold_takes_side ..)))

theorem State.beginTake_kept (k : TakeRecord) : SampleKept s (s.beginTake k) := by
  unfold State.beginTake
  dsimp only
  refine .trans ?_ (State.completeStoreOp_kept _ _ _)
  exact ⟨rfl, rfl, rfl, List.length_map .., rfl, rfl, rfl, .mapped (.of_eq rfl rfl) fun _ => rfl⟩

theorem State.takeWork_kept : SampleKept s s.takeWork := by
  unfold State.takeWork
  split
  · exact s.endBlock_kept _ _
  · split
    · exact s.beginTake_kept _
    · exact .refl s
  · exact .refl s

theorem State.archiveBoundary_moves : SampleMoves s s.archiveBoundary :=
  (((SampleMoves.boundaryGiven s).trans (.mixWork _)).then (State.takeWork_kept _)).trans
    ((SampleMoves.clearBlocks _).then (State.settlePort_kept _))

theorem State.mixBoundary_moves : SampleMoves s s.mixBoundary := (SampleMoves.boundaryGiven s).trans (.mixWork _)

theorem State.takeBoundary_moves : SampleMoves s s.takeBoundary := by
  unfold State.takeBoundary
  split
  · exact s.mixBoundary_moves
  split
  · exact s.archiveBoundary_moves
  · exact .refl s

/-- A boundary has no part in the meters and the rate. -/
theorem State.takeBoundary_meter : s.takeBoundary.meter = s.meter ∧ s.takeBoundary.rate = s.rate := by
  unfold State.takeBoundary
  split
  · exact ⟨rfl, rfl⟩
  split
  · have h := s.boundaryGiven.mixWork.takeWork_kept
    have k := s.boundaryGiven.mixWork.takeWork.clearBlocks.settlePort_kept
    exact ⟨k.meter.trans h.meter, k.rate.trans h.rate⟩
  · exact ⟨rfl, rfl⟩

/-! ## The row -/

/-- After what is due has been taken no window end is due: it is taken first, and nothing else moves the window counter
(log 2). -/
theorem State.takeDue_windowDue : s.takeDue.windowDue = false := by
  have hwindow : s.takeWindowEnd.windowDue = false := by
    unfold State.takeWindowEnd
    split
    · cases h : s.rate <;> simp [State.windowDue, MeterUnit.windowEnd, windowLength]
    · rename_i h
      exact Bool.eq_false_iff.mpr h
  obtain ⟨hmeter, hrate⟩ := s.takeWindowEnd.takeBoundary_meter
  have hkept := s.takeWindowEnd.takeBoundary.takeHoldExpiry_kept.trans (State.takeExpiry_kept _)
  have hm : s.takeDue.meter = s.takeWindowEnd.meter := hkept.meter.trans hmeter
  have hr : s.takeDue.rate = s.takeWindowEnd.rate := hkept.rate.trans hrate
  rw [State.windowDue, hm, hr]
  exact hwindow

theorem State.takeDue_moves : SampleMoves s s.takeDue :=
  ((SampleMoves.windowEnd s).trans (State.takeBoundary_moves _)).then
    ((State.takeHoldExpiry_kept _).trans (State.takeExpiry_kept _))

theorem State.row_moves : SampleMoves s s.row := by
  have hdue : SampleMoves s s.takeDue.rowTimers :=
    s.takeDue_moves.then ⟨rfl, rfl, rfl, rfl, rfl, rfl, rfl, .of_eq rfl rfl⟩
  exact (hdue.trans (.rowSamples s.takeDue_windowDue)).then
    (((State.mountStart_side _).kept (State.mountStart_takes_side _)).trans (State.settlePort_kept _))

/-! ## Words, frames and links -/

variable {s}

/-- A change that leaves the sample path, the takes and the store. -/
theorem SampleMoves.elsewhere {t : State} (h : t = { s with
    pending := t.pending, freeCount := t.freeCount, unit := t.unit, link := t.link, flash := t.flash
    readout := t.readout, requests := t.requests }) : SampleMoves s t := by
  rw [h]
  exact .kept ⟨rfl, rfl, rfl, rfl, rfl, rfl, rfl, .of_eq rfl rfl⟩

theorem State.requestArrives_moves (s : State) (o : Origin) (b : Bool) (body : List Word) :
    SampleMoves s (s.requestArrives o b body) := by
  unfold State.requestArrives
  dsimp only
  repeat' split
  all_goals exact .elsewhere rfl

theorem State.stageFrame_moves (s : State) (w : Word) (body : List Word) : SampleMoves s (s.stageFrame w body) := by
  unfold State.stageFrame
  split
  · exact .sampleArrives s w body
  split
  · split
    · exact s.requestArrives_moves _ _ _
    split
    · exact s.requestArrives_moves _ _ _
    · exact .refl s
  · exact .refl s

theorem execStageFrameComplete_moves (w : Word) (s : State) :
    Completes (execStageFrameComplete w s) (SampleMoves s) := by
  unfold execStageFrameComplete
  split
  · dsimp only
    split
    · refine ⟨_, rfl, .trans ?_ (State.stageFrame_moves _ _ _)⟩
      split <;> exact .elsewhere rfl
    · exact ⟨_, rfl, .elsewhere rfl⟩
  · exact ⟨_, rfl, .refl s⟩

theorem execThroughReturnFrameComplete_moves (w : Word) (s : State) :
    Completes (execThroughReturnFrameComplete w s) (SampleMoves s) := by
  unfold execThroughReturnFrameComplete
  dsimp only
  repeat' split
  all_goals exact ⟨_, rfl, .elsewhere rfl⟩

theorem execProgramReturnFrameComplete_moves (w : Word) (s : State) :
    Completes (execProgramReturnFrameComplete w s) (SampleMoves s) := by
  have harrives : ∀ (l : LinkUnit) (o : Origin) (b : Bool) (body : List Word),
      SampleMoves s ((s.setLink l).requestArrives o b body) := fun l o b body =>
    .trans (t := s.setLink l) (.elsewhere rfl) (State.requestArrives_moves _ o b body)
  unfold execProgramReturnFrameComplete
  dsimp only
  split
  · split
    · split
      · split
        · exact ⟨_, rfl, harrives _ _ _ _⟩
        split
        · exact ⟨_, rfl, harrives _ _ _ _⟩
        · exact ⟨_, rfl, .elsewhere rfl⟩
      · exact ⟨_, rfl, .elsewhere rfl⟩
    · exact ⟨_, rfl, .elsewhere rfl⟩
  · exact ⟨_, rfl, .refl s⟩

/-- A command that only changes the Link Unit, or nothing. -/
theorem completes_setLink_moves {l : LinkUnit} (b : Bool) :
    Completes (.next (if b then s.setLink l else s)) (SampleMoves s) := by
  refine ⟨_, rfl, ?_⟩
  split <;> exact .elsewhere rfl

theorem execFrameHeaderTaken_moves (d : Rx) (w : Word) (s : State) :
    Completes (execFrameHeaderTaken d w s) (SampleMoves s) := by
  unfold execFrameHeaderTaken
  split
  · exact completes_setLink_moves _
  · exact ⟨_, rfl, .refl s⟩

theorem execStrayWord_moves (d : Rx) (w : Word) (s : State) : Completes (execStrayWord d w s) (SampleMoves s) := by
  unfold execStrayWord
  split
  · refine ⟨_, rfl, ?_⟩
    split <;> exact .elsewhere rfl
  · exact ⟨_, rfl, .refl s⟩

theorem execFramingError_moves (d : Rx) (w : Word) (s : State) :
    Completes (execFramingError d w s) (SampleMoves s) := by
  unfold execFramingError
  split
  · exact completes_setLink_moves _
  · exact ⟨_, rfl, .refl s⟩

theorem execBodyWordTaken_moves (d : Rx) (w : Word) (s : State) :
    Completes (execBodyWordTaken d w s) (SampleMoves s) := by
  unfold execBodyWordTaken
  split <;> exact ⟨_, rfl, .elsewhere rfl⟩

theorem execThroughFrameEnd_moves (s : State) : Completes (execThroughFrameEnd s) (SampleMoves s) := by
  unfold execThroughFrameEnd
  split <;> exact ⟨_, rfl, .elsewhere rfl⟩

theorem execStageReturnFrameEnd_moves (s : State) : Completes (execStageReturnFrameEnd s) (SampleMoves s) := by
  unfold execStageReturnFrameEnd
  split <;> exact ⟨_, rfl, .elsewhere rfl⟩

theorem execProgramForwardFrameEnd_moves (s : State) :
    Completes (execProgramForwardFrameEnd s) (SampleMoves s) := by
  unfold execProgramForwardFrameEnd
  split
  · exact ⟨_, rfl, .trans (t := s.setLink { s.link with txProgram := none }) (.elsewhere rfl)
      (.kept (((State.programFree_side _).kept (State.programFree_takes_side _)).trans (State.settlePort_kept _)))⟩
  · exact ⟨_, rfl, .refl s⟩

theorem execStageLinkDown_moves (s : State) : Completes (execStageLinkDown s) (SampleMoves s) := by
  have hdown : SampleMoves s s.stageDown := .elsewhere rfl
  by_cases hup : s.link.stageUp = true
  · refine ⟨_, execStageLinkDown_up hup, ?_⟩
    split
    · exact hdown.then (State.readoutAbort_kept _)
    · exact hdown
  · exact ⟨s, by simp [execStageLinkDown, hup], .refl s⟩

theorem execProgramLinkDown_moves (s : State) : Completes (execProgramLinkDown s) (SampleMoves s) := by
  have hdown : SampleMoves s s.programDown := (SampleMoves.gaps s).trans (.elsewhere rfl)
  by_cases hup : s.link.programUp = true
  · exact ⟨_, execProgramLinkDown_up hup, hdown.then (State.readoutAbort_kept _)⟩
  · exact ⟨s, by simp [execProgramLinkDown, hup], .refl s⟩

/-- A command that is an event where `b` holds, and nothing elsewhere. -/
theorem completes_ite_moves {u : State} (b : Bool) (h : SampleMoves s u) :
    Completes (.next (if b then u else s)) (SampleMoves s) := by
  refine ⟨_, rfl, ?_⟩
  split
  · exact h
  · exact .refl s

/-! ## Ends of module operations -/

theorem execArchiveProgramEnd_moves (ok g : Bool) (s : State) :
    Completes (execArchiveProgramEnd ok g s) (SampleMoves s) := by
  unfold execArchiveProgramEnd
  split
  · rename_i a p _ _
    refine ⟨_, rfl, .kept (.trans ?_ (State.settlePort_kept _))⟩
    have hfree := ((s.operationEnds_kept (.archiveProgram a p) ok).trans (State.freePort_kept _ g)).trans
      (State.raiseWritePage_kept _ a.extent)
    split
    · exact hfree.trans ((State.countProgramFailure_kept _).trans (State.pageFailed_kept _ _ _))
    split
    · exact hfree.trans ((State.pageMoves_kept _ _ _ _).trans (State.submit_kept _ _))
    · exact hfree.trans (State.pageVerified_kept _ _)
  · exact ⟨_, rfl, .refl s⟩

theorem execVerifyFetchEnd_moves (answer : Answer) (g : Bool) (s : State) :
    Completes (execVerifyFetchEnd answer g s) (SampleMoves s) := by
  unfold execVerifyFetchEnd
  split
  · refine ⟨_, rfl, .kept (.trans ?_ (State.settlePort_kept _))⟩
    have hfree := s.freePort_kept g
    split
    · exact hfree.trans (State.pageVerified_kept _ _)
    · exact hfree.trans ((State.countMismatch_kept _).trans (State.pageFailed_kept _ _ _))
  · exact ⟨_, rfl, .refl s⟩

theorem execBadMarkWriteEnd_moves (ok g : Bool) (s : State) :
    Completes (execBadMarkWriteEnd ok g s) (SampleMoves s) := by
  have hends : ∀ op, SampleMoves s ((s.operationEnds op ok).freePort g).settlePort := fun op =>
    .kept (((s.operationEnds_kept op ok).trans (State.freePort_kept _ g)).trans (State.settlePort_kept _))
  unfold execBadMarkWriteEnd
  split
  · exact ⟨_, rfl, hends _⟩
  · exact ⟨_, rfl, hends _⟩
  · exact ⟨_, rfl, .refl s⟩

theorem execCatalogProgramEnd_moves (ok g : Bool) (s : State) :
    Completes (execCatalogProgramEnd ok g s) (SampleMoves s) := by
  unfold execCatalogProgramEnd
  split
  · rename_i a p _ _
    refine ⟨_, rfl, .kept (.trans ?_ (State.settlePort_kept _))⟩
    have hfree := (s.operationEnds_kept (.catalogProgram a p) ok).trans (State.freePort_kept _ g)
    split
    · exact hfree.trans ((State.countProgramFailure_kept _).trans (State.attemptFailed_kept _))
    split
    · exact hfree.trans (State.submit_kept _ _)
    · exact hfree.trans (State.writeEnd_kept _ _)
  · exact ⟨_, rfl, .refl s⟩

theorem execCatalogVerifyEnd_moves (answer : Answer) (g : Bool) (s : State) :
    Completes (execCatalogVerifyEnd answer g s) (SampleMoves s) := by
  unfold execCatalogVerifyEnd
  split
  · refine ⟨_, rfl, .kept (.trans ?_ (State.settlePort_kept _))⟩
    have hfree := s.freePort_kept g
    split
    · exact hfree.trans (State.writeEnd_kept _ _)
    · exact hfree.trans ((State.countMismatch_kept _).trans (State.attemptFailed_kept _))
  · exact ⟨_, rfl, .refl s⟩

theorem execCatalogEraseEnd_moves (ok g : Bool) (s : State) :
    Completes (execCatalogEraseEnd ok g s) (SampleMoves s) := by
  unfold execCatalogEraseEnd
  split
  · rename_i e _ _
    refine ⟨_, rfl, .kept (.trans ?_ (State.settlePort_kept _))⟩
    have hfree := (s.operationEnds_kept (.catalogErase e) ok).trans (State.freePort_kept _ g)
    split
    · exact hfree.trans ((State.catalogErased_side _ _).kept (State.catalogErased_takes_side _ _))
    · exact hfree.trans (State.writeEnd_kept _ _)
  · exact ⟨_, rfl, .refl s⟩

theorem execEraseEnd_moves (ok g : Bool) (s : State) : Completes (execEraseEnd ok g s) (SampleMoves s) := by
  unfold execEraseEnd
  split
  · rename_i e _ _
    refine ⟨_, rfl, .kept (.trans ?_ (State.settlePort_kept _))⟩
    have hfree := (s.operationEnds_kept (.eraserErase e) ok).trans (State.freePort_kept _ g)
    split
    · exact hfree.trans (((State.setExtent_side _ _ _).kept (.of_eq rfl rfl)).trans (State.pump_kept _))
    · exact hfree.trans ((State.countEraseFailure_kept _).trans
        (((State.extentBad_side _ _ _).kept (.of_eq rfl rfl)).trans (State.submit_kept _ _)))
  · exact ⟨_, rfl, .refl s⟩

theorem execFormatEraseEnd_moves (ok g : Bool) (s : State) :
    Completes (execFormatEraseEnd ok g s) (SampleMoves s) := by
  unfold execFormatEraseEnd
  split
  · rename_i e _ _
    refine ⟨_, rfl, .kept (.trans (.trans ?_ ((State.formatErasedOne_side _ _ _).kept
      (State.formatErasedOne_takes_side _ _ _))) (State.settlePort_kept _))⟩
    have hfree := (s.operationEnds_kept (.formatErase e) ok).trans (State.freePort_kept _ g)
    split
    · exact hfree
    · exact hfree.trans (State.countEraseFailure_kept _)
  · exact ⟨_, rfl, .refl s⟩

theorem execMountCatalogFetchEnd_moves (answer : Answer) (g : Bool) (s : State) :
    Completes (execMountCatalogFetchEnd answer g s) (SampleMoves s) := by
  unfold execMountCatalogFetchEnd
  split
  · exact ⟨_, rfl, .kept ((s.freePort_kept g).trans (((State.catalogFetched_side _ _ _ _ _ _).kept
      (State.catalogFetched_takes_side _ _ _ _ _ _)).trans (State.settlePort_kept _)))⟩
  · exact ⟨_, rfl, .refl s⟩

theorem execMountSpareFetchEnd_moves (answer : Answer) (g : Bool) (s : State) :
    Completes (execMountSpareFetchEnd answer g s) (SampleMoves s) := by
  unfold execMountSpareFetchEnd
  split
  · exact ⟨_, rfl, .kept ((s.freePort_kept g).trans (((State.scanned_side _ _ _).kept
      (State.scanned_takes_side _ _ _)).trans (State.settlePort_kept _)))⟩
  · exact ⟨_, rfl, .refl s⟩

theorem execRecoveryFetchEnd_moves (answer : Answer) (g : Bool) (s : State) :
    Completes (execRecoveryFetchEnd answer g s) (SampleMoves s) := by
  unfold execRecoveryFetchEnd
  split
  · exact ⟨_, rfl, .kept ((s.freePort_kept g).trans (((State.recoveryFetched_side _ _ _ _).kept
      (State.recoveryFetched_takes_side _ _ _ _)).trans (State.settlePort_kept _)))⟩
  · exact ⟨_, rfl, .refl s⟩

theorem execReadoutFetchEnd_moves (answer : Answer) (g : Bool) (s : State) :
    Completes (execReadoutFetchEnd answer g s) (SampleMoves s) := by
  unfold execReadoutFetchEnd
  split
  · refine ⟨_, rfl, .kept (.trans ?_ (State.settlePort_kept _))⟩
    have hfree := s.freePort_kept g
    split
    · exact hfree.trans ((State.readoutFetched_side _ _).kept (State.readoutFetched_takes_side _ _))
    · exact hfree
  · exact ⟨_, rfl, .refl s⟩

/-! ## Requests -/

/-- What a request's block does to the sample path. -/
def BlockMoves (block : Entry → State → State) : Prop := ∀ (e : Entry) (s : State), SampleMoves s (block e s)

/-- A block that answers its request at once, in a state whose sample path, takes and store are as it found them. -/
theorem State.refuse_moves (e : Entry) (st : Status) : SampleMoves s (s.refuse e st) := .kept (s.complete_kept _ _ _)

theorem SampleMoves.done {u : State} (h : SampleMoves s u) (e : Entry) (ws : List Word) :
    SampleMoves s (u.done e ws) := h.then (u.complete_kept _ _ _)

theorem serveGenLoad_moves : BlockMoves serveGenLoad := by
  intro e s; unfold serveGenLoad; dsimp only; split
  · exact State.refuse_moves _ _
  · exact (SampleMoves.generator s _).done _ _

theorem serveSourceClear_moves : BlockMoves serveSourceClear := by
  intro e s; unfold serveSourceClear; dsimp only; split
  · exact State.refuse_moves _ _
  · exact (SampleMoves.sourceClear s _).done _ _

theorem serveSourceConfig_moves : BlockMoves serveSourceConfig := by
  intro e s; unfold serveSourceConfig; dsimp only; split
  · exact State.refuse_moves _ _
  · exact (SampleMoves.sourceLimit s _ _).done _ _

theorem serveSourceRead_moves : BlockMoves serveSourceRead := by
  intro e s; unfold serveSourceRead; dsimp only; split
  · exact State.refuse_moves _ _
  · exact (SampleMoves.refl s).done _ _

theorem serveTrackSet_moves : BlockMoves serveTrackSet := by
  intro e s; unfold serveTrackSet; dsimp only
  split
  · exact State.refuse_moves _ _
  split
  · exact State.refuse_moves _ _
  split
  · exact (SampleMoves.refl s).done _ _
  split
  · exact State.refuse_moves _ _
  split
  · exact State.refuse_moves _ _
  split
  · exact State.refuse_moves _ _
  · rename_i hrange _ new hw _ hrate _ hpool
    simp only [Bool.or_eq_true, decide_eq_true_eq, not_or, Nat.not_le] at hrange
    simp only [Bool.and_eq_true, decide_eq_true_eq, not_and, Bool.not_eq_true] at hrate
    exact (SampleMoves.trackSet hrange.2 hw (fun h96 hn => hrate ⟨h96, hn⟩) (Nat.not_lt.mp hpool)).done _ _

/-- The corrected gain is a gain (R37, R53). -/
theorem correctedTrim_le (g : Nat) (e : Int) : correctedTrim g e ≤ Config.trimMax := by
  have h := (clampInt_mem (lo := 0) (hi := Config.trimMax) (by decide)
    (roundDiv (g * 1000000) (1000000 + e).toNat)).2
  rw [correctedTrim]
  omega

theorem serveTrimCorrect_moves : BlockMoves serveTrimCorrect := by
  intro e s; unfold serveTrimCorrect; dsimp only; split
  · exact State.refuse_moves _ _
  · exact (SampleMoves.trim _ (correctedTrim_le _ _)).done _ _

theorem serveTrackRead_moves : BlockMoves serveTrackRead := by
  intro e s; unfold serveTrackRead; dsimp only; split
  · exact State.refuse_moves _ _
  · refine SampleMoves.done ?_ _ _
    split
    · exact .saturations s _ _
    · exact .refl s

theorem serveMixSet_moves : BlockMoves serveMixSet := by
  intro e s; unfold serveMixSet; dsimp only; split
  · exact State.refuse_moves _ _
  · rename_i h
    simp only [Entry.badRun, Bool.or_eq_true, decide_eq_true_eq, not_or, Nat.not_lt, ne_eq, not_not] at h
    obtain ⟨⟨-, -, hplace⟩, hlen⟩ := h
    exact (SampleMoves.pendingBank (hlen ▸ hplace)).done _ _

theorem serveMixTake_moves : BlockMoves serveMixTake := fun _ s => (SampleMoves.swapArmed s).done _ _

theorem serveMixRead_moves : BlockMoves serveMixRead := by
  intro e s; unfold serveMixRead; dsimp only; split
  · exact State.refuse_moves _ _
  · have hcount : SampleMoves s { s with freeCount := s.freeCount + s.glideUnformed.toNat } := .elsewhere rfl
    refine SampleMoves.done ?_ _ _
    split
    · exact hcount.trans (.clips _)
    · exact hcount

theorem serveStreamSet_moves : BlockMoves serveStreamSet := by
  intro e s; unfold serveStreamSet; split
  · exact State.refuse_moves _ _
  split
  · exact State.refuse_moves _ _
  · rename_i bs hbs
    exact (SampleMoves.nextModes hbs).done _ _

theorem serveStreamRead_moves : BlockMoves serveStreamRead := fun _ s => (SampleMoves.refl s).done _ _

theorem serveMeterConfig_moves : BlockMoves serveMeterConfig := by
  intro e s; unfold serveMeterConfig; dsimp only; split
  · exact State.refuse_moves _ _
  split
  · rename_i ho ht hn
    exact (SampleMoves.settings ho ht hn).done _ _
  · exact State.refuse_moves _ _

theorem serveMeterRead_moves : BlockMoves serveMeterRead := by
  intro e s; unfold serveMeterRead; dsimp only; split
  · exact State.refuse_moves _ _
  · refine SampleMoves.done ?_ _ _
    split
    · exact .overs s _ _
    · exact .refl s

theorem serveTakeOpen_moves : BlockMoves serveTakeOpen := by
  intro e s; unfold serveTakeOpen
  split
  · exact State.refuse_moves _ _
  split
  · exact State.refuse_moves _ _
  split
  · exact State.refuse_moves _ _
  split
  · exact State.refuse_moves _ _
  · rename_i first _ _
    have hnew : SampleMoves s (s.setTakes { s.takes with
        records := s.takes.records ++ [s.newRecord e first]
        nextTake := s.takes.nextTake + 1
        openReady := false }) := .newTake e first rfl rfl
    exact hnew.then (((State.firstAllocation_side _ _ _).kept (.of_eq rfl rfl)).trans
      ((State.holdSlot_kept _ _ _).trans ((State.askCatalog_kept _ _).trans (State.settlePort_kept _))))

/-- A request that arms a transition, or is refused. -/
theorem serveTakePause_moves : BlockMoves serveTakePause := by
  intro e s; unfold serveTakePause; repeat' split
  all_goals first | exact State.refuse_moves _ _ | exact .kept (s.arm_kept _ _ _)

theorem serveTakeResume_moves : BlockMoves serveTakeResume := by
  intro e s; unfold serveTakeResume; repeat' split
  all_goals first | exact State.refuse_moves _ _ | exact .kept (s.arm_kept _ _ _)

theorem serveTakeClose_moves : BlockMoves serveTakeClose := by
  intro e s; unfold serveTakeClose; repeat' split
  all_goals first | exact State.refuse_moves _ _ | exact .kept (s.arm_kept _ _ _)

/-- A take's record is changed, not in its track set, for a request that holds the slot, and the catalog write is asked
for. -/
theorem State.asksCatalog_kept {n : Nat} {f : TakeRecord → TakeRecord} (e : Entry) (k : StoreOpKind) (w : Waiter)
    (hf : ∀ k, (f k).trackSet = k.trackSet) :
    SampleKept s ((((s.mapTake n f).holdSlot e k).askCatalog w).settlePort) :=
  ((s.mapTake_side n f).kept (s.mapTake_takes_side n hf)).trans ((State.holdSlot_kept _ _ _).trans
    ((State.askCatalog_kept _ _).trans (State.settlePort_kept _)))

theorem serveProtect_moves (v : Bool) : BlockMoves (serveProtect v) := by
  intro e s; unfold serveProtect
  split
  · exact State.refuse_moves _ _
  split
  · exact State.refuse_moves _ _
  split
  · exact State.refuse_moves _ _
  split
  · exact (SampleMoves.refl s).done _ _
  · exact .kept (State.asksCatalog_kept _ _ _ fun _ => rfl)

theorem serveTakeDelete_moves : BlockMoves serveTakeDelete := by
  intro e s; unfold serveTakeDelete
  split
  · exact State.refuse_moves _ _
  split
  · exact State.refuse_moves _ _
  split
  · exact State.refuse_moves _ _
  split
  · exact State.refuse_moves _ _
  · exact .kept (State.asksCatalog_kept _ _ _ fun _ => rfl)

theorem serveStoreFormat_moves : BlockMoves serveStoreFormat := by
  intro e s; unfold serveStoreFormat
  split
  · exact State.refuse_moves _ _
  split
  · exact State.refuse_moves _ _
  split
  · exact State.refuse_moves _ _
  · refine .kept (.trans ?_ (((State.formatFrom_side _ _ _ _).kept (State.formatFrom_takes_side _ _ _ _)).trans
      (State.settlePort_kept _)))
    exact ⟨rfl, rfl, rfl, rfl, rfl, rfl, rfl, .of_eq rfl rfl⟩

theorem serveReadTake_moves : BlockMoves serveReadTake := by
  intro e s; unfold serveReadTake
  split
  · exact State.refuse_moves _ _
  split
  · exact State.refuse_moves _ _
  split
  · exact State.refuse_moves _ _
  · refine .kept (.trans (((State.setReadout_side _ _).trans (State.pageStepAndOffer_side _)).kept ?_)
      (State.settlePort_kept _))
    exact .after ((State.pageStep_takes_side _).trans (State.readoutAdvance_takes_side _ _)) rfl rfl

theorem serveReadStop_moves : BlockMoves serveReadStop := by
  intro e s; unfold serveReadStop; split
  · exact SampleMoves.done (.kept ((s.readoutEnd_side _).kept (s.readoutEnd_takes_side _))) _ _
  · exact State.refuse_moves _ _

theorem serveTakeList_moves : BlockMoves serveTakeList := by
  intro e s; unfold serveTakeList; repeat' split
  all_goals exact .kept (s.complete_kept _ _ _)

theorem serveStoreConfig_moves : BlockMoves serveStoreConfig := by
  intro e s; unfold serveStoreConfig
  split
  · exact State.refuse_moves _ _
  split
  · exact State.refuse_moves _ _
  · refine SampleMoves.done ?_ _ _
    exact .kept ⟨rfl, rfl, rfl, rfl, rfl, rfl, rfl, .of_eq rfl rfl⟩

theorem serveStoreStatus_moves : BlockMoves serveStoreStatus := by
  intro e s; unfold serveStoreStatus; dsimp only; split
  · exact State.refuse_moves _ _
  · refine SampleMoves.done ?_ _ _
    split
    · exact .kept ⟨rfl, rfl, rfl, rfl, rfl, rfl, rfl, .of_eq rfl rfl⟩
    · exact .refl s

theorem serveQuery_moves : BlockMoves serveQuery := by
  intro e s; unfold serveQuery; dsimp only; repeat' split
  all_goals exact .kept (s.complete_kept _ _ _)

theorem serveReserve_moves : BlockMoves serveReserve := by
  intro e s; unfold serveReserve
  split
  · exact State.refuse_moves _ _
  split
  · exact State.refuse_moves _ _
  · exact SampleMoves.done (.elsewhere rfl) _ _

theorem serveRelease_moves : BlockMoves serveRelease := by
  intro e s; unfold serveRelease
  split
  · exact State.refuse_moves _ _
  split
  · exact SampleMoves.done (.elsewhere rfl) _ _
  · exact State.refuse_moves _ _

theorem serveUnitStatus_moves : BlockMoves serveUnitStatus := by
  intro e s; unfold serveUnitStatus; dsimp only; split
  · exact State.refuse_moves _ _
  · refine SampleMoves.done ?_ _ _
    split
    · exact .unitCounts s
    · exact .refl s

theorem serveUnitReset_moves : BlockMoves serveUnitReset := by
  intro e s; unfold serveUnitReset; split
  · exact State.refuse_moves _ _
  · exact (SampleMoves.warmReset s _).done _ _

/-- A service hands the chosen request to its block, or nothing happens (R186, R187). -/
theorem State.serve_moves {block : Entry → State → State} (c : RequestCode) (hb : BlockMoves block) (s : State) :
    Completes (.next (s.serve c block)) (SampleMoves s) := by
  refine ⟨_, rfl, ?_⟩
  rcases s.serve_cases c block with hs | ⟨e, -, -, hs⟩
  · rw [hs]; exact .refl s
  · rw [hs]; exact (SampleMoves.kept (s.activate_kept _)).trans (hb e _)

/-! ## Every command -/

/-- Every command moves the sample path by the moves listed, or not at all. -/
theorem exec_moves (c : Instr) (s : State) : Completes (exec c s) (SampleMoves s) := by
  cases c with
  | powerOn => exact ⟨_, rfl, .powerOn rfl rfl rfl rfl rfl rfl rfl rfl⟩
  | rowEvent => exact ⟨_, rfl, s.row_moves⟩
  | sourceLapse n => exact completes_ite_moves _ s.row_moves
  | sourceAcquired n => exact completes_ite_moves _ s.row_moves
  | generatorLevelStep => exact completes_ite_moves _ s.row_moves
  | holdCountdownExpiry => exact ⟨_, rfl, .kept s.takeHoldExpiry_kept⟩
  | mixBoundary => exact completes_ite_moves _ s.mixBoundary_moves
  | archiveBoundary => exact completes_ite_moves _ s.archiveBoundary_moves
  | indexExhaustion => exact completes_ite_moves _ s.archiveBoundary_moves
  | windowEnd => exact ⟨_, rfl, .windowEnd s⟩
  | stageFrameComplete w => exact execStageFrameComplete_moves w s
  | throughReturnFrameComplete w => exact execThroughReturnFrameComplete_moves w s
  | programReturnFrameComplete w => exact execProgramReturnFrameComplete_moves w s
  | strayWord d w => exact execStrayWord_moves d w s
  | framingError d w => exact execFramingError_moves d w s
  | frameAbandoned d => exact completes_setLink_moves _
  | throughFrameEnd => exact execThroughFrameEnd_moves s
  | stageReturnFrameEnd => exact execStageReturnFrameEnd_moves s
  | programForwardFrameEnd => exact execProgramForwardFrameEnd_moves s
  | stageLinkDown => exact execStageLinkDown_moves s
  | programLinkDown => exact execProgramLinkDown_moves s
  | throughPortDown => exact completes_setLink_moves _
  | linkUp k => exact ⟨_, rfl, .elsewhere rfl⟩
  | trackSet => exact State.serve_moves _ serveTrackSet_moves s
  | trackRead => exact State.serve_moves _ serveTrackRead_moves s
  | trimCorrect => exact State.serve_moves _ serveTrimCorrect_moves s
  | sourceConfig => exact State.serve_moves _ serveSourceConfig_moves s
  | sourceClear => exact State.serve_moves _ serveSourceClear_moves s
  | sourceRead => exact State.serve_moves _ serveSourceRead_moves s
  | genLoad => exact State.serve_moves _ serveGenLoad_moves s
  | mixSet => exact State.serve_moves _ serveMixSet_moves s
  | mixTake => exact State.serve_moves _ serveMixTake_moves s
  | mixRead => exact State.serve_moves _ serveMixRead_moves s
  | streamSet => exact State.serve_moves _ serveStreamSet_moves s
  | streamRead => exact State.serve_moves _ serveStreamRead_moves s
  | meterConfig => exact State.serve_moves _ serveMeterConfig_moves s
  | meterRead => exact State.serve_moves _ serveMeterRead_moves s
  | takeOpen => exact State.serve_moves _ serveTakeOpen_moves s
  | takePause => exact State.serve_moves _ serveTakePause_moves s
  | takeResume => exact State.serve_moves _ serveTakeResume_moves s
  | takeClose => exact State.serve_moves _ serveTakeClose_moves s
  | takeProtect => exact State.serve_moves _ (serveProtect_moves true) s
  | takeUnprotect => exact State.serve_moves _ (serveProtect_moves false) s
  | takeDelete => exact State.serve_moves _ serveTakeDelete_moves s
  | takeList => exact State.serve_moves _ serveTakeList_moves s
  | storeFormat => exact State.serve_moves _ serveStoreFormat_moves s
  | storeConfig => exact State.serve_moves _ serveStoreConfig_moves s
  | storeStatus => exact State.serve_moves _ serveStoreStatus_moves s
  | readTake => exact State.serve_moves _ serveReadTake_moves s
  | readStop => exact State.serve_moves _ serveReadStop_moves s
  | unitStatus => exact State.serve_moves _ serveUnitStatus_moves s
  | query => exact State.serve_moves _ serveQuery_moves s
  | reserve => exact State.serve_moves _ serveReserve_moves s
  | release => exact State.serve_moves _ serveRelease_moves s
  | unitReset => exact State.serve_moves _ serveUnitReset_moves s
  | archiveProgramEnd ok g => exact execArchiveProgramEnd_moves ok g s
  | verifyFetchEnd a g => exact execVerifyFetchEnd_moves a g s
  | badMarkWriteEnd ok g => exact execBadMarkWriteEnd_moves ok g s
  | catalogProgramEnd ok g => exact execCatalogProgramEnd_moves ok g s
  | catalogVerifyEnd a g => exact execCatalogVerifyEnd_moves a g s
  | catalogEraseEnd ok g => exact execCatalogEraseEnd_moves ok g s
  | eraseEnd ok g => exact execEraseEnd_moves ok g s
  | formatEraseEnd ok g => exact execFormatEraseEnd_moves ok g s
  | mountCatalogFetchEnd a g => exact execMountCatalogFetchEnd_moves a g s
  | mountSpareFetchEnd a g => exact execMountSpareFetchEnd_moves a g s
  | recoveryFetchEnd a g => exact execRecoveryFetchEnd_moves a g s
  | timeLimitExpiry => exact ⟨_, rfl, .kept s.takeExpiry_kept⟩
  | readoutFetchEnd a g => exact execReadoutFetchEnd_moves a g s
  | frameHeaderTaken d w => exact execFrameHeaderTaken_moves d w s
  | bodyWordTaken d w => exact execBodyWordTaken_moves d w s

/-- A step is its command's moves: the queue of waiting commands is no part of the sample path. -/
theorem step_moves {s t : State} (h : step s = .next t) : SampleMoves s t := by
  unfold step at h
  split at h
  · cases h
    exact .refl s
  · rename_i c cs _
    obtain ⟨u, hu, hmoves⟩ := exec_moves c { s with pending := cs }
    rw [hu] at h
    cases h
    exact .trans (t := { s with pending := cs }) (.elsewhere rfl) hmoves

end Sys2Proof.Machine
end

section
/-!
Counts, levels and records stay in their ranges (R19, R21, R22, R169, R170, R173, R177): each move of the sample path
keeps the ranges, so every step does.
-/

namespace Sys2Proof.Machine

/-! ## Numbers -/

theorem saturate_mem (x : Int) : -8388608 ≤ saturate x ∧ saturate x ≤ 8388607 := by
  unfold saturate
  split
  · omega
  split <;> omega

theorem saturate_natAbs_le (x : Int) : (saturate x).natAbs ≤ 8388608 := by
  have h := saturate_mem x
  omega

theorem countUp_le (n k : Nat) : countUp n k ≤ Config.countMax := Nat.min_le_right _ _

theorem clampNat_mem {lo hi : Nat} (h : lo ≤ hi) (n : Nat) : lo ≤ clampNat lo hi n ∧ clampNat lo hi n ≤ hi := by
  unfold clampNat
  split
  · omega
  split <;> omega

theorem field_lt (w : Word) (hi lo : Nat) : field w hi lo < 2 ^ (hi + 1 - lo) := Nat.mod_lt _ (Nat.two_pow_pos _)

theorem sampleOf_mem (w : Word) : -8388608 ≤ sampleOf w ∧ sampleOf w ≤ 8388607 := by
  have hlo : -2 ^ (24 - 1) ≤ sampleOf w := BitVec.le_toInt _
  have hhi : sampleOf w < 2 ^ (24 - 1) := BitVec.toInt_lt
  have hfull : (2 : Int) ^ (24 - 1) = 8388608 := by norm_num
  omega

/-- The search of the integer square root stays at or below the root (00_scope "Arithmetic terms"). -/
theorem isqrtGo_sq_le (n : Nat) : ∀ k acc, acc * acc ≤ n → isqrtGo n k acc * isqrtGo n k acc ≤ n
  | 0, _, h => h
  | k + 1, acc, h => by
    rw [isqrtGo]
    refine isqrtGo_sq_le n k _ ?_
    split
    · assumption
    · exact h

/-- The root of a mean square is no level above full scale. -/
theorem isqrt_le {n : Nat} (h : n ≤ 2 ^ 46) : isqrt n ≤ 8388608 := by
  have hsq : isqrt n * isqrt n ≤ n := isqrtGo_sq_le n _ 0 (Nat.zero_le n)
  exact Nat.mul_self_le_mul_self_iff.mp (hsq.trans h)

/-! ## Source records -/

theorem SourceRecord.presenceStep_inRange {r : SourceRecord} (h : r.InRange) (taken : Bool) :
    (r.presenceStep taken).InRange := by
  obtain ⟨hacq, hmiss, hlim1, hlim, hrest⟩ := h
  have goal_pos : 1 ≤ Config.acquireGoal := by decide
  unfold SourceRecord.presenceStep
  split
  · exact ⟨goal_pos, hmiss, hlim1, hlim, hrest⟩
  · exact ⟨goal_pos, hmiss, hlim1, hlim, hrest⟩
  · exact ⟨hacq, hmiss, hlim1, hlim, hrest⟩
  · exact ⟨hacq, hmiss, hlim1, hlim, hrest⟩
  · split
    · exact ⟨le_rfl, Nat.zero_le _, hlim1, hlim, hrest⟩
    · rename_i hgoal
      exact ⟨(Nat.lt_of_not_le hgoal).le, hmiss, hlim1, hlim, hrest⟩
  · exact ⟨Nat.zero_le _, hmiss, hlim1, hlim, hrest⟩
  · exact ⟨hacq, Nat.zero_le _, hlim1, hlim, hrest⟩
  · split
    · obtain ⟨hlen, hfifo, hseq, hacc, hdup, hover, hgap, hmal, -⟩ := hrest
      exact ⟨Nat.zero_le _, Nat.zero_le _, hlim1, hlim, hlen, hfifo, hseq, hacc, hdup, hover, hgap, hmal,
        countUp_le _ _⟩
    · rename_i hmore
      exact ⟨hacq, (Nat.lt_of_not_le hmore).le.trans hlim, hlim1, hlim, hrest⟩

theorem SourceRecord.row_inRange {r : SourceRecord} (h : r.InRange) : r.row.InRange := by
  obtain ⟨hacq, hmiss, hlim1, hlim, hlen, hfifo, hrest⟩ := h
  refine SourceRecord.presenceStep_inRange (r := { r with fifo := r.fifo.tail })
    ⟨hacq, hmiss, hlim1, hlim, ?_, ?_, hrest⟩ _
  · exact (List.length_tail.trans_le (Nat.sub_le _ _)).trans hlen
  · exact fun f hf => hfifo f (List.mem_of_mem_tail hf)

theorem SourceRecord.arrive_inRange {r : SourceRecord} {f : SampleFrame} (h : r.InRange) (hf : f.InRange) :
    (r.arrive f).InRange := by
  obtain ⟨hacq, hmiss, hlim1, hlim, hlen, hfifo, hseq, hacc, hdup, hover, hgap, hrest⟩ := h
  unfold SourceRecord.arrive
  split
  · exact ⟨hacq, hmiss, hlim1, hlim, hlen, hfifo, hseq, hacc, countUp_le _ _, hover, hgap, hrest⟩
  split
  · exact ⟨hacq, hmiss, hlim1, hlim, hlen, hfifo, hseq, hacc, hdup, countUp_le _ _, hgap, hrest⟩
  · rename_i hroom
    refine ⟨hacq, hmiss, hlim1, hlim, ?_, ?_, ?_, countUp_le _ _, hdup, hover, ?_, hrest⟩
    · rw [List.length_append]
      exact Nat.lt_of_not_le hroom
    · exact fun g hg => (List.mem_append.mp hg).elim (hfifo g) fun hg => List.mem_singleton.mp hg ▸ hf
    · rintro _ ⟨⟩
      exact hf.1
    · dsimp only
      split
      · exact countUp_le _ _
      · exact hgap

/-- A cleared record is that of a reset, but for its limit (R33). -/
theorem SourceRecord.clear_inRange {r : SourceRecord} (h1 : 1 ≤ r.limit) (h255 : r.limit ≤ 255) :
    r.clear.InRange := by
  simp [SourceRecord.clear, SourceRecord.InRange, h1, h255]

/-- A law of every member of a list is kept where one member is changed by what keeps it. -/
theorem forall_mem_modify {α : Type} {p : α → Prop} {xs : List α} {f : α → α} (n : Nat) (h : ∀ x ∈ xs, p x)
    (hf : ∀ x, p x → p (f x)) : ∀ x ∈ xs.modify n f, p x := by
  intro x hx
  obtain ⟨i, hi, rfl⟩ := List.getElem_of_mem hx
  rw [List.getElem_modify]
  split
  · exact hf _ (h _ (List.getElem_mem _))
  · exact h _ (List.getElem_mem _)

/-- The ranges of every record are kept where one record is changed by what keeps it. -/
theorem SourceMonitor.mapRecord_inRange {m : SourceMonitor} {f : SourceRecord → SourceRecord} (n : Nat)
    (h : m.InRange) (hf : ∀ r : SourceRecord, r.InRange → (f r).InRange) : (m.mapRecord n f).InRange := by
  obtain ⟨hrow, hlen, hrec, hforeign⟩ := h
  exact ⟨hrow, by rw [← hlen]; exact List.length_modify .., forall_mem_modify n hrec hf, hforeign⟩

/-- A well-formed SAMPLE frame is a frame of 1 to 32 samples (R22). -/
theorem sampleFrame_inRange {w : Word} {ws : List Word} (h1 : 1 ≤ ws.length) (h32 : ws.length ≤ 32) :
    SampleFrame.InRange ⟨field w 15 0, ws.map sampleOf⟩ := by
  refine ⟨field_lt w 15 0, by simpa using h1, by simpa [Config.slots] using h32, fun x hx => ?_⟩
  obtain ⟨v, -, rfl⟩ := List.mem_map.mp hx
  exact sampleOf_mem v

theorem SourceMonitor.sampleArrives_inRange {m : SourceMonitor} (w : Word) (body : List Word) (h : m.InRange) :
    (m.sampleArrives w body).InRange := by
  unfold SourceMonitor.sampleArrives
  dsimp only
  split
  · exact ⟨h.1, h.2.1, h.2.2.1, countUp_le _ _⟩
  split
  · refine m.mapRecord_inRange _ h fun r hr => ?_
    obtain ⟨hacq, hmiss, hlim1, hlim, hlen, hfifo, hseq, hacc, hdup, hover, hgap, -, hlapse⟩ := hr
    exact ⟨hacq, hmiss, hlim1, hlim, hlen, hfifo, hseq, hacc, hdup, hover, hgap, countUp_le _ _, hlapse⟩
  · rename_i hgood
    refine m.mapRecord_inRange _ h fun r hr => r.arrive_inRange hr (sampleFrame_inRange ?_ ?_)
    all_goals
      simp only [Bool.or_eq_true, decide_eq_true_eq, ne_eq, not_or, not_not] at hgood
      unfold Config.slots at hgood
      rw [List.length_tail]
      omega

theorem SourceMonitor.advance_inRange {m : SourceMonitor} (h : m.InRange) : m.advance.InRange := by
  obtain ⟨-, hlen, hrec, hforeign⟩ := h
  refine ⟨Nat.mod_lt _ (by decide), by rw [← hlen]; exact List.length_map .., fun r hr => ?_, hforeign⟩
  obtain ⟨q, hq, rfl⟩ := List.mem_map.mp hr
  exact q.row_inRange (hrec q hq)

/-! ## Meters -/

/-- A level meter takes a value of full scale at most (R171). -/
theorem LevelMeter.measure_inRange {m : LevelMeter} {n : Nat} {v : Int} (h : m.InRange n)
    (hv : v.natAbs ≤ 8388608) : (m.measure v).InRange (n + 1) := by
  obtain ⟨hrun, hsum, hrest⟩ := h
  have hsq : v.natAbs * v.natAbs ≤ 8388608 * 8388608 := Nat.mul_le_mul hv hv
  refine ⟨max_le hrun hv, ?_, hrest⟩
  show m.runSum + v.natAbs * v.natAbs ≤ (n + 1) * 2 ^ 46
  rw [Nat.succ_mul]
  omega

theorem ringPush_inRange {ring : List Nat} {v : Nat} (hlen : ring.length ≤ Config.ringCap)
    (hring : ∀ x ∈ ring, x ≤ 2 ^ 46) (hv : v ≤ 2 ^ 46) :
    (ringPush ring v).length ≤ Config.ringCap ∧ ∀ x ∈ ringPush ring v, x ≤ 2 ^ 46 := by
  unfold Config.ringCap at hlen ⊢
  unfold ringPush Config.ringCap
  split
  · refine ⟨by rw [List.length_append, List.length_tail, List.length_singleton]; omega, fun x hx => ?_⟩
    exact (List.mem_append.mp hx).elim (fun hx => hring x (List.mem_of_mem_tail hx)) fun hx =>
      List.mem_singleton.mp hx ▸ hv
  · refine ⟨by rw [List.length_append, List.length_singleton]; omega, fun x hx => ?_⟩
    exact (List.mem_append.mp hx).elim (hring x) fun hx => List.mem_singleton.mp hx ▸ hv

/-- A mean of values of at most a bound is at most the bound. -/
theorem sum_div_length_le {xs : List Nat} {b : Nat} (h : ∀ x ∈ xs, x ≤ b) : xs.sum / xs.length ≤ b :=
  Nat.div_le_of_le_mul (by simpa using List.sum_le_card_nsmul xs b h)

/-- What a window end publishes is in range after a window of at most `w` rows (R172, R173). -/
theorem LevelMeter.publish_inRange {m : LevelMeter} {n w : Nat} (h : m.InRange n) (hn : n ≤ w) :
    (m.publish w).InRange 0 := by
  obtain ⟨hrun, hsum, hpeak, hmean, hrms, hlong, hlen, hring⟩ := h
  have hms : m.runSum / w ≤ 2 ^ 46 := Nat.div_le_of_le_mul (hsum.trans (Nat.mul_le_mul_right _ hn))
  obtain ⟨hlen', hring'⟩ := ringPush_inRange hlen hring hms
  exact ⟨Nat.zero_le _, Nat.zero_le _, hrun, hms, isqrt_le hms, isqrt_le (sum_div_length_le hring'), hlen', hring'⟩

theorem TrackMeter.overTest_inRange {m : TrackMeter} (level : Nat) (x : Option TrackSample)
    (h : m.overs ≤ Config.countMax ∧ m.quiet ≤ 255) :
    (m.overTest level x).overs ≤ Config.countMax ∧ (m.overTest level x).quiet ≤ 255 := by
  unfold TrackMeter.overTest
  split
  · exact h
  · split
    · exact ⟨countUp_le _ _, h.2⟩
    · exact h

theorem TrackMeter.settle_inRange {m : TrackMeter} (rms threshold n : Nat)
    (h : m.overs ≤ Config.countMax ∧ m.quiet ≤ 255) :
    (m.settle rms threshold n).overs ≤ Config.countMax ∧ (m.settle rms threshold n).quiet ≤ 255 := by
  unfold TrackMeter.settle
  split
  · exact ⟨h.1, Nat.min_le_right _ _⟩
  · exact ⟨h.1, Nat.zero_le _⟩

/-- The window end, at a counter of W (R170, R172 to R176). -/
theorem MeterUnit.windowEnd_inRange {m : MeterUnit} {rate : Rate} (h : m.InRange rate) :
    (m.windowEnd (windowLength rate)).InRange rate := by
  obtain ⟨hlevels, htracks, ho1, ho, hth, hw1, hw, hcount⟩ := h
  refine ⟨fun x hx => ?_, fun x hx => ?_, ho1, ho, hth, hw1, hw, Nat.zero_le _⟩
  · obtain ⟨y, hy, rfl⟩ := List.mem_map.mp hx
    exact y.publish_inRange (hlevels y hy) hcount
  · obtain ⟨y, hy, rfl⟩ := List.mem_map.mp hx
    exact y.1.settle_inRange _ _ _ (htracks y.1 (List.of_mem_zip hy).1)

theorem State.takeWindowEnd_inRange {s : State} (h : s.meter.InRange s.rate) :
    s.takeWindowEnd.meter.InRange s.takeWindowEnd.rate := by
  unfold State.takeWindowEnd
  split
  · exact MeterUnit.windowEnd_inRange h
  · exact h

/-- A row at a counter below W whose values are of full scale at most (R170, R171, R174). -/
theorem MeterUnit.row_inRange {m : MeterUnit} {rate : Rate} {xs : List (Option TrackSample)} {ys : List Int}
    (h : m.InRange rate) (hw : m.windowCounter < windowLength rate)
    (hv : ∀ v ∈ meterValues xs ys, v.natAbs ≤ 8388608) : (m.row xs ys).InRange rate := by
  obtain ⟨hlevels, htracks, ho1, ho, hth, hw1, hw2, -⟩ := h
  refine ⟨fun x hx => ?_, fun x hx => ?_, ho1, ho, hth, hw1, hw2, hw⟩
  · obtain ⟨y, hy, rfl⟩ := List.mem_map.mp hx
    obtain ⟨hlevel, hvalue⟩ := List.of_mem_zip hy
    exact y.1.measure_inRange (hlevels _ hlevel) (hv _ hvalue)
  · obtain ⟨y, hy, rfl⟩ := List.mem_map.mp hx
    exact y.1.overTest_inRange _ _ (htracks _ (List.of_mem_zip hy).1)

/-- Whatever its raw sample, a track gives a sample of the sample range: the trim and the filter saturate
(R46, R47). -/
theorem TrackParts.row_conditioned (p : TrackParts) (row : InputRow) :
    (p.row row).2.conditioned.natAbs ≤ 8388608 := by
  show (filterStep p.route.filter p.filter _).value.natAbs ≤ 8388608
  unfold filterStep
  split <;> exact saturate_natAbs_le _

theorem TrackParts.rowIf_conditioned {p : TrackParts} {row : InputRow} {x : TrackSample}
    (h : (p.rowIf row).2 = some x) : x.conditioned.natAbs ≤ 8388608 := by
  unfold TrackParts.rowIf at h
  split at h
  · cases h
    exact p.row_conditioned row
  · cases h

/-- The values the meters measure in a row are of full scale at most (R46, R47, R154, R171). -/
theorem meterValues_natAbs_le (s : State) (row : InputRow) (m : MixEngine) (p : Nat) :
    ∀ v ∈ meterValues (s.trackRow row).2 (m.row (s.trackRow row).2 p).2, v.natAbs ≤ 8388608 := by
  intro v hv
  rcases List.mem_append.mp hv with hv | hv
  · obtain ⟨x, hx, rfl⟩ := List.mem_map.mp hv
    cases x with
    | none => exact Nat.zero_le _
    | some x =>
      obtain ⟨y, hy, hyx⟩ := List.mem_map.mp hx
      obtain ⟨q, -, rfl⟩ := List.mem_map.mp hy
      exact TrackParts.rowIf_conditioned hyx
  · obtain ⟨y, -, rfl⟩ := List.mem_map.mp hv
    exact saturate_natAbs_le y

/-- A setting takes a value of its range, or stays (R177). -/
theorem settingOf_mem {w : Word} {old lo hi v : Nat} (h : settingOf w old lo hi = some v) (hlo : lo ≤ old)
    (hhi : old ≤ hi) : lo ≤ v ∧ v ≤ hi := by
  unfold settingOf at h
  split at h
  · cases h
    exact ⟨hlo, hhi⟩
  · cases h
    exact clampNat_mem (hlo.trans hhi) _
  · cases h

/-- A cleared over count leaves the others as they were (R178). -/
theorem clearOvers_inRange {ms : List TrackMeter} (first count : Nat)
    (h : ∀ x ∈ ms, x.overs ≤ Config.countMax ∧ x.quiet ≤ 255) :
    ∀ x ∈ clearOvers ms first count, x.overs ≤ Config.countMax ∧ x.quiet ≤ 255 := by
  intro x hx
  obtain ⟨y, hy, rfl⟩ := List.mem_map.mp hx
  have hmem := h y.1 (List.fst_mem_of_mem_zipIdx hy)
  split
  · exact ⟨Nat.zero_le _, hmem.2⟩
  · exact hmem

/-- The meters' initial values are in range at either rate (R179). -/
theorem initial_meterInRange (rate : Rate) : ({} : MeterUnit).InRange rate := by
  obtain ⟨hlevels, htracks, ho1, ho, hth, hw1, hw, -⟩ := reset_meterInRange
  exact ⟨hlevels, htracks, ho1, ho, hth, hw1, hw, Nat.zero_le _⟩

/-! ## Every move -/

/-- Sources and meters are in their ranges. -/
def State.CountsInRange (s : State) : Prop := s.sources.InRange ∧ s.meter.InRange s.rate

/-- A move of the tracks, the takes, the mix or the stream has no part in the ranges. -/
theorem State.CountsInRange.of_eq {s t : State} (h : s.CountsInRange) (hs : t.sources.InRange ↔ s.sources.InRange)
    (hm : t.meter = s.meter) (hr : t.rate = s.rate) : t.CountsInRange :=
  ⟨hs.mpr h.1, by rw [hm, hr]; exact h.2⟩

theorem State.rowSamples_countsInRange {s : State} (h : s.CountsInRange) (hw : s.windowDue = false) :
    s.rowSamples.CountsInRange := by
  obtain ⟨hsources, hmeter⟩ := h
  have hcount : s.meter.windowCounter < windowLength s.rate := by simpa [State.windowDue] using hw
  exact ⟨SourceMonitor.advance_inRange (m := (s.trackRow s.sources.inputRow).1.sources) hsources,
    MeterUnit.row_inRange hmeter hcount (meterValues_natAbs_le s s.sources.inputRow s.mix s.sources.rowCounter)⟩

theorem SampleMoves.countsInRange {s t : State} (h : SampleMoves s t) : s.CountsInRange → t.CountsInRange := by
  induction h with
  | kept h => exact fun hs => hs.of_eq (by rw [h.sources]) h.meter h.rate
  | trans _ _ ih jh => exact fun hs => jh (ih hs)
  | @powerOn _ t hs _ _ _ _ _ _ he =>
    intro _
    rw [State.CountsInRange, hs, he]
    exact ⟨reset_sourcesInRange, initial_meterInRange _⟩
  | warmReset s a => exact fun _ => ⟨reset_sourcesInRange, initial_meterInRange _⟩
  | sampleArrives s w body => exact fun hs => ⟨s.sources.sampleArrives_inRange w body hs.1, hs.2⟩
  | rowSamples hw => exact fun hs => State.rowSamples_countsInRange hs hw
  | windowEnd s =>
    exact fun hs => ⟨by unfold State.takeWindowEnd; split <;> exact hs.1, State.takeWindowEnd_inRange hs.2⟩
  | sourceClear s n =>
    refine fun hs => ⟨s.sources.mapRecord_inRange n hs.1 fun r hr => ?_, hs.2⟩
    obtain ⟨-, -, hlim1, hlim, -⟩ := hr
    exact SourceRecord.clear_inRange hlim1 hlim
  | sourceLimit s n v =>
    refine fun hs => ⟨s.sources.mapRecord_inRange n hs.1 fun r hr => ?_, hs.2⟩
    obtain ⟨hacq, hmiss, -, -, hrest⟩ := hr
    obtain ⟨hlo, hhi⟩ := clampNat_mem (lo := 1) (hi := 255) (by decide) v
    exact ⟨hacq, hmiss, hlo, hhi, hrest⟩
  | settings ho ht hn =>
    refine fun hs => ⟨hs.1, ?_⟩
    obtain ⟨hlevels, htracks, ho1, ho2, hth, hw1, hw2, hcount⟩ := hs.2
    obtain ⟨hlo, hhi⟩ := settingOf_mem ho ho1 ho2
    obtain ⟨-, hth'⟩ := settingOf_mem ht (Nat.zero_le _) hth
    obtain ⟨hn1, hn2⟩ := settingOf_mem hn hw1 hw2
    exact ⟨hlevels, htracks, hlo, hhi, hth', hn1, hn2, hcount⟩
  | overs s first count =>
    refine fun hs => ⟨hs.1, ?_⟩
    obtain ⟨hlevels, htracks, hrest⟩ := hs.2
    exact ⟨hlevels, clearOvers_inRange first count htracks, hrest⟩
  | newTake _ _ h _ => exact fun hs => hs.of_eq (by rw [h]) (by rw [h]) (by rw [h])
  | _ => exact fun hs => hs.of_eq Iff.rfl rfl rfl

/-- Settles O10: each move of the sample path keeps the ranges, and a step makes such moves only. -/
theorem countsStayInRange : Obligations.CountsStayInRange :=
  fun _ _ hsources hmeter hstep => (step_moves hstep).countsInRange ⟨hsources, hmeter⟩

end Sys2Proof.Machine
end

section
/-!
Every table keeps its size and every track set its order (R21, R37, R40, R56, R60, R103, R155, R159, R169): each move of
the sample path keeps them, so every step does.
-/

namespace Sys2Proof.Machine

/-! ## Sizes after the operations of a row and of a boundary -/

@[simp] theorem State.allTracks_length (s : State) : s.allTracks.length = 128 := by
  simp [State.allTracks, Config.tracks]

@[simp] theorem MixEngine.row_clips_length (m : MixEngine) (xs : List (Option TrackSample)) (p : Nat) :
    (m.row xs p).1.clips.length = min m.clips.length 8 := by
  simp [MixEngine.row, Config.buses]

@[simp] theorem ArchiveCoder.row_length (c : ArchiveCoder) (set : List Nat) (p level : Nat)
    (xs : List (Option TrackSample)) : (c.row set p level xs).blocks.length = min c.blocks.length xs.length := by
  simp [ArchiveCoder.row]

@[simp] theorem storeBusRow_length (bs : List StreamBus) (ys : List Int) (n : Nat) :
    (storeBusRow bs ys n).length = min bs.length ys.length := by
  simp [storeBusRow]

@[simp] theorem meterValues_length (xs : List (Option TrackSample)) (ys : List Int) :
    (meterValues xs ys).length = xs.length + ys.length := by
  simp [meterValues]

@[simp] theorem MeterUnit.row_levels_length (m : MeterUnit) (xs : List (Option TrackSample)) (ys : List Int) :
    (m.row xs ys).levels.length = min m.levels.length (xs.length + ys.length) := by
  simp [MeterUnit.row]

@[simp] theorem MeterUnit.row_tracks_length (m : MeterUnit) (xs : List (Option TrackSample)) (ys : List Int) :
    (m.row xs ys).tracks.length = min m.tracks.length xs.length := by
  simp [MeterUnit.row]

@[simp] theorem codeBuses_length (unit : Nat) (bs : List StreamBus) :
    ∀ (n : Nat) (l : LinkUnit), (codeBuses unit n bs l).1.length = bs.length := by
  induction bs with
  | nil => exact fun _ _ => rfl
  | cons b bs ih => exact fun n l => congrArg (· + 1) (ih _ _)

@[simp] theorem MixEngine.boundary_clips (m : MixEngine) : m.boundary.clips = m.clips := by
  unfold MixEngine.boundary
  split <;> rfl

/-- A STREAM_SET changes next modes and no bus is lost (R167). -/
theorem nextModes_length {w : Word} {bs cs : List StreamBus} {n : Nat} (h : nextModes w n bs = some cs) :
    cs.length = bs.length := by
  induction bs generalizing n cs with
  | nil => cases h; rfl
  | cons b bs ih =>
    rw [nextModes] at h
    split at h
    · rename_i ds _ hds
      cases h
      exact congrArg (· + 1) (ih hds)
    · cases h

@[simp] theorem clearRange_length (ns : List Nat) (first count : Nat) :
    (clearRange ns first count).length = ns.length := by
  simp [clearRange]

@[simp] theorem clearOvers_length (ms : List TrackMeter) (first count : Nat) :
    (clearOvers ms first count).length = ms.length := by
  simp [clearOvers]

@[simp] theorem SourceMonitor.mapRecord_length (m : SourceMonitor) (n : Nat) (f : SourceRecord → SourceRecord) :
    (m.mapRecord n f).records.length = m.records.length := List.length_modify ..

@[simp] theorem SourceMonitor.mapRecord_conceal (m : SourceMonitor) (n : Nat) (f : SourceRecord → SourceRecord) :
    (m.mapRecord n f).conceal = m.conceal := rfl

@[simp] theorem SourceMonitor.sampleArrives_length (m : SourceMonitor) (w : Word) (body : List Word) :
    (m.sampleArrives w body).records.length = m.records.length := by
  unfold SourceMonitor.sampleArrives
  dsimp only
  repeat' split
  · rfl
  all_goals exact m.mapRecord_length _ _

/-- A SAMPLE frame has no part in the concealment states (R22). -/
@[simp] theorem SourceMonitor.sampleArrives_conceal (m : SourceMonitor) (w : Word) (body : List Word) :
    (m.sampleArrives w body).conceal = m.conceal := by
  unfold SourceMonitor.sampleArrives
  dsimp only
  repeat' split
  all_goals rfl

/-! ## The track set of a new take -/

/-- A new record's track set is read off the route table in ascending order (R40). -/
theorem trackSetNow_lawful {routes : List Route} (h : routes.length = 128) :
    (trackSetNow routes).Pairwise (· < ·) ∧ ∀ n ∈ trackSetNow routes, n < 128 := by
  have hsub : (trackSetNow routes).Sublist (List.range' 0 routes.length) := by
    rw [← List.zipIdx_map_snd 0 routes]
    exact List.filter_sublist.map _
  refine ⟨(List.pairwise_lt_range' (step := 1)).sublist hsub, fun n hn => ?_⟩
  have := List.mem_range'_1.mp (hsub.subset hn)
  omega

/-! ## Every move -/

theorem State.rowSamples_sized {s : State} (h : s.Sized) : s.rowSamples.Sized := by
  obtain ⟨hrec, -, -, -, -, -, -, hblocks, hclips, hstream, hlevels, hmeters, hmodules, hsets⟩ := h
  have hparts : ((s.allTracks.map fun p => p.rowIf s.sources.inputRow).map Prod.fst).length = 128 := by simp
  refine ⟨?_, ?_, ?_, ?_, ?_, ?_, ?_, ?_, ?_, ?_, ?_, ?_, hmodules, hsets⟩
  · exact (List.length_map ..).trans hrec
  iterate 6 exact (List.length_map ..).trans hparts
  · exact (ArchiveCoder.row_length ..).trans (by simp [hblocks])
  · exact (MixEngine.row_clips_length ..).trans (by simp [hclips])
  · exact (storeBusRow_length ..).trans (by simp [hstream, Config.buses])
  · exact (MeterUnit.row_levels_length ..).trans (by simp [hlevels, Config.buses])
  · exact (MeterUnit.row_tracks_length ..).trans (by simp [hmeters])

theorem State.takeWindowEnd_sized {s : State} (h : s.Sized) : s.takeWindowEnd.Sized := by
  unfold State.takeWindowEnd
  split
  · obtain ⟨hrec, hconceal, hroutes, hlines, hfilters, hmarks, hsat, hblocks, hclips, hstream, hlevels, hmeters,
      hrest⟩ := h
    exact ⟨hrec, hconceal, hroutes, hlines, hfilters, hmarks, hsat, hblocks, hclips, hstream,
      (List.length_map ..).trans hlevels, by simp [MeterUnit.windowEnd, hlevels, hmeters], hrest⟩
  · exact h

theorem SampleMoves.sized {s t : State} (h : SampleMoves s t) : s.Sized → t.Sized := by
  induction h with
  | @kept s t h =>
    rintro ⟨hrec, hconceal, hroutes, hlines, hfilters, hmarks, hsat, hblocks, hclips, hstream, hlevels, hmeters,
      hmodules, hsets⟩
    rw [State.Sized, h.sources, h.tracks, h.blocks, h.mix, h.stream, h.meter, h.takes.modules]
    exact ⟨hrec, hconceal, hroutes, hlines, hfilters, hmarks, hsat, hblocks, hclips, hstream, hlevels, hmeters,
      hmodules, h.takes.sets hsets⟩
  | trans _ _ ih jh => exact fun hs => jh (ih hs)
  | powerOn hs ht hc hk hm hx hb he =>
    intro _
    rw [State.Sized, hs, ht, hc, hk, hm, hx, hb, he]
    obtain ⟨hrec, hconceal, hroutes, hlines, hfilters, hmarks, hsat, hblocks, hclips, hstream, hlevels, hmeters, -,
      hsets⟩ := reset_meetsSizes
    exact ⟨hrec, hconceal, hroutes, hlines, hfilters, hmarks, hsat, hblocks, hclips, hstream, hlevels, hmeters, rfl,
      hsets⟩
  | warmReset s a =>
    rintro ⟨-, -, -, -, -, -, -, -, -, -, -, -, hmodules, hsets⟩
    obtain ⟨hrec, hconceal, hroutes, hlines, hfilters, hmarks, hsat, hblocks, hclips, hstream, hlevels, hmeters, -,
      -⟩ := reset_meetsSizes
    exact ⟨hrec, hconceal, hroutes, hlines, hfilters, hmarks, hsat, hblocks, hclips, hstream, hlevels, hmeters,
      hmodules, hsets⟩
  | rowSamples _ => exact State.rowSamples_sized
  | windowEnd s => exact State.takeWindowEnd_sized
  | clips s =>
    rintro ⟨hrec, hconceal, hroutes, hlines, hfilters, hmarks, hsat, hblocks, -, hrest⟩
    exact ⟨hrec, hconceal, hroutes, hlines, hfilters, hmarks, hsat, hblocks, List.length_replicate, hrest⟩
  | nextModes hn =>
    rintro ⟨hrec, hconceal, hroutes, hlines, hfilters, hmarks, hsat, hblocks, hclips, hstream, hrest⟩
    exact ⟨hrec, hconceal, hroutes, hlines, hfilters, hmarks, hsat, hblocks, hclips,
      (nextModes_length hn).trans hstream, hrest⟩
  | @newTake s t e first h hr =>
    rintro ⟨hrec, hconceal, hroutes, hlines, hfilters, hmarks, hsat, hblocks, hclips, hstream, hlevels, hmeters,
      hmodules, hsets⟩
    rw [State.Sized, hr, h]
    refine ⟨hrec, hconceal, hroutes, hlines, hfilters, hmarks, hsat, hblocks, hclips, hstream, hlevels, hmeters,
      hmodules, fun k hk => ?_⟩
    rcases List.mem_append.mp hk with hk | hk
    · exact hsets k hk
    · rw [List.mem_singleton.mp hk]
      exact trackSetNow_lawful hroutes
  | _ =>
    intro hs
    simpa [State.Sized, State.boundaryGiven, State.mixWork, State.clearBlocks, State.setTrack,
      State.clearUnitCounts] using hs

/-- Settles O11: each move of the sample path keeps the sizes, and a step makes such moves only. -/
theorem tablesKeepTheirSizes : Obligations.TablesKeepTheirSizes :=
  fun _ _ hs hstep => (step_moves hstep).sized hs

end Sys2Proof.Machine
end

section
/-!
Arrival at the Source Monitor, its row, and concealment (R19, R22 to R25, R27, R29, R31): one equation for each outcome
of an arrival and for each line of R25's table.
-/

namespace Sys2Proof.Machine

/-! ## Arrival of a SAMPLE frame -/

section Arrival

variable {m : SourceMonitor} {r : SourceRecord} {h : Word} {body : List Word} {n : Nat}

theorem SourceMonitor.mapRecord_other (f : SourceRecord → SourceRecord) {k : Nat} (hk : k ≠ n) :
    (m.mapRecord n f).records[k]? = m.records[k]? := by
  simp [SourceMonitor.mapRecord, hk.symm]

theorem SourceMonitor.mapRecord_same (f : SourceRecord → SourceRecord) (hr : m.records[n]? = some r) :
    (m.mapRecord n f).records[n]? = some (f r) := by
  simp [SourceMonitor.mapRecord, hr]

theorem SourceMonitor.sampleArrives_foreign (hn : 15 < headerAux h) :
    m.sampleArrives h body = { m with foreign := countUp m.foreign 1 } := if_pos hn

theorem SourceMonitor.sampleArrives_malformed (hn : headerAux h ≤ 15)
    (hbad : field (body.getD 0 0) 21 16 = 0 ∨ 32 < field (body.getD 0 0) 21 16
      ∨ body.length ≠ field (body.getD 0 0) 21 16 + 1) :
    m.sampleArrives h body
      = m.mapRecord (headerAux h) fun r => { r with malformed := countUp r.malformed 1 } := by
  have htest : (decide (field (body.getD 0 0) 21 16 = 0) || decide (Config.slots < field (body.getD 0 0) 21 16)
      || decide (body.length + 2 ≠ field (body.getD 0 0) 21 16 + 3)) = true := by
    simp only [Bool.or_eq_true, decide_eq_true_eq]
    unfold Config.slots
    omega
  exact (if_neg (Nat.not_le_of_lt (Nat.lt_succ_of_le hn))).trans (if_pos htest)

theorem SourceMonitor.sampleArrives_good (hn : headerAux h ≤ 15) (h1 : 1 ≤ field (body.getD 0 0) 21 16)
    (h32 : field (body.getD 0 0) 21 16 ≤ 32) (hlen : body.length = field (body.getD 0 0) 21 16 + 1) :
    m.sampleArrives h body
      = m.mapRecord (headerAux h) fun r => r.arrive ⟨field (body.getD 0 0) 15 0, body.tail.map sampleOf⟩ := by
  have htest : ¬ (decide (field (body.getD 0 0) 21 16 = 0) || decide (Config.slots < field (body.getD 0 0) 21 16)
      || decide (body.length + 2 ≠ field (body.getD 0 0) 21 16 + 3)) = true := by
    simp only [Bool.or_eq_true, decide_eq_true_eq]
    unfold Config.slots
    omega
  exact (if_neg (Nat.not_le_of_lt (Nat.lt_succ_of_le hn))).trans (if_neg htest)

theorem SourceRecord.arrive_duplicate {f : SampleFrame} (hs : r.lastSeq = some f.seq) :
    r.arrive f = { r with duplicates := countUp r.duplicates 1 } := if_pos hs

theorem SourceRecord.arrive_overrun {f : SampleFrame} (hs : r.lastSeq ≠ some f.seq) (hfull : 4 ≤ r.fifo.length) :
    r.arrive f = { r with overruns := countUp r.overruns 1 } := (if_neg hs).trans (if_pos hfull)

theorem SourceRecord.arrive_accepted {f : SampleFrame} (hs : r.lastSeq ≠ some f.seq) (hroom : r.fifo.length < 4) :
    r.arrive f = { r with
      fifo := r.fifo ++ [f]
      accepted := countUp r.accepted 1
      gaps := match r.lastSeq with
        | some l => countUp r.gaps ((f.seq + 65536 - l) % 65536 - 1)
        | none => r.gaps
      lastSeq := some f.seq } := (if_neg hs).trans (if_neg (Nat.not_le_of_lt hroom))

/-- The step from one 16-bit sequence number to another is 1 to 65535 (R23). -/
theorem seqStep_spec {l q : Nat} (hl : l < 65536) (hq : q < 65536) (hne : l ≠ q) :
    1 ≤ (q + 65536 - l) % 65536 ∧ (q + 65536 - l) % 65536 ≤ 65535
      ∧ (l + (q + 65536 - l) % 65536) % 65536 = q := by
  omega

/-- Settles O24: by the outcomes of an arrival, in the order of the tests. -/
theorem sampleFrameArrival : Obligations.SampleFrameArrival := by
  intro m h body r n count seq m'
  refine ⟨SourceMonitor.sampleArrives_foreign, fun hn hr => ?_⟩
  obtain ⟨f, hf⟩ : ∃ f, m' = m.mapRecord n f := by
    by_cases hbad : count = 0 ∨ 32 < count ∨ body.length ≠ count + 1
    · exact ⟨_, SourceMonitor.sampleArrives_malformed hn hbad⟩
    · rw [not_or, not_or, not_not] at hbad
      exact ⟨_, SourceMonitor.sampleArrives_good hn (Nat.pos_of_ne_zero hbad.1) (Nat.le_of_not_lt hbad.2.1)
        hbad.2.2⟩
  refine ⟨fun k hk => by rw [hf, SourceMonitor.mapRecord_other f hk], by rw [hf]; rfl, fun hbad => ?_,
    fun h1 h32 hlen => ?_⟩
  · show (m.sampleArrives h body).records[n]? = _
    rw [SourceMonitor.sampleArrives_malformed hn hbad, SourceMonitor.mapRecord_same _ hr]
  · have harrive : m'.records[n]? = some (r.arrive ⟨seq, body.tail.map sampleOf⟩) := by
      show (m.sampleArrives h body).records[n]? = _
      rw [SourceMonitor.sampleArrives_good hn h1 h32 hlen, SourceMonitor.mapRecord_same _ hr]
    refine ⟨fun hdup => ?_, fun hnew hfull => ?_, fun hnew hroom => ⟨_, harrive, ?_⟩⟩
    · rw [harrive, SourceRecord.arrive_duplicate hdup]
    · rw [harrive, SourceRecord.arrive_overrun hnew hfull]
    · rw [SourceRecord.arrive_accepted hnew hroom]
      refine ⟨rfl, rfl, rfl, fun hnone => by simp only [hnone], fun l hl hlt => ?_, rfl⟩
      obtain ⟨hd1, hd, hsum⟩ := seqStep_spec hlt (field_lt (body.getD 0 0) 15 0) fun he =>
        hnew (hl.trans (congrArg some he))
      exact ⟨_, hd1, hd, hsum, by simp only [hl]; rfl⟩

end Arrival

/-! ## The row of a source: R25's table -/

section Presence

variable {r : SourceRecord}

theorem SourceRecord.row_fifo (r : SourceRecord) : r.row.fifo = r.fifo.tail := by
  unfold SourceRecord.row SourceRecord.presenceStep
  split
  all_goals first | rfl | (split <;> rfl)

theorem SourceRecord.row_noFrame (h : r.presence = .absent ∨ r.presence = .lapsed) (hf : r.fifo = []) :
    r.row = { r with fifo := [] } := by
  rcases h with h | h <;> simp [SourceRecord.row, SourceRecord.presenceStep, h, hf]

theorem SourceRecord.row_acquires (h : r.presence = .absent ∨ r.presence = .lapsed) (hf : r.fifo ≠ []) :
    r.row = { r with fifo := r.fifo.tail, presence := .acquiring, acquire := 1 } := by
  have he : (!r.fifo.isEmpty) = true := by simpa using hf
  rcases h with h | h <;> simp [SourceRecord.row, SourceRecord.presenceStep, h, he]

theorem SourceRecord.row_acquireLost (h : r.presence = .acquiring) (hf : r.fifo = []) :
    r.row = { r with fifo := [], acquire := 0 } := by
  simp [SourceRecord.row, SourceRecord.presenceStep, h, hf]

theorem SourceRecord.row_acquireCounts (h : r.presence = .acquiring) (hf : r.fifo ≠ []) (hc : r.acquire + 1 < 48) :
    r.row = { r with fifo := r.fifo.tail, acquire := r.acquire + 1 } := by
  have he : (!r.fifo.isEmpty) = true := by simpa using hf
  have hgoal : ¬ Config.acquireGoal ≤ r.acquire + 1 := Nat.not_le_of_lt hc
  simp [SourceRecord.row, SourceRecord.presenceStep, h, he, hgoal]

theorem SourceRecord.row_becomesPresent (h : r.presence = .acquiring) (hf : r.fifo ≠ []) (hc : 48 ≤ r.acquire + 1) :
    r.row = { r with fifo := r.fifo.tail, presence := .present, acquire := 48, misses := 0 } := by
  have he : (!r.fifo.isEmpty) = true := by simpa using hf
  have hgoal : Config.acquireGoal ≤ r.acquire + 1 := hc
  simp [SourceRecord.row, SourceRecord.presenceStep, h, he, hgoal]
  rfl

theorem SourceRecord.row_supplied (h : r.presence = .present) (hf : r.fifo ≠ []) :
    r.row = { r with fifo := r.fifo.tail, misses := 0 } := by
  have he : (!r.fifo.isEmpty) = true := by simpa using hf
  simp [SourceRecord.row, SourceRecord.presenceStep, h, he]

theorem SourceRecord.row_missed (h : r.presence = .present) (hf : r.fifo = []) (hc : r.misses + 1 < r.limit) :
    r.row = { r with fifo := [], misses := r.misses + 1 } := by
  simp [SourceRecord.row, SourceRecord.presenceStep, h, hf, Nat.not_le_of_lt hc]

theorem SourceRecord.row_lapses (h : r.presence = .present) (hf : r.fifo = []) (hc : r.limit ≤ r.misses + 1) :
    r.row = { r with
      fifo := [], presence := .lapsed, lapses := countUp r.lapses 1, misses := 0, acquire := 0 } := by
  simp [SourceRecord.row, SourceRecord.presenceStep, h, hf, hc]

end Presence

/-! ## The row of the Source Monitor -/

section Row

variable {s : State}

/-- What was due has no part in the Source Monitor, but that its boundary is given. -/
theorem State.takeDue_sources (s : State) :
    s.takeDue.sources = { s.sources with boundaryDue := s.takeDue.sources.boundaryDue } := by
  have hkept := s.takeWindowEnd.takeBoundary.takeHoldExpiry_kept.trans (State.takeExpiry_kept _)
  have hwindow : s.takeWindowEnd.sources = s.sources := by
    unfold State.takeWindowEnd
    split <;> rfl
  have hboundary : ∀ u : State,
      u.takeBoundary.sources = { u.sources with boundaryDue := u.takeBoundary.sources.boundaryDue } := by
    intro u
    unfold State.takeBoundary
    split
    · rfl
    split
    · have h := u.boundaryGiven.mixWork.takeWork_kept.sources
      have k := u.boundaryGiven.mixWork.takeWork.clearBlocks.settlePort_kept.sources
      rw [State.archiveBoundary, k, State.clearBlocks_sources, h]
      rfl
    · rfl
  have hdue : s.takeDue.sources = s.takeWindowEnd.takeBoundary.sources := hkept.sources
  rw [hdue, hboundary, hwindow]

/-- What a row ends with, the start of the mount and the work of the port, has no part in the sample path. -/
theorem State.row_kept (s : State) : SampleKept s.takeDue.rowTimers.rowSamples s.row :=
  ((State.mountStart_side _).kept (State.mountStart_takes_side _)).trans (State.settlePort_kept _)

/-- The Source Monitor after a row, but for the concealment states (R19, R24, R25, R31). -/
theorem State.row_sources (s : State) :
    s.row.sources = { s.sources.advance with conceal := s.row.sources.conceal } := by
  have hrow := s.row_kept.sources
  have hsamples : s.takeDue.rowTimers.rowSamples.sources
      = { s.takeDue.sources.advance with conceal := s.takeDue.rowTimers.rowSamples.sources.conceal } := rfl
  rw [hrow, hsamples, s.takeDue_sources]
  rfl

theorem State.row_record {n : Nat} {r : SourceRecord} (h : s.sources.records[n]? = some r) :
    s.row.sources.records[n]? = some r.row := by
  rw [s.row_sources]
  show (s.sources.records.map SourceRecord.row)[n]? = _
  rw [List.getElem?_map, h]
  rfl

/-- Settles O31: the row counter and the generator by their advance, each source by R25's table. -/
theorem sourcesInARow : Obligations.SourcesInARow := by
  intro s
  refine ⟨s.row, rfl, ?_⟩
  have hsources := s.row_sources
  refine ⟨by rw [hsources]; rfl, ?_, by rw [hsources]; rfl, ?_, ?_, fun n r hr => ⟨_, State.row_record hr, ?_⟩⟩
  · rw [hsources]
    exact decide_eq_true_iff
  · rw [hsources]
    show s.sources.generator.advance = _
    unfold Generator.advance
    split
    · rfl
    · split <;> rfl
  · rw [hsources]
    exact List.length_map _
  · exact ⟨r.row_fifo, SourceRecord.row_noFrame, SourceRecord.row_acquires, SourceRecord.row_acquireLost,
      SourceRecord.row_acquireCounts, SourceRecord.row_becomesPresent, SourceRecord.row_supplied,
      SourceRecord.row_missed, SourceRecord.row_lapses⟩

/-- Settles O32: where its condition holds a named row is the row event, and R25's table and the generator's advance say
what it makes. -/
theorem namedRowEvents : Obligations.NamedRowEvents := by
  intro s n r hr
  refine ⟨fun hp hf hc => ?_, fun hp hf hc => ?_, fun hc => ?_⟩
  · have hname : exec (.sourceLapse n) s = .next s.row := by
      have hnext : s.lapsesNext n = true := by simp [State.lapsesNext, hr, hp, hf, hc]
      exact congrArg _ (if_pos hnext)
    have hrow : s.row.sources.records[n]? = some r.row := State.row_record hr
    refine ⟨hname, _, hname, by rw [hrow, SourceRecord.row_lapses hp hf hc], ?_⟩
    exact List.any_eq_true.mpr ⟨r.row, List.mem_of_getElem? hrow, by simp [SourceRecord.row_lapses hp hf hc]⟩
  · have hname : exec (.sourceAcquired n) s = .next s.row := by
      have hnext : s.acquiresNext n = true := by
        have hgoal : Config.acquireGoal ≤ r.acquire + 1 := hc
        simp [State.acquiresNext, hr, hp, hf, hgoal]
      exact congrArg _ (if_pos hnext)
    exact ⟨hname, _, hname, (State.row_record hr).trans (congrArg some (SourceRecord.row_becomesPresent hp hf hc))⟩
  · have hname : exec .generatorLevelStep s = .next s.row := by
      have hnext : s.levelStepNext = true := decide_eq_true hc
      exact congrArg _ (if_pos hnext)
    have hstep : s.row.sources.generator = { s.sources.generator with
        position := 0
        index := if s.sources.generator.index + 1 < s.sources.generator.levels.length
          then s.sources.generator.index + 1 else 0 } := by
      rw [s.row_sources]
      exact if_neg (Nat.not_lt_of_le hc)
    exact ⟨hname, _, hname, by rw [hstep], by rw [hstep]⟩

end Row

/-! ## Concealment -/

section Conceal

variable {c : Conceal}

/-- A concealed row in FADE, at a fade position counted up to 64 (R29). -/
theorem Conceal.conceal_fade_at (x : Int) (j : Nat) : Conceal.conceal ⟨x, min j 64⟩ .fade
    = ⟨(x * (64 - min (j + 1) 64 : Nat)).tdiv 64, true, ⟨x, min (j + 1) 64⟩⟩ := by
  have hp : (if min j 64 < Config.fadeEnd then min j 64 + 1 else min j 64) = min (j + 1) 64 := by
    unfold Config.fadeEnd
    split <;> omega
  simp only [Conceal.conceal, hp]
  rfl

/-- After `k` concealed rows in FADE the fade position is `k`, and 64 at most (R29). -/
theorem Conceal.fade_iterate (h : c.fade = 0) (k : Nat) :
    (fun x : Conceal => (x.conceal .fade).after)^[k] c = { c with fade := min k 64 } := by
  induction k with
  | zero =>
    show c = ⟨c.held, 0⟩
    rw [← h]
  | succ k ih => rw [Function.iterate_succ_apply', ih, Conceal.conceal_fade_at]

/-- Concealed rows in MUTE leave the held sample. -/
theorem Conceal.mute_iterate_held (k : Nat) :
    ((fun x : Conceal => (x.conceal .mute).after)^[k] c).held = c.held := by
  induction k with
  | zero => rfl
  | succ k ih =>
    rw [Function.iterate_succ_apply']
    exact ih

/-- A fraction of a sample, truncated, lies between 0 and the sample. -/
theorem tdiv_fraction (x : Int) {k : Nat} (hk : k ≤ 64) :
    ((x * k).tdiv 64).natAbs ≤ x.natAbs ∧ (0 ≤ x → 0 ≤ (x * k).tdiv 64)
      ∧ (x ≤ 0 → (x * k).tdiv 64 ≤ 0) := by
  refine ⟨?_, fun hx => Int.tdiv_nonneg (by positivity) (by norm_num), fun hx => ?_⟩
  · rw [Int.natAbs_tdiv, Int.natAbs_mul, Int.natAbs_natCast]
    exact Nat.div_le_of_le_mul (Nat.mul_comm 64 _ ▸ Nat.mul_le_mul_left _ hk)
  · have hneg : 0 ≤ (-(x * k)).tdiv 64 :=
      Int.tdiv_nonneg (by rw [← Int.neg_mul]; exact Int.mul_nonneg (by omega) (by omega)) (by norm_num)
    rw [Int.neg_tdiv] at hneg
    omega

/-- Settles O33: the fade position after each row, and what a row at that position gives. -/
theorem concealedRowsFade : Obligations.ConcealedRowsFade := by
  intro c j hc after row
  have hafter : after .fade j = { c with fade := min j 64 } := Conceal.fade_iterate hc j
  have hrow : row = ⟨(c.held * (64 - min (j + 1) 64 : Nat)).tdiv 64, true, ⟨c.held, min (j + 1) 64⟩⟩ := by
    show (after .fade j).conceal .fade = _
    rw [hafter, Conceal.conceal_fade_at]
  obtain ⟨habs, hpos, hneg⟩ := tdiv_fraction c.held (k := 64 - min (j + 1) 64) (Nat.sub_le _ _)
  rw [hrow]
  refine ⟨fun hj => ?_, fun hj => ?_, rfl, rfl, habs, hpos, hneg, ?_⟩
  · rw [Nat.min_eq_left hj]
    exact ⟨by rw [Nat.cast_sub hj]; rfl, rfl⟩
  · rw [Nat.min_eq_right (by omega)]
    simp
  · have hheld : (after .mute j).held = c.held := Conceal.mute_iterate_held j
    refine ⟨rfl, rfl, ?_⟩
    show Conceal.mk (after .mute j).held Config.fadeEnd = _
    rw [hheld]
    rfl

end Conceal

end Sys2Proof.Machine
end

section
/-!
The Source Monitor's requests and the reads of the sample path (R32 to R35, R54, R157, R168, R178): each served block is
its refusal, or its one change of the state with the answer.
-/

namespace Sys2Proof.Machine

/-! ## Services of one request -/

/-- What a service refuses. -/
theorem Served.completes_refused {s : State} {c : RequestCode} {e : Entry} {block : Entry → State → State}
    (h : Served s c e) (st : Status) (hb : block e (s.activate e.arrival) = (s.activate e.arrival).refuse e st) :
    Completes (.next (s.serve c block)) (Ends s e st []) :=
  ⟨_, by rw [exec_serve block h, hb], h.refused st⟩

/-- What a service answers at once, with a change `v` of the state. -/
theorem Served.completes_done {s u v : State} {c : RequestCode} {e : Entry} {ws : List Word}
    {block : Entry → State → State} (h : Served s c e) (hb : block e (s.activate e.arrival) = v.done e ws)
    (hv : v = { u with requests := { u.requests with entries := (s.activate e.arrival).requests.entries } })
    (hu : u.requests.entries = s.requests.entries) : Completes (.next (s.serve c block)) (Ends u e .done ws) :=
  ⟨_, by rw [exec_serve block h, hb]; rfl, h.complete_ends hv hu .done ws⟩

/-! ## GEN_LOAD, SOURCE_CLEAR and SOURCE_CONFIG -/

section Sources

variable {s : State} {e : Entry}

theorem modify_eq_set_getD {α : Type} (xs : List α) (n : Nat) (d : α) (f : α → α) :
    xs.modify n f = xs.set n (f (xs.getD n d)) := by
  refine List.ext_getElem? fun k => ?_
  rw [List.getElem?_modify, List.getElem?_set]
  by_cases hk : n = k
  · subst hk
    by_cases hn : n < xs.length <;> simp [hn]
  · simp [hk]

/-- A word in the sample range is the sample in its low 24 bits (R22, R32). -/
theorem sampleOf_eq_toInt {w : Word} (hlo : -8388608 ≤ w.toInt) (hhi : w.toInt ≤ 8388607) :
    sampleOf w = w.toInt := by
  have h24 : (w.setWidth 24).toNat = w.toNat % 2 ^ 24 := BitVec.toNat_setWidth ..
  have hw : w.toNat < 2 ^ 32 := w.isLt
  rw [sampleOf, BitVec.toInt_eq_toNat_cond, h24]
  rw [BitVec.toInt_eq_toNat_cond] at hlo hhi ⊢
  split at hlo <;> split <;> simp_all <;> omega

theorem isSample_iff {w : Word} : isSample w = true ↔ -8388608 ≤ w.toInt ∧ w.toInt ≤ 8388607 := by
  simp [isSample]

theorem serveGenLoad_bad (hbad : e.operands.length < 1 + field (e.op 0) 7 0 ∨ field (e.op 0) 7 0 < 2
      ∨ 16 < field (e.op 0) 7 0 ∨ field (e.op 0) 31 16 = 0 ∨ ∃ w ∈ e.levels, ¬ isSample w = true)
    (hc : e.code = .genLoad) (s : State) : serveGenLoad e s = s.refuse e .badOperand := by
  refine if_pos ?_
  simp only [Entry.short, Entry.required, hc, Bool.or_eq_true, decide_eq_true_eq, Bool.not_eq_true',
    List.all_eq_false]
  tauto

theorem serveGenLoad_good (hlen : 1 + field (e.op 0) 7 0 ≤ e.operands.length) (h2 : 2 ≤ field (e.op 0) 7 0)
    (h16 : field (e.op 0) 7 0 ≤ 16) (hhold : field (e.op 0) 31 16 ≠ 0)
    (hlevels : ∀ w ∈ e.levels, isSample w = true) (hc : e.code = .genLoad) (s : State) :
    serveGenLoad e s = State.done { s with sources := { s.sources with
      generator := ⟨e.levels.map sampleOf, field (e.op 0) 31 16, 0, 0⟩ } } e [] := by
  refine if_neg ?_
  simp only [Entry.short, Entry.required, hc, Bool.or_eq_true, decide_eq_true_eq, Bool.not_eq_true',
    List.all_eq_false]
  rintro ((((h | h) | h) | h) | ⟨w, hw, h⟩)
  · omega
  · omega
  · omega
  · exact hhold h
  · exact h (hlevels w hw)

/-- A request that names a stage source is refused where a word is missing or there is no such source (R33, R34). -/
theorem source_bad {k : Nat} (hr : e.required = k)
    (hbad : e.operands.length < k ∨ 16 ≤ field (e.op 0) 31 16) :
    (e.short || decide (Config.stageSources ≤ field (e.op 0) 31 16)) = true := by
  simp only [Entry.short, hr, Bool.or_eq_true, decide_eq_true_eq]
  exact hbad

theorem source_good {k : Nat} (hr : e.required = k) (hlen : k ≤ e.operands.length)
    (hn : field (e.op 0) 31 16 < 16) :
    ¬ (e.short || decide (Config.stageSources ≤ field (e.op 0) 31 16)) = true := by
  simp only [Entry.short, hr, Bool.or_eq_true, decide_eq_true_eq, not_or, Nat.not_lt]
  exact ⟨hlen, Nat.not_le_of_lt hn⟩

/-- The value a clamp gives, as the nearer of its ends. -/
theorem clampNat_eq {lo hi : Nat} (h : lo ≤ hi) (n : Nat) : clampNat lo hi n = max lo (min n hi) := by
  unfold clampNat
  split
  · omega
  split <;> omega

/-- Settles O42: each request by its tests. -/
theorem sourceRequestsTakeHold : Obligations.SourceRequestsTakeHold := by
  intro s e _ n put r
  refine ⟨fun h => ⟨fun hbad => ?_, fun hlen hn => ?_⟩, fun h => ⟨fun hbad => ?_, fun hlen hn => ?_⟩,
    fun h => ?_⟩
  · exact h.completes_refused _ (if_pos (source_bad (by simp [Entry.required, h.2.1]) hbad))
  · refine h.completes_done (u := put { limit := r.limit })
      (if_neg (source_good (by simp [Entry.required, h.2.1]) hlen hn)) ?_ rfl
    rw [SourceMonitor.mapRecord, modify_eq_set_getD _ _ {}]
    rfl
  · exact h.completes_refused _ (if_pos (source_bad (by simp [Entry.required, h.2.1]) hbad))
  · refine h.completes_done (u := put { r with limit := max 1 (min (e.op 1).toNat 255) })
      (if_neg (source_good (by simp [Entry.required, h.2.1]) hlen hn)) ?_ rfl
    rw [SourceMonitor.mapRecord, modify_eq_set_getD _ _ {}, clampNat_eq (by decide)]
    rfl
  · intro count levels isLevel
    refine ⟨fun hbad => h.completes_refused _ (serveGenLoad_bad ?_ h.2.1 _), fun hlen h2 h16 hhold hlevels => ?_⟩
    · simp only [isSample_iff]
      exact hbad
    · have hall : ∀ w ∈ e.levels, isSample w = true := fun w hw => isSample_iff.mpr (hlevels w hw)
      refine h.completes_done (serveGenLoad_good hlen h2 h16 hhold hall h.2.1 _) ?_ rfl
      have hsamples : e.levels.map sampleOf = levels.map BitVec.toInt :=
        List.map_congr_left fun w hw => sampleOf_eq_toInt (hlevels w hw).1 (hlevels w hw).2
      rw [hsamples]
      rfl

end Sources

/-! ## The reads of the sample path -/

section Reads

variable {s : State} {e : Entry}

/-- The range a read refuses: a word missing, or records that are not there (R35, R54, R178). -/
theorem readRange_iff {ends most : Nat} (hr : e.required = 1) :
    (e.short || decide (ends ≤ field (e.op 0) 31 16) || decide (field (e.op 0) 15 8 = 0)
      || decide (most < field (e.op 0) 15 8)
      || decide (ends < field (e.op 0) 31 16 + field (e.op 0) 15 8)) = true
    ↔ e.operands.length < 1 ∨ ends ≤ field (e.op 0) 31 16 ∨ field (e.op 0) 15 8 = 0
      ∨ most < field (e.op 0) 15 8 ∨ ends < field (e.op 0) 31 16 + field (e.op 0) 15 8 := by
  simp only [Entry.short, hr, Bool.or_eq_true, decide_eq_true_eq, or_assoc]

theorem clearRange_getD (ns : List Nat) (first count k : Nat) :
    (clearRange ns first count).getD k 0
      = if decide (first ≤ k ∧ k < first + count) then 0 else ns.getD k 0 := by
  by_cases hk : k < ns.length <;> simp [clearRange, List.getD_eq_getElem?_getD, hk]

theorem clearOvers_getD {ms : List TrackMeter} (first count : Nat) {k : Nat} (hk : k < ms.length) :
    (clearOvers ms first count).getD k {}
      = if decide (first ≤ k ∧ k < first + count) then { ms.getD k {} with overs := 0 } else ms.getD k {} := by
  simp [clearOvers, List.getD_eq_getElem?_getD, hk]

/-- The clear option of a read: the marked range is changed, and nothing without the option. -/
theorem if_and_of_eq {α β : Type} (f : α → β) (b c : Bool) {x y : α} {z : β}
    (h : f y = if c then z else f x) : f (if b then y else x) = if b && c then z else f x := by
  cases b <;> simp [h]

theorem Route.words_eq (r : Route) : r.words = [boolWord r.enabled, natWord r.source, natWord r.slot,
    boolWord r.archive, if r.mode = .mute then 0 else 1, if r.polarity = .normal then 0 else 1,
    natWord r.delay, natWord r.trim, natWord (r.filter.getD 0), natWord r.maxOrder] := by
  unfold Route.words
  cases r.mode <;> cases r.polarity <;> rfl

theorem SourceRecord.words_eq (r : SourceRecord) : r.words = [match r.presence with
      | .absent => 0
      | .acquiring => 1
      | .present => 2
      | .lapsed => 3,
    natWord r.acquire, natWord r.misses, natWord r.limit, natWord r.fifo.length,
    (r.lastSeq.map natWord).getD 0xFFFFFFFF, natWord r.accepted, natWord r.duplicates,
    natWord r.overruns, natWord r.gaps, natWord r.malformed, natWord r.lapses] := by
  unfold SourceRecord.words
  cases r.presence <;> cases r.lastSeq <;> rfl

/-- The words SOURCE_READ gives of a source: the generator at 16 (R35). -/
theorem SourceMonitor.recordWords_eq (m : SourceMonitor) (k : Nat) :
    m.recordWords k =
      let g := m.generator
      let r := m.records.getD k {}
      if k = 16 then [natWord g.levels.length, natWord g.hold, natWord g.index, natWord g.position]
        ++ g.levels.map intWord
      else [match r.presence with
          | .absent => 0
          | .acquiring => 1
          | .present => 2
          | .lapsed => 3,
        natWord r.acquire, natWord r.misses, natWord r.limit, natWord r.fifo.length,
        (r.lastSeq.map natWord).getD 0xFFFFFFFF, natWord r.accepted, natWord r.duplicates,
        natWord r.overruns, natWord r.gaps, natWord r.malformed, natWord r.lapses] := by
  rw [SourceMonitor.recordWords, SourceRecord.words_eq]
  rfl

theorem BusMode.natWord_code (m : BusMode) :
    natWord m.code = if m = .disabled then (1 : Word) else if m = .m16 then 2 else 3 := by
  cases m <;> rfl

/-- The words STREAM_READ gives of a bus (R168). -/
theorem StreamBus.words_eq (b : StreamBus) :
    let code := fun m : BusMode => if m = .disabled then (1 : Word) else if m = .m16 then 2 else 3
    b.words = [code b.mode, code b.next, natWord b.seq, boolWord b.gap, natWord b.drops] := by
  rw [StreamBus.words, BusMode.natWord_code, BusMode.natWord_code]

theorem State.glideRow_none (h : s.mix.glideStart = none) :
    s.glideRow = 0xFFFFFFFF ∧ s.glideUnformed = false := by
  simp [State.glideRow, State.glideUnformed, h, Word.ones]

theorem State.glideRow_formed (h : s.mix.glideStart ≠ none)
    (hf : ¬ (s.sources.rowCounter % 32 = 0 ∧ s.sources.boundaryDue = false) ∨ s.mix.rowGlided = true) :
    s.glideRow = natWord ((s.sources.rowCounter + 31) % 32) ∧ s.glideUnformed = false := by
  have hun : s.glideUnformed = false := by
    refine Bool.eq_false_iff.mpr fun hu => ?_
    simp only [State.glideUnformed, Bool.and_eq_true, decide_eq_true_eq, Bool.not_eq_true'] at hu
    obtain ⟨⟨⟨-, hrow⟩, hdue⟩, hglided⟩ := hu
    exact hf.elim (fun hf => hf ⟨hrow, hdue⟩) fun hf => by simp [hglided] at hf
  refine ⟨?_, hun⟩
  rw [State.glideRow, hun, Option.isSome_iff_ne_none.mpr h]
  rfl

theorem State.glideRow_le (h : s.mix.glideStart ≠ none) : s.glideRow.toNat ≤ 31 := by
  have hsmall (n : Nat) : (natWord (n % Config.mixRows)).toNat ≤ 31 := by
    unfold natWord Config.mixRows
    rw [BitVec.toNat_ofNat]
    omega
  unfold State.glideRow
  split
  · exact hsmall _
  · rw [Option.isSome_iff_ne_none.mpr h]
    exact hsmall _

/-- A request's end leaves the free numbers where its service left them. -/
theorem Ends.freeCount {u t : State} {st : Status} {ws : List Word} (h : Ends u e st ws t) :
    t.freeCount = u.freeCount := by rw [h.1]

/-- The run of a bank that is refused (R147, R157). -/
theorem Entry.badRun_iff : e.badRun = true ↔ 128 ≤ field (e.op 0) 31 16 ∨ 8 ≤ field (e.op 0) 15 8
    ∨ field (e.op 0) 7 0 = 0 ∨ 32 < field (e.op 0) 7 0
    ∨ 1024 < 8 * field (e.op 0) 31 16 + field (e.op 0) 15 8 + field (e.op 0) 7 0 := by
  simp only [Entry.badRun, Bool.or_eq_true, decide_eq_true_eq, or_assoc]
  rfl

/-- What a MIX_READ is refused for (R157). -/
theorem mixRead_iff (hc : e.code = .mixRead) :
    (e.short || (field (e.op 1) 3 0 ≠ 1 && field (e.op 1) 3 0 ≠ 2) || e.badRun) = true
    ↔ e.operands.length < 2 ∨ ¬ (field (e.op 1) 3 0 = 1 ∨ field (e.op 1) 3 0 = 2)
      ∨ 128 ≤ field (e.op 0) 31 16 ∨ 8 ≤ field (e.op 0) 15 8 ∨ field (e.op 0) 7 0 = 0
      ∨ 32 < field (e.op 0) 7 0 ∨ 1024 < 8 * field (e.op 0) 31 16 + field (e.op 0) 15 8 + field (e.op 0) 7 0 := by
  simp only [Bool.or_eq_true, Bool.and_eq_true, Entry.badRun_iff, Entry.short, Entry.required, hc,
    decide_eq_true_eq, not_or, or_assoc]

/-- A served MIX_READ: the words of the state, and no change but the cleared counts (R157). -/
theorem serveMixRead_good
    (hgood : ¬ (e.short || (field (e.op 1) 3 0 ≠ 1 && field (e.op 1) 3 0 ≠ 2) || e.badRun) = true) (s : State) :
    serveMixRead e s = State.done { s with
      freeCount := s.freeCount + s.glideUnformed.toNat
      mix := { s.mix with clips := if bitSet (e.op 1) 8 then List.replicate 8 0 else s.mix.clips } } e
      (boolWord s.mix.swapArmed :: s.glideRow :: s.mix.clips.map natWord
        ++ (((if field (e.op 1) 3 0 = 1 then s.mix.active else s.mix.pendingBank).drop
          (8 * field (e.op 0) 31 16 + field (e.op 0) 15 8)).take (field (e.op 0) 7 0)).map intWord) := by
  refine (if_neg hgood).trans ?_
  dsimp only
  split <;> rfl

theorem serveTrackRead_good
    (hgood : ¬ (e.short || decide (128 ≤ field (e.op 0) 31 16) || decide (field (e.op 0) 15 8 = 0)
      || decide (4 < field (e.op 0) 15 8)
      || decide (128 < field (e.op 0) 31 16 + field (e.op 0) 15 8)) = true) (s : State) :
    serveTrackRead e s = State.done { s with
        tracks := { s.tracks with
          saturations := if bitSet (e.op 0) 0 then
              clearRange s.tracks.saturations (field (e.op 0) 31 16) (field (e.op 0) 15 8)
            else s.tracks.saturations } } e
      (natWord (poolCount s.tracks.routes)
        :: (List.range' (field (e.op 0) 31 16) (field (e.op 0) 15 8)).flatMap s.trackWords) := by
  refine (if_neg hgood).trans ?_
  dsimp only
  split <;> rfl

theorem serveMeterRead_good
    (hgood : ¬ (e.short || decide (136 ≤ field (e.op 0) 31 16) || decide (field (e.op 0) 15 8 = 0)
      || decide (8 < field (e.op 0) 15 8)
      || decide (136 < field (e.op 0) 31 16 + field (e.op 0) 15 8)) = true) (s : State) :
    serveMeterRead e s = State.done { s with
        meter := { s.meter with
          tracks := if bitSet (e.op 0) 0 then
              clearOvers s.meter.tracks (field (e.op 0) 31 16) (field (e.op 0) 15 8)
            else s.meter.tracks } } e
      (natWord (windowLength s.rate) :: natWord s.meter.windowCounter
        :: (List.range' (field (e.op 0) 31 16) (field (e.op 0) 15 8)).flatMap s.meter.words) := by
  refine (if_neg hgood).trans ?_
  dsimp only
  split <;> rfl

/-- The words TRACK_READ gives of a track (R54). -/
theorem State.trackWords_eq (k : Nat) :
    let r := (s.track k).route
    s.trackWords k = [boolWord r.enabled, natWord r.source, natWord r.slot, boolWord r.archive,
      if r.mode = .mute then 0 else 1, if r.polarity = .normal then 0 else 1,
      natWord r.delay, natWord r.trim, natWord (r.filter.getD 0), natWord r.maxOrder,
      boolWord (s.liveSet.contains k), natWord (s.track k).saturations] := by
  rw [State.trackWords, Route.words_eq]
  rfl

end Reads

/-- Settles O45: each read by its range and its words; the clear options are lists of the same length. -/
theorem samplePathReads : Obligations.SamplePathReads := by
  intro s e hsized first count bad inRange range
  obtain ⟨-, -, -, -, -, -, hsat, -, -, -, -, hovers, -⟩ := hsized
  refine ⟨fun h => ?_, fun h => ?_, fun h => ?_, fun h => ?_, fun h => ?_⟩
  · have hr : e.required = 1 := by simp [Entry.required, h.2.1]
    refine ⟨fun hbad => h.completes_refused _ (if_pos ((readRange_iff hr).mpr hbad)), fun hgood => ?_⟩
    have htest := mt (readRange_iff hr).mp hgood
    obtain ⟨t, ht, hends⟩ := h.completes_done (u := { s with
        tracks := { s.tracks with
          saturations := if bitSet (e.op 0) 0 then clearRange s.tracks.saturations first count
            else s.tracks.saturations } })
      (serveTrackRead_good htest _) rfl rfl
    rw [List.flatMap_congr fun k _ => State.trackWords_eq k] at hends
    refine ⟨t, ht, _, hends, ?_, fun k _ => ?_⟩
    · split <;> simp [hsat]
    · exact if_and_of_eq (fun ns : List Nat => ns.getD k 0) _ _ (clearRange_getD _ first count k)
  · have hr : e.required = 1 := by simp [Entry.required, h.2.1]
    refine ⟨fun hbad => h.completes_refused _ (if_pos ((readRange_iff hr).mpr hbad)), fun hgood => ?_⟩
    refine h.completes_done (u := s) (if_neg (mt (readRange_iff hr).mp hgood) |>.trans ?_) rfl rfl
    rw [State.activate_sources, List.flatMap_congr fun k _ => s.sources.recordWords_eq k]
    rfl
  · refine h.completes_done (u := s) ?_ rfl rfl
    exact congrArg _ (List.flatMap_congr fun b _ => b.words_eq)
  · have hr : e.required = 1 := by simp [Entry.required, h.2.1]
    refine ⟨fun hbad => h.completes_refused _ (if_pos ((readRange_iff hr).mpr hbad)), fun hgood => ?_⟩
    have htest := mt (readRange_iff hr).mp hgood
    obtain ⟨t, ht, hends⟩ := h.completes_done (u := { s with
        meter := { s.meter with
          tracks := if bitSet (e.op 0) 0 then clearOvers s.meter.tracks first count else s.meter.tracks } })
      (serveMeterRead_good htest _) rfl rfl
    refine ⟨t, ht, _, hends, ?_, fun k hk => ?_⟩
    · split <;> simp [hovers]
    · exact if_and_of_eq (fun ms : List TrackMeter => ms.getD k {}) _ _
        (clearOvers_getD first count (by rw [hovers]; exact hk))
  · refine ⟨fun hbad => h.completes_refused _ (if_pos ((mixRead_iff h.2.1).mpr hbad)), fun hgood => ?_⟩
    obtain ⟨t, ht, hends⟩ := h.completes_done (u := { s with
        freeCount := s.freeCount + s.glideUnformed.toNat
        mix := { s.mix with clips := if bitSet (e.op 1) 8 then List.replicate 8 0 else s.mix.clips } })
      (serveMixRead_good (mt (mixRead_iff h.2.1).mp hgood) _) rfl rfl
    have hfree : t.freeCount = s.freeCount + s.glideUnformed.toNat := hends.freeCount
    refine ⟨t, ht, s.glideRow, by rw [hfree]; exact hends, fun hg => ?_, fun hg hf => ?_,
      State.glideRow_le⟩
    · obtain ⟨hrow, hun⟩ := State.glideRow_none hg
      exact ⟨hrow, by simp [hfree, hun]⟩
    · obtain ⟨hrow, hun⟩ := State.glideRow_formed hg hf
      exact ⟨hrow, by simp [hfree, hun]⟩

end Sys2Proof.Machine
end

section
/-!
A row while nothing is due (R18, R26 to R29, R39 to R49, R57, R171, R174): what it does to each track, and what it
leaves unchanged.
-/

namespace Sys2Proof.Machine

/-! ## A row with nothing due -/

section Row

variable {s : State}

/-- Where nothing is due, no command comes before the row (log 2). -/
theorem State.takeDue_of_nothingDue (h : s.NothingDue) : s.takeDue = s := by
  obtain ⟨hboundary, hwindow, hhold, hport⟩ := h
  have h1 : s.takeWindowEnd = s := if_neg (by simp [State.windowDue, hwindow])
  have h2 : s.takeBoundary = s := by
    simp [State.takeBoundary, State.mixDue, State.archiveDue, hboundary]
  have h3 : s.takeHoldExpiry = s := if_neg (by simpa [State.holdDue] using hhold)
  have h4 : s.takeExpiry = s := by
    have hexpired : s.expired = none := by
      unfold State.expired
      split
      · rename_i j hj
        exact if_neg (Nat.not_le_of_lt (hport j hj))
      · rfl
    simp only [State.takeExpiry, hexpired]
  rw [State.takeDue, h1, h2, h3, h4]

theorem State.row_of_nothingDue (h : s.NothingDue) :
    s.row = s.rowTimers.rowSamples.mountStart.settlePort := by
  rw [State.row, State.takeDue_of_nothingDue h]

/-- The sample path after a row with nothing due is as the samples of the row leave it. -/
theorem State.row_kept_of_nothingDue (h : s.NothingDue) : SampleKept s.rowTimers.rowSamples s.row := by
  have hrow := s.row_kept
  rwa [State.takeDue_of_nothingDue h] at hrow

theorem State.allTracks_getElem? {n : Nat} (hn : n < 128) : s.allTracks[n]? = some (s.track n) := by
  simp [State.allTracks, Config.tracks, hn]

/-- What track `n` gives in a row (R39). -/
theorem State.trackRow_getElem? {n : Nat} (hn : n < 128) (row : InputRow) :
    (s.trackRow row).2[n]? = some ((s.track n).rowIf row).2 := by
  simp [State.trackRow, State.allTracks_getElem? hn]

/-- Track `n` after a row: its own row, whatever the other tracks do. -/
theorem State.rowSamples_track {n : Nat} (hn : n < 128) :
    s.rowSamples.track n = ((s.track n).rowIf s.sources.inputRow).1 := by
  have hpart : ((s.allTracks.map fun p => p.rowIf s.sources.inputRow).map Prod.fst)[n]?
      = some ((s.track n).rowIf s.sources.inputRow).1 := by
    simp [State.allTracks_getElem? hn]
  have hfield {α : Type} (f : TrackParts → α) (d : α) :
      (((s.allTracks.map fun p => p.rowIf s.sources.inputRow).map Prod.fst).map f).getD n d
        = f ((s.track n).rowIf s.sources.inputRow).1 := by
    rw [List.getD_eq_getElem?_getD, List.getElem?_map, hpart]
    rfl
  exact TrackParts.mk.injEq .. ▸ ⟨hfield _ _, hfield _ _, hfield _ _, hfield _ _, hfield _ _, hfield _ _⟩

theorem zip_map_getD {α β γ : Type} {as : List α} {bs : List β} {n : Nat} {b : β} (hn : n < as.length)
    (hb : bs[n]? = some b) (f : α × β → γ) (d : α) (d' : γ) :
    ((as.zip bs).map f).getD n d' = f (as.getD n d, b) := by
  have hzip : (as.zip bs)[n]? = some (as.getD n d, b) :=
    List.getElem?_zip_eq_some.mpr ⟨by simp [List.getD_eq_getElem?_getD, hn], hb⟩
  rw [List.getD_eq_getElem?_getD, List.getElem?_map, hzip]
  rfl

/-- The value a track's meter measures (R171). -/
theorem meterValues_getElem? {xs : List (Option TrackSample)} {n : Nat} {x : Option TrackSample}
    (h : xs[n]? = some x) (ys : List Int) :
    (meterValues xs ys)[n]? = some ((x.map TrackSample.conditioned).getD 0) := by
  have hlt := (List.getElem?_eq_some_iff.mp h).1
  rw [meterValues, List.getElem?_append_left (by simpa using hlt), List.getElem?_map, h]
  rfl

/-- The meter of track `n` after a row measures what the track gives, and 0 where it gives nothing (R171). -/
theorem State.rowSamples_level {n : Nat} (hs : s.Sized) (hn : n < 128) :
    s.rowSamples.meter.levels.getD n {} = (s.meter.levels.getD n {}).measure
      ((((s.track n).rowIf s.sources.inputRow).2.map TrackSample.conditioned).getD 0) := by
  obtain ⟨-, -, -, -, -, -, -, -, -, -, hlevels, -⟩ := hs
  refine zip_map_getD (as := s.meter.levels) (by omega) ?_ _ _ _
  exact meterValues_getElem? (s.trackRow_getElem? hn s.sources.inputRow) _

/-- The over count of track `n` after a row (R174). -/
theorem State.rowSamples_overs {n : Nat} (hs : s.Sized) (hn : n < 128) :
    s.rowSamples.meter.tracks.getD n {} = (s.meter.tracks.getD n {}).overTest s.meter.overLevel
      ((s.track n).rowIf s.sources.inputRow).2 := by
  obtain ⟨-, -, -, -, -, -, -, -, -, -, -, hmeters, -⟩ := hs
  exact zip_map_getD (as := s.meter.tracks) (by omega) (s.trackRow_getElem? hn s.sources.inputRow) _ _ _

end Row

/-! ## The path of one track -/

section Track

variable {p : TrackParts} {row : InputRow}

theorem TrackParts.rowIf_disabled (h : p.route.enabled = false) : p.rowIf row = (p, none) := by
  simp [TrackParts.rowIf, h]

theorem TrackParts.rowIf_enabled (h : p.route.enabled = true) :
    p.rowIf row = ((p.row row).1, some (p.row row).2) := by
  simp [TrackParts.rowIf, h]

theorem TrackParts.rowIf_route (p : TrackParts) (row : InputRow) : (p.rowIf row).1.route = p.route := by
  unfold TrackParts.rowIf
  split <;> rfl

/-- What a stage source supplies in a row (R26). -/
theorem SourceMonitor.supplied_getD (m : SourceMonitor) (k : Nat) :
    m.inputRow.supplied.getD k none = (m.records.getD k {}).supplies :=
  List.getD_map m.records {} SourceRecord.supplies

/-- The raw sample of a track whose source supplies a frame (R28). -/
theorem Conceal.raw_supplied {c : Conceal} {r : Route} {f : SampleFrame} (h : r.source < 16)
    (hf : row.supplied.getD r.source none = some f) : c.raw r row
      = if r.slot < f.samples.length then ⟨f.samples.getD r.slot 0, false, ⟨f.samples.getD r.slot 0, 0⟩⟩
        else ⟨0, true, ⟨c.held, 64⟩⟩ := by
  have hgen : r.source ≠ Config.generatorSource := Nat.ne_of_lt h
  simp only [Conceal.raw, if_neg hgen, hf]
  rfl

/-- The raw sample of a track whose source supplies nothing (R29). -/
theorem Conceal.raw_missing {c : Conceal} {r : Route} (h : r.source < 16)
    (hf : row.supplied.getD r.source none = none) : c.raw r row
      = let k := if c.fade < 64 then c.fade + 1 else c.fade
        if r.mode = .mute then ⟨0, true, ⟨c.held, 64⟩⟩
        else ⟨(c.held * (64 - k : Nat)).tdiv 64, true, ⟨c.held, k⟩⟩ := by
  have hgen : r.source ≠ Config.generatorSource := Nat.ne_of_lt h
  simp only [Conceal.raw, if_neg hgen, hf]
  cases r.mode <;> rfl

/-- The polarity step (R42, R49). -/
theorem polarityStep_eq (q : Polarity) (x : Int) : polarityStep q x
    = ⟨if q = .invert then saturate (-x) else x, decide (q = .invert ∧ saturate (-x) ≠ -x)⟩ := by
  cases q <;> simp [polarityStep, stepped]

/-- The delay line after a row (R43). -/
theorem delayLine_eq (line : List Int) (x : Int) :
    delayLine line x = if line = [] then [] else line.tail ++ [x] := by
  cases line <;> rfl

/-- The exact sum of a filter, and its input where there is none (R47). -/
def filterExact (filter : Option Nat) (f : FilterState) (x : Int) : Int :=
  match filter with
  | none => x
  | some k => x - f.xPrev + f.yPrev - f.yPrev.fdiv (2 ^ k)

theorem filterSum_eq (k : Nat) (f : FilterState) (x : Int) :
    filterSum k f x = x - f.xPrev + f.yPrev - f.yPrev.fdiv (2 ^ k) := by
  rw [filterSum, Int.fdiv_eq_ediv_of_nonneg _ (by positivity)]
  norm_cast

theorem filterStep_eq (filter : Option Nat) (f : FilterState) (x : Int) : filterStep filter f x
    = ⟨if filter = none then x else saturate (filterExact filter f x),
      decide (filter ≠ none ∧ saturate (filterExact filter f x) ≠ filterExact filter f x)⟩ := by
  cases filter <;> simp [filterStep, stepped, filterExact, filterSum_eq]

theorem filterAfter_eq (filter : Option Nat) (f : FilterState) (x : Int) : filterAfter filter f x
    = if filter = none then f else ⟨x, saturate (filterExact filter f x)⟩ := by
  cases filter <;> simp [filterAfter, filterExact, filterSum_eq]

/-- The row of an enabled track, from the outputs of its steps. -/
theorem TrackParts.row_of_steps {raw : Raw} {a c d : Stepped} (hraw : p.conceal.raw p.route row = raw)
    (ha : polarityStep p.route.polarity raw.sample = a) (hc : trimStep p.route.trim (delayOut p.line a.value) = c)
    (hd : filterStep p.route.filter p.filter c.value = d) : p.row row = ({ p with
        conceal := raw.after
        line := delayLine p.line a.value
        filter := filterAfter p.route.filter p.filter c.value
        mark := ⟨p.mark.marked || p.mark.firstRowDue, false⟩
        saturations := if a.saturated || c.saturated || d.saturated then countUp p.saturations 1
          else p.saturations },
      ⟨raw.sample, raw.concealed, d.value⟩) := by
  subst hraw ha hc hd
  rfl

/-- The row of an enabled track, each step at work on the output of the step before (R39, R41 to R47, R49). -/
theorem TrackParts.row_eq (p : TrackParts) (row : InputRow) :
    let raw := p.conceal.raw p.route row
    let a := if p.route.polarity = .invert then saturate (-raw.sample) else raw.sample
    let c := roundDiv (p.line.headD a * p.route.trim) (2 ^ 20)
    let fed := saturate c
    let d := filterExact p.route.filter p.filter fed
    let out := if p.route.filter = none then fed else saturate d
    p.row row = ({ p with
        conceal := raw.after
        mark := ⟨p.mark.marked || p.mark.firstRowDue, false⟩
        line := if p.line = [] then [] else p.line.tail ++ [a]
        filter := if p.route.filter = none then p.filter else ⟨fed, out⟩
        saturations := if (p.route.polarity = .invert ∧ saturate (-raw.sample) ≠ -raw.sample) ∨ fed ≠ c
          ∨ (p.route.filter ≠ none ∧ saturate d ≠ d) then countUp p.saturations 1 else p.saturations },
      ⟨raw.sample, raw.concealed, out⟩) := by
  intro raw a c fed d out
  have ha : polarityStep p.route.polarity raw.sample
    = ⟨a, decide (p.route.polarity = .invert ∧ saturate (-raw.sample) ≠ -raw.sample)⟩ := polarityStep_eq ..
  have hc : trimStep p.route.trim (delayOut p.line a) = ⟨fed, decide (fed ≠ c)⟩ := rfl
  have hd : filterStep p.route.filter p.filter fed
    = ⟨out, decide (p.route.filter ≠ none ∧ saturate d ≠ d)⟩ := filterStep_eq ..
  have hafter : filterAfter p.route.filter p.filter fed
      = if p.route.filter = none then p.filter else ⟨fed, out⟩ := by
    rw [filterAfter_eq]
    split
    · rfl
    · rw [show out = saturate d from if_neg ‹_›]
  have hraw : p.conceal.raw p.route row = raw := rfl
  rw [TrackParts.row_of_steps hraw ha hc hd, hafter, delayLine_eq]
  simp only [Bool.or_eq_true, decide_eq_true_eq, or_assoc]

theorem LevelMeter.measure_eq (m : LevelMeter) (v : Int) :
    m.measure v = { m with runPeak := max m.runPeak v.natAbs, runSum := m.runSum + v.natAbs ^ 2 } := by
  rw [LevelMeter.measure, Nat.pow_two]

theorem TrackMeter.overTest_some (m : TrackMeter) (level : Nat) (x : TrackSample) :
    if level ≤ x.raw.natAbs then m.overTest level (some x) = { m with overs := countUp m.overs 1, overMark := true }
    else m.overTest level (some x) = m := by
  split <;> simp [TrackMeter.overTest, meetsOver, *]

end Track

/-- Settles O34: the row of the track's own parts, step by step, and the meter that measures it. -/
theorem trackInARow : Obligations.TrackInARow := by
  intro s n hs hdue hn
  refine ⟨s.row, rfl, ?_⟩
  beta_reduce
  intro p q r raw a b c fed d out m m' o o'
  have hkept := State.row_kept_of_nothingDue hdue
  have hq : q = (p.rowIf s.sources.inputRow).1 := by
    have htrack : q = s.rowTimers.rowSamples.track n := by
      show s.row.track n = _
      rw [State.track, hkept.tracks, hkept.sources]
      rfl
    exact htrack.trans (State.rowSamples_track (s := s.rowTimers) hn)
  have hm : m' = m.measure (((p.rowIf s.sources.inputRow).2.map TrackSample.conditioned).getD 0) := by
    show s.row.meter.levels.getD n {} = _
    rw [hkept.meter]
    exact State.rowSamples_level (s := s.rowTimers) hs hn
  have ho : o' = o.overTest s.meter.overLevel (p.rowIf s.sources.inputRow).2 := by
    show s.row.meter.tracks.getD n {} = _
    rw [hkept.meter]
    exact State.rowSamples_overs (s := s.rowTimers) hs hn
  refine ⟨by rw [hq, TrackParts.rowIf_route], fun hoff => ?_, fun hgen => if_pos hgen,
    fun hstage => ⟨?_, ?_⟩, fun hon => ?_⟩
  · rw [hq, hm, ho, TrackParts.rowIf_disabled hoff]
    refine ⟨rfl, rfl, ?_, rfl⟩
    simp [LevelMeter.measure]
  · intro f fs hpresent hfifo
    refine Conceal.raw_supplied hstage ?_
    rw [SourceMonitor.supplied_getD, SourceRecord.supplies, if_pos hpresent, hfifo]
    rfl
  · intro hmissing
    refine Conceal.raw_missing hstage ?_
    rw [SourceMonitor.supplied_getD, SourceRecord.supplies]
    split
    · rw [hmissing.resolve_left fun hp => hp ‹_›]
      rfl
    · rfl
  · have hrow := p.row_eq s.sources.inputRow
    rw [TrackParts.rowIf_enabled hon] at hq hm ho ⊢
    rw [hq, hm, ho, hrow, LevelMeter.measure_eq]
    refine ⟨rfl, rfl, rfl, rfl, rfl, rfl, rfl, rfl, rfl, ?_⟩
    exact TrackMeter.overTest_some o s.meter.overLevel ⟨raw.sample, raw.concealed, out⟩

end Sys2Proof.Machine
end

section
/-!
What a row leaves unchanged (R18), the eraser's request (R117) and the port's grant (R118).
-/

namespace Sys2Proof.Machine

/-! ## The eraser and the arbiter -/

section Port

variable {s : State}

/-- The eraser rests outside a MOUNTED store, with an erase at the port, or with no DIRTY extent (R117). -/
theorem State.eraser_rests
    (h : s.store.state ≠ .mounted ∨ s.store.eraserBusy = true ∨ s.store.lowestDirty = none) : s.eraser = s := by
  unfold State.eraser
  split
  · rename_i hmounted hidle hdirty
    rcases h with h | h | h
    · exact absurd hmounted h
    · exact Bool.noConfusion (hidle.symm.trans h)
    · exact absurd (hdirty.symm.trans h) (Option.some_ne_none _)
  · rfl

/-- The eraser asks for an erase of the lowest DIRTY extent (R117). -/
theorem State.eraser_asks {e : Nat} (hmounted : s.store.state = .mounted) (hidle : s.store.eraserBusy = false)
    (hdirty : s.store.lowestDirty = some e) : s.eraser = s.submit (.eraserErase e) := by
  simp only [State.eraser, hmounted, hidle, hdirty]

/-- The eraser leaves the operation in flight, and the waiting ones before what it asks for. -/
theorem State.eraser_store (s : State) :
    s.eraser.store.inFlight = s.store.inFlight
      ∧ s.eraser.store.waiting = s.store.waiting ++ s.eraser.store.waiting.drop s.store.waiting.length := by
  unfold State.eraser
  split <;> simp [State.submit]

theorem StoreController.lowestDirty_none {c : StoreController} (h : ∀ y ∈ c.table, y.2.state ≠ .dirty) :
    c.lowestDirty = none := by
  simpa [StoreController.lowestDirty] using h

theorem StoreController.lowestDirty_first {c : StoreController} {pre post : List (Nat × Extent)} {e : Nat} {x : Extent}
    (h : c.table = pre ++ (e, x) :: post) (hx : x.state = .dirty) (hpre : ∀ y ∈ pre, y.2.state ≠ .dirty) :
    c.lowestDirty = some e := by
  have hnone : (pre.find? fun y => y.2.state = .dirty) = none := by simpa using hpre
  simp [StoreController.lowestDirty, h, hnone, hx]

/-- The granted operation stands first in its class, and no lower class has one (R118). -/
theorem nextGrant_of_least {before behind : List PortOp} {op : PortOp} (hbefore : ∀ o ∈ before, op.rank < o.rank)
    (hbehind : ∀ o ∈ behind, op.rank ≤ o.rank) : nextGrant (before ++ op :: behind) = some op := by
  have hlower {k : Nat} (hk : k < op.rank) : (before ++ op :: behind).find? (fun o => o.rank = k) = none := by
    refine List.find?_eq_none.mpr fun o ho => ?_
    have hle : op.rank ≤ o.rank := by
      rcases List.mem_append.mp ho with ho | ho
      · exact (hbefore o ho).le
      · rcases List.mem_cons.mp ho with rfl | ho
        · exact le_rfl
        · exact hbehind o ho
    simp; omega
  have hfirst {k : Nat} (hk : op.rank = k) : (before ++ op :: behind).find? (fun o => o.rank = k) = some op := by
    have hnone : before.find? (fun o => o.rank = k) = none :=
      List.find?_eq_none.mpr fun o ho => by simpa using (hk ▸ hbefore o ho).ne'
    simp [hnone, hk]
  have hrank : op.rank = 1 ∨ op.rank = 2 ∨ op.rank = 3 ∨ op.rank = 4 := by cases op <;> simp [PortOp.rank]
  unfold nextGrant
  rcases hrank with h | h | h | h
  · rw [hfirst h]
  · rw [hlower (h ▸ by decide), hfirst h]
  · rw [hlower (h ▸ by decide), hlower (h ▸ by decide), hfirst h]
  · rw [hlower (h ▸ by decide), hlower (h ▸ by decide), hlower (h ▸ by decide), hfirst h]

theorem State.grant_busy {j : PortJob} (h : s.store.inFlight = some j) : s.grant = s := by
  simp only [State.grant, h]

theorem State.grant_empty (h : s.store.waiting = []) : s.grant = s := by
  unfold State.grant
  rw [h]
  split
  · rename_i hnone
    exact absurd hnone (Option.some_ne_none _).symm
  · rfl

/-- A free port grants the oldest waiting operation of the lowest class (R118). -/
theorem State.grant_free {before behind : List PortOp} {op : PortOp} (hfree : s.store.inFlight = none)
    (hwaiting : s.store.waiting = before ++ op :: behind) (hbefore : ∀ o ∈ before, op.rank < o.rank)
    (hbehind : ∀ o ∈ behind, op.rank ≤ o.rank) :
    s.grant.store.inFlight = some ⟨op, 0⟩ ∧ s.grant.store.waiting = before ++ behind := by
  have herase : (before ++ op :: behind).erase op = before ++ behind := by
    rw [List.erase_append_right _ fun hmem => lt_irrefl _ (hbefore op hmem), List.erase_cons_head]
  simp only [State.grant, hfree, hwaiting, nextGrant_of_least hbefore hbehind, herase, and_self]

end Port

/-! ## The row -/

section Row

variable {s : State}

/-- The mount begins once (R120). -/
theorem State.mountStart_begun (h : s.store.state ≠ .unmounted) : s.mountStart = s := by
  unfold State.mountStart
  split
  · rename_i hun
    exact absurd hun h
  all_goals rfl

/-- The block of track `n` after a row: its own part of the row's samples (R57). -/
theorem State.rowSamples_block {n : Nat} {x : Option TrackSample} (hs : s.Sized) (hn : n < 128)
    (hx : ((s.track n).rowIf s.sources.inputRow).2 = x) :
    s.rowSamples.coder.blocks.getD n {} =
      match x with
      | some x => if n ∈ s.liveSet then
          (s.coder.blocks.getD n {}).row s.sources.rowCounter s.meter.overLevel x else s.coder.blocks.getD n {}
      | none => s.coder.blocks.getD n {} := by
  obtain ⟨-, -, -, -, -, -, -, hblocks, -⟩ := hs
  have hzip : (s.coder.blocks.zip (s.trackRow s.sources.inputRow).2)[n]? = some (s.coder.blocks.getD n {}, x) :=
    List.getElem?_zip_eq_some.mpr
      ⟨by simp [List.getD_eq_getElem?_getD, hblocks, hn], hx ▸ s.trackRow_getElem? hn _⟩
  show ((((s.coder.blocks.zip (s.trackRow s.sources.inputRow).2).zipIdx.map _).getD n {}) : BlockRecord) = _
  rw [List.getD_eq_getElem?_getD, List.getElem?_map, List.getElem?_zipIdx, hzip, Nat.zero_add]
  cases x <;> simp

/-- A row leaves the routes (R39). -/
theorem State.rowSamples_routes {s : State} (hs : s.Sized) : s.rowSamples.tracks.routes = s.tracks.routes := by
  obtain ⟨-, -, hafter, -⟩ := State.rowSamples_sized hs
  obtain ⟨-, -, hroutes, -⟩ := hs
  refine List.ext_getElem (hafter.trans hroutes.symm) fun n h1 h2 => ?_
  have hroute := congrArg TrackParts.route (s.rowSamples_track (n := n) (by omega))
  rw [TrackParts.rowIf_route] at hroute
  simpa [State.track, List.getD_eq_getElem?_getD, h1, h2] using hroute

/-- The operations of a port whose timer a row has moved (R119). -/
theorem any_rows_moved (o : Option PortJob) (f : PortOp → Bool) :
    ((o.map fun j => { j with rows := j.rows + 1 }).any fun j => f j.op) = o.any fun j => f j.op := by
  cases o <;> rfl

/-- Whether an operation is the eraser's erase (R117). -/
theorem StoreController.eraserBusy_eq (c : StoreController) (isErase : PortOp → Bool)
    (h : ∀ op, isErase op = (op matches .eraserErase _)) :
    c.eraserBusy = (c.waiting.any isErase || c.inFlight.any fun j => isErase j.op) := by
  obtain rfl : isErase = _ := funext h
  exact Bool.or_comm ..

/-- Settles O36: the row's samples, then the eraser and the arbiter, which move only the port. -/
theorem rowTouchesNothingElse : Obligations.RowTouchesNothingElse := by
  intro s hs hdue hmount
  refine ⟨s.row, rfl, ?_⟩
  beta_reduce
  have hrow : s.row = s.rowTimers.rowSamples.settlePort := by
    rw [State.row_of_nothingDue hdue, State.mountStart_begun (s := s.rowTimers.rowSamples) hmount]
  have hport := (State.settlePort_portSide s.rowTimers.rowSamples).eq
  rw [← hrow] at hport
  have hkept := State.row_kept_of_nothingDue hdue
  have hroutes : s.row.tracks.routes = s.tracks.routes := by
    rw [hport]
    exact State.rowSamples_routes (s := s.rowTimers) hs
  have hreadout : s.row.readout = s.rowTimers.readout := by rw [hport]; rfl
  refine ⟨by rw [hport]; rfl, hroutes, by rw [hport]; rfl, by rw [hport]; rfl, by rw [hport]; rfl, ?_, ?_,
    fun hh => ?_, fun hh => ?_, by rw [hport]; rfl, fun n hn => ?_⟩
  · intro isErase erasing cls
    have hcls : cls = PortOp.rank := by funext op; cases op <;> rfl
    have hbusy : s.rowTimers.rowSamples.store.eraserBusy = erasing := by
      rw [StoreController.eraserBusy_eq _ isErase fun op => by cases op <;> rfl]
      exact congrArg _ (any_rows_moved s.store.inFlight isErase)
    obtain ⟨hin, hwaiting⟩ := s.rowTimers.rowSamples.eraser_store
    have hgrant : s.row = s.rowTimers.rowSamples.eraser.grant := hrow
    rw [hcls, hgrant]
    refine ⟨s.rowTimers.rowSamples.eraser.store.waiting, hwaiting, fun hrest => ?_, ?_, fun j hj => ?_, ?_, ?_⟩
    · rw [State.eraser_rests]
      · rfl
      · rw [hbusy]
        exact hrest.imp_right (Or.imp_right StoreController.lowestDirty_none)
    · intro pre e x post hmounted hidle htable hx hpre
      rw [State.eraser_asks (s := s.rowTimers.rowSamples) hmounted (hbusy.trans hidle)
        (StoreController.lowestDirty_first htable hx hpre)]
      rfl
    · have hflying : s.rowTimers.rowSamples.eraser.store.inFlight = some { j with rows := j.rows + 1 } :=
        hin.trans (congrArg (Option.map _) hj)
      rw [State.grant_busy hflying]
      exact ⟨hflying, rfl⟩
    · intro hj hnone
      rw [State.grant_empty hnone]
      exact ⟨hin.trans (congrArg (Option.map _) hj), hnone⟩
    · intro before op behind hj hasked hbefore hbehind
      exact State.grant_free (hin.trans (congrArg (Option.map _) hj)) hasked hbefore hbehind
  · rw [hreadout]
    unfold State.rowTimers
    dsimp only
    split <;> rfl
  · have hcount : s.rowTimers.readout.countdown = s.readout.countdown - 1 := by simp [State.rowTimers, hh]
    rw [hreadout, hcount]
    exact Nat.succ_pred_eq_of_ne_zero (hdue.2.2.1 hh)
  · rw [hreadout]
    exact if_neg hh
  · intro old
    have hcoder : s.row.coder = s.rowTimers.rowSamples.coder := by rw [hport]
    rw [hcoder]
    split
    all_goals
      rename_i hx
      exact State.rowSamples_block (s := s.rowTimers) hs hn hx

end Row

end Sys2Proof.Machine
end

section
/-!
From the packet queue into the staging pages (R110, R111): what one event's rounds of filling and submitting make of
queue and pages, and when they have moved all they can.
-/

namespace Sys2Proof.Machine

/-! ## What filling and submitting may change -/

/-- `t` differs from `s` at most in what filling and submitting staging pages moves. -/
def StagingSide (s t : State) : Prop :=
  ∃ table queue ws a b n waiting, t = { s with store := { s.store with
    table := table, queue := queue, writeState := ws, pageA := a, pageB := b, relocations := n, waiting := waiting } }

theorem StagingSide.refl (s : State) : StagingSide s s := ⟨_, _, _, _, _, _, _, rfl⟩

theorem StagingSide.trans {s t u : State} (h : StagingSide s t) (k : StagingSide t u) : StagingSide s u := by
  obtain ⟨_, _, _, _, _, _, _, rfl⟩ := h
  obtain ⟨_, _, _, _, _, _, _, rfl⟩ := k
  exact ⟨_, _, _, _, _, _, _, rfl⟩

theorem StagingSide.liveTake {s t : State} (h : StagingSide s t) : t.liveTake = s.liveTake := by
  obtain ⟨_, _, _, _, _, _, _, rfl⟩ := h
  rfl

/-! ## Submitting -/

/-- A page is as it was, or has gone from WAITING to its program (R111). -/
def StagingPage.Submitted (p q : StagingPage) : Prop :=
  q = p ∨ p.state = .waiting ∧ q = { p with state := .programming, failedBefore := false }

/-- The number the next staging page will have, where a write state is kept (R109). -/
def StoreController.nextSeq? (c : StoreController) : Option Nat := c.writeState.map fun ws => ws.nextStaging

/-- What the submission of pages leaves of queue, pages and staging number. -/
structure SubmitMove (s t : State) : Prop where
  side : StagingSide s t
  queue : t.store.queue = s.store.queue
  pageA : s.store.pageA.Submitted t.store.pageA
  pageB : s.store.pageB.Submitted t.store.pageB
  next : t.store.nextSeq? = s.store.nextSeq?

theorem SubmitMove.refl (s : State) : SubmitMove s s := ⟨.refl s, rfl, .inl rfl, .inl rfl, rfl⟩

section Submit

variable {s : State} {p : StagingPage} {ws : WriteState}

theorem State.stall_move (h : s.store.writeState = some ws) : SubmitMove s (s.stall ws) :=
  ⟨⟨_, _, _, _, _, _, _, rfl⟩, rfl, .inl rfl, .inl rfl, by simp [State.stall, StoreController.nextSeq?, h]⟩

/-- The choice of a target moves neither page, nor the queue, nor the staging number (R111). -/
theorem State.target_move {a : PageAddress} {t : State} (h : s.store.writeState = some ws)
    (ht : s.target p ws = some (a, t)) : StagingSide s t ∧ t.store.queue = s.store.queue
      ∧ t.store.pageA = s.store.pageA ∧ t.store.pageB = s.store.pageB ∧ t.store.nextSeq? = s.store.nextSeq? := by
  unfold State.target at ht
  split at ht
  · cases ht
    exact ⟨⟨_, _, _, _, _, _, _, rfl⟩, rfl, rfl, rfl, by simp [StoreController.nextSeq?, h]⟩
  split at ht
  · rename_i e u he
    unfold State.allocate at he
    split at he
    · cases he
    cases ht
    cases he
    split <;> exact ⟨⟨_, _, _, _, _, _, _, rfl⟩, rfl, rfl, rfl, by simp [StoreController.nextSeq?, h]⟩
  · cases ht

theorem StagingPage.ready_waiting {q : StagingPage} (h : p.ready q = true) : p.state = .waiting := by
  simp only [StagingPage.ready, Bool.and_eq_true, decide_eq_true_eq] at h
  exact h.1.1.1

theorem State.submitA_move (s : State) : SubmitMove s s.submitA := by
  unfold State.submitA
  split
  · rename_i ws hws
    split
    · rename_i hready
      split
      · rename_i a t ht
        obtain ⟨hside, hqueue, hA, hB, hnext⟩ := State.target_move hws ht
        refine ⟨hside.trans ⟨_, _, _, _, _, _, _, rfl⟩, hqueue, .inr ⟨StagingPage.ready_waiting hready, ?_⟩,
          .inl hB, hnext⟩
        rw [← hA]
        rfl
      · exact State.stall_move hws
    · exact .refl s
  · exact .refl s

theorem State.submitB_move (s : State) : SubmitMove s s.submitB := by
  unfold State.submitB
  split
  · rename_i ws hws
    split
    · rename_i hready
      split
      · rename_i a t ht
        obtain ⟨hside, hqueue, hA, hB, hnext⟩ := State.target_move hws ht
        refine ⟨hside.trans ⟨_, _, _, _, _, _, _, rfl⟩, hqueue, .inl hA,
          .inr ⟨StagingPage.ready_waiting hready, ?_⟩, hnext⟩
        rw [← hB]
        rfl
      · exact State.stall_move hws
    · exact .refl s
  · exact .refl s

end Submit

/-! ## Filling one page -/

/-- A page that words may move into (R110). -/
abbrev StagingPage.Open (p : StagingPage) : Prop := p.state = .empty ∨ p.state = .filling

/-- What a page holds before it takes words: an EMPTY one begins as page `seq` of the take (R110). -/
def StagingPage.base (p : StagingPage) (take seq : Nat) : StagingPage :=
  if p.state = .empty then { take := take, pageSeq := seq } else p

/-- The first packet offset of a page that held `base` and took `ws` (R110). -/
def StagingPage.offsetWith (base : StagingPage) (ws : List PacketWord) : Nat :=
  if base.firstOffset ≠ 0 then base.firstOffset
  else match ws.findIdx? PacketWord.first with
    | some i => 4 + base.words.length + i
    | none => 0

section Fill

variable {p q r : StagingPage} {take seq : Nat} {ws queue : List PacketWord}

/-- The words a page has room for, off the head of the queue. -/
def StagingPage.takes (p : StagingPage) (queue : List PacketWord) : List PacketWord := queue.take (4096 - p.used)

theorem StagingPage.fill_queue : p.takes queue ++ (p.fill queue).2 = queue := List.take_append_drop ..

theorem StagingPage.fill_words : (p.fill queue).1.words = p.words ++ p.takes queue := rfl

theorem StagingPage.fill_state (p : StagingPage) (queue : List PacketWord) : (p.fill queue).1.state
    = if 4092 ≤ p.words.length + (p.takes queue).length then .waiting else p.state := by
  have hfull : Config.pageWords ≤ Config.pageHeader + (p.words ++ p.takes queue).length
      ↔ 4092 ≤ p.words.length + (p.takes queue).length := by
    rw [List.length_append]
    unfold Config.pageWords Config.pageHeader
    omega
  exact if_congr hfull rfl rfl

theorem StagingPage.takes_length (p : StagingPage) (queue : List PacketWord) :
    (p.takes queue).length = min (4092 - p.words.length) queue.length := by
  rw [StagingPage.takes, List.length_take, StagingPage.used]
  unfold Config.pageHeader
  omega

/-- A page that has been filled is full, or the queue is empty (R110). -/
theorem StagingPage.fill_closed (p : StagingPage) (queue : List PacketWord) :
    (p.fill queue).2 = [] ∨ (p.fill queue).1.state = .waiting := by
  rw [StagingPage.fill_state, StagingPage.takes_length]
  by_cases hfull : 4092 ≤ p.words.length + min (4092 - p.words.length) queue.length
  · exact .inr (if_pos hfull)
  · refine .inl (List.drop_eq_nil_of_le ?_)
    show queue.length ≤ 4096 - (4 + p.words.length)
    omega

theorem StagingPage.fill_not_empty (h : p.state = .filling) : (p.fill queue).1.state ≠ .empty := by
  rw [StagingPage.fill_state, h]
  split <;> decide

/-- The offset of the first packet start, whether it came before or now (R110). -/
theorem StagingPage.offsetAfter_eq {base : StagingPage} (hwords : p.words = base.words ++ ws)
    (hfirst : p.firstOffset = base.offsetWith ws) (moved : List PacketWord) :
    p.offsetAfter moved = base.offsetWith (ws ++ moved) := by
  have hused : p.used = 4 + (base.words.length + ws.length) := by
    rw [StagingPage.used, hwords, List.length_append]
    rfl
  unfold StagingPage.offsetAfter
  rw [hfirst, hused]
  unfold StagingPage.offsetWith
  by_cases hb : base.firstOffset = 0
  · simp only [hb, ne_eq, not_true_eq_false, if_false, List.findIdx?_append]
    cases hw : ws.findIdx? PacketWord.first with
    | some i => simp
    | none =>
      cases hm : moved.findIdx? PacketWord.first with
      | some i => simp; omega
      | none => simp
  · simp [hb]

/-- What the statement's `Took` says, by the names above. -/
theorem StagingPage.took_iff : p.Took q take seq ws ↔
    (p.state = .empty → ws = [] → q = p)
    ∧ (p.state ≠ .empty → p.state ≠ .filling → ws = [])
    ∧ (p.state ≠ .empty ∨ ws ≠ [] → q.state ≠ .empty ∧ q.take = (p.base take seq).take
      ∧ q.pageSeq = (p.base take seq).pageSeq ∧ q.words = (p.base take seq).words ++ ws
      ∧ q.firstOffset = (p.base take seq).offsetWith ws)
    ∧ (ws ≠ [] → q.words.length ≤ 4092 ∧ (q.state = .filling → q.words.length < 4092)) := Iff.rfl

theorem StagingPage.Took.refl (p : StagingPage) (take seq : Nat) : p.Took p take seq [] := by
  refine StagingPage.took_iff.mpr ⟨fun _ _ => rfl, fun _ _ => rfl, fun h => ?_, fun h => absurd rfl h⟩
  have hp : p.state ≠ .empty := h.resolve_right (fun h => h rfl)
  have hbase : p.base take seq = p := if_neg hp
  rw [hbase]
  refine ⟨hp, rfl, rfl, (List.append_nil _).symm, ?_⟩
  simp [StagingPage.offsetWith]

/-- A page that was not EMPTY, or has taken words, is not EMPTY. -/
theorem StagingPage.Took.eq_of_empty (h : p.Took q take seq ws) (hq : q.state = .empty) :
    p.state = .empty ∧ ws = [] ∧ q = p := by
  obtain ⟨hsame, -, hheld, -⟩ := StagingPage.took_iff.mp h
  have hno : ¬ (p.state ≠ .empty ∨ ws ≠ []) := fun hn => (hheld hn).1 hq
  have hp : p.state = .empty := not_not.mp fun hp => hno (.inl hp)
  have hws : ws = [] := not_not.mp fun hws => hno (.inr hws)
  exact ⟨hp, hws, hsame hp hws⟩

/-- An EMPTY page that is EMPTY no more has taken words. -/
theorem StagingPage.Took.ne_nil (h : p.Took q take seq ws) (hp : p.state = .empty) (hq : q.state ≠ .empty) :
    ws ≠ [] := fun hws => hq (by rw [(StagingPage.took_iff.mp h).1 hp hws]; exact hp)

theorem StagingPage.Took.nil_of_closed (h : p.Took q take seq ws) (hp : ¬ p.Open) : ws = [] :=
  (StagingPage.took_iff.mp h).2.1 (fun he => hp (.inl he)) fun hf => hp (.inr hf)

/-- The filling of a page that holds what its base held and the words taken so far (R110). -/
theorem StagingPage.took_fill (hp : p.Open) (hr : r.state = .filling) (htake : r.take = (p.base take seq).take)
    (hseq : r.pageSeq = (p.base take seq).pageSeq) (hwords : r.words = (p.base take seq).words ++ ws)
    (hoffset : r.firstOffset = (p.base take seq).offsetWith ws) (hlen : ws ≠ [] → r.words.length ≤ 4092)
    (hsome : p.state = .empty → ws ++ r.takes queue ≠ []) :
    p.Took (r.fill queue).1 take seq (ws ++ r.takes queue) := by
  have hmoved := r.takes_length queue
  refine StagingPage.took_iff.mpr ⟨fun he hnil => absurd hnil (hsome he),
    fun he hf => absurd hp (not_or.mpr ⟨he, hf⟩), fun _ => ⟨StagingPage.fill_not_empty hr, htake, hseq, ?_,
      StagingPage.offsetAfter_eq hwords hoffset _⟩,
    fun hne => ?_⟩
  · rw [StagingPage.fill_words, hwords, List.append_assoc]
  · have hle : r.words.length ≤ 4092 := by
      by_contra hgt
      have hnil : r.takes queue = [] := List.eq_nil_of_length_eq_zero (by omega)
      exact hgt (hlen fun hws => hne (by rw [hws, hnil]; rfl))
    rw [StagingPage.fill_words, StagingPage.fill_state, List.length_append]
    refine ⟨by omega, fun hfilling => ?_⟩
    by_contra hfull
    rw [if_pos (by omega)] at hfilling
    exact absurd hfilling (by decide)

theorem StagingPage.Took.fill (h : p.Took r take seq ws) (hp : p.Open) (hr : r.state = .filling) :
    p.Took (r.fill queue).1 take seq (ws ++ r.takes queue) := by
  have hne : p.state = .empty → ws ≠ [] := fun he => h.ne_nil he (by simp [hr])
  obtain ⟨-, -, hheld, hlen⟩ := StagingPage.took_iff.mp h
  obtain ⟨-, htake, hseq, hwords, hoffset⟩ := hheld (or_iff_not_imp_left.mpr fun he => hne (not_not.mp he))
  exact StagingPage.took_fill hp hr htake hseq hwords hoffset (fun hws => (hlen hws).1) fun he => by simp [hne he]

theorem StagingPage.takes_start (h : queue ≠ []) : (StagingPage.start take seq).takes queue ≠ [] := by
  have hpos : 0 < queue.length := List.length_pos_iff.mpr h
  have hlen := (StagingPage.start take seq).takes_length queue
  have hzero : (StagingPage.start take seq).words.length = 0 := rfl
  intro hnil
  rw [hnil, List.length_nil] at hlen
  omega

/-- An EMPTY page that starts takes words (R110). -/
theorem StagingPage.took_start (hp : p.state = .empty) (h : queue ≠ []) :
    p.Took ((StagingPage.start take seq).fill queue).1 take seq ((StagingPage.start take seq).takes queue) := by
  have hbase : p.base take seq = { take := take, pageSeq := seq } := if_pos hp
  refine StagingPage.took_fill (ws := []) (.inl hp) rfl ?_ ?_ ?_ ?_ (fun h => absurd rfl h)
    fun _ => StagingPage.takes_start h
  all_goals rw [hbase]; rfl

/-- A page that goes to its program keeps what it took. -/
theorem StagingPage.Took.submitted (h : p.Took q take seq ws) (hs : q.Submitted r) : p.Took r take seq ws := by
  rcases hs with rfl | ⟨hw, rfl⟩
  · exact h
  · obtain ⟨-, hclosed, hheld, hlen⟩ := StagingPage.took_iff.mp h
    refine StagingPage.took_iff.mpr ⟨fun hp hws => absurd hws (h.ne_nil hp (by simp [hw])), hclosed, fun hne => ?_,
      fun hne => ⟨(hlen hne).1, nofun⟩⟩
    obtain ⟨-, hrest⟩ := hheld hne
    exact ⟨nofun, hrest⟩

theorem StagingPage.Submitted.open_iff (hs : p.Submitted q) : q.Open ↔ p.Open := by
  rcases hs with rfl | ⟨hw, rfl⟩
  · rfl
  · simp [StagingPage.Open, hw]

theorem StagingPage.Submitted.filling_iff (hs : p.Submitted q) : q.state = .filling ↔ p.state = .filling := by
  rcases hs with rfl | ⟨hw, rfl⟩
  · rfl
  · simp [hw]

theorem StagingPage.Submitted.empty_iff (hs : p.Submitted q) : q.state = .empty ↔ p.state = .empty := by
  rcases hs with rfl | ⟨hw, rfl⟩
  · rfl
  · simp [hw]

end Fill

end Sys2Proof.Machine
end

section
/-!
The feeding of the staging pages over the offers of one boundary (R110): in which page the words of the queue have gone,
in what order, and that two rounds move all that can be moved.
-/

namespace Sys2Proof.Machine

/-- Page B takes words before page A: it was filling, and A was not (R110). -/
def StoreController.bFirst (c : StoreController) : Prop := c.pageA.state ≠ .filling ∧ c.pageB.state = .filling

/-- From the store `c` page A has taken the words `a` and page B the words `b`, off the head of a queue to which the
words `pk` were appended; `d` is the store now. The last three fields say whose turn it is: in the order `a` before
`b`, B has nothing while A is open; in the other order, A has nothing while B is filling. -/
structure Fed (c d : StoreController) (take seq : Nat) (a b pk : List PacketWord) : Prop where
  tookA : c.pageA.Took d.pageA take seq a
  tookB : c.pageB.Took d.pageB take (seq + (decide (c.pageA.state = .empty)).toNat) b
  openA : d.pageA.Open → c.pageA.Open
  openB : d.pageB.Open → c.pageB.Open
  order : (if c.pageA.state ≠ .filling ∧ c.pageB.state = .filling then b ++ a else a ++ b) ++ d.queue
    = c.queue ++ pk
  next : d.nextSeq? = some (seq + (decide (c.pageA.state = .empty ∧ a ≠ [])).toNat
    + (decide (c.pageB.state = .empty ∧ b ≠ [])).toNat)
  turnA : ¬ c.bFirst → d.pageA.Open → b = []
  restB : ¬ c.bFirst → d.pageA.state = .empty → d.pageB.state ≠ .filling
  turnB : c.bFirst → d.pageB.state = .filling → a = [] ∧ d.pageA.state ≠ .filling

namespace Fed

variable {c d e : StoreController} {take seq : Nat} {a b pk : List PacketWord} {ws : WriteState}

theorem refl (hseq : c.nextSeq? = some seq) : Fed c c take seq [] [] [] where
  tookA := .refl ..
  tookB := .refl ..
  openA := id
  openB := id
  order := by simp
  next := by simpa using hseq
  turnA _ _ := rfl
  restB h he hf := h ⟨by simp [he], hf⟩
  turnB h _ := ⟨rfl, h.1⟩

/-- Words appended to the queue. -/
theorem append (h : Fed c d take seq a b pk) (ws : List PacketWord) :
    Fed c { d with queue := d.queue ++ ws } take seq a b (pk ++ ws) where
  tookA := h.tookA
  tookB := h.tookB
  openA := h.openA
  openB := h.openB
  order := by
    have horder := congrArg (· ++ ws) h.order
    simpa only [List.append_assoc] using horder
  next := h.next
  turnA := h.turnA
  restB := h.restB
  turnB := h.turnB

theorem submitted {s t : State} (h : Fed c s.store take seq a b pk) (k : SubmitMove s t) :
    Fed c t.store take seq a b pk where
  tookA := h.tookA.submitted k.pageA
  tookB := h.tookB.submitted k.pageB
  openA ho := h.openA (k.pageA.open_iff.mp ho)
  openB ho := h.openB (k.pageB.open_iff.mp ho)
  order := by rw [k.queue]; exact h.order
  next := k.next.trans h.next
  turnA hb ho := h.turnA hb (k.pageA.open_iff.mp ho)
  restB hb he hf := h.restB hb (k.pageA.empty_iff.mp he) (k.pageB.filling_iff.mp hf)
  turnB hb hf := (h.turnB hb (k.pageB.filling_iff.mp hf)).imp_right fun hA => hA ∘ k.pageA.filling_iff.mp

theorem next_of (hws : d.writeState = some ws) (h : Fed c d take seq a b pk) :
    ws.nextStaging = seq + (decide (c.pageA.state = .empty ∧ a ≠ [])).toNat
      + (decide (c.pageB.state = .empty ∧ b ≠ [])).toNat := by
  have hnext := h.next
  rw [StoreController.nextSeq?, hws] at hnext
  exact Option.some.inj hnext

/-- A page that has started counts as started, whatever it takes then. -/
theorem started_append {p q : StagingPage} {s : Nat} {ws moved : List PacketWord} (h : p.Took q take s ws)
    (hf : q.state = .filling) :
    (decide (p.state = .empty ∧ ws ++ moved ≠ [])).toNat = (decide (p.state = .empty ∧ ws ≠ [])).toNat := by
  have hiff : (p.state = .empty ∧ ws ++ moved ≠ []) ↔ (p.state = .empty ∧ ws ≠ []) :=
    and_congr_right fun he => by simp [h.ne_nil he (by simp [hf])]
  simp only [hiff]

/-- Page A fills (R110). -/
theorem fillA (h : Fed c d take seq a b pk) (hf : d.pageA.state = .filling) (hws : d.writeState = some ws) :
    Fed c { d with
      pageA := (d.pageA.fill d.queue).1, queue := (d.pageA.fill d.queue).2, writeState := some ws }
      take seq (a ++ d.pageA.takes d.queue) b pk := by
  have hopen : c.pageA.Open := h.openA (.inr hf)
  have hqueue := d.pageA.fill_queue (queue := d.queue)
  refine ⟨h.tookA.fill hopen hf, h.tookB, fun _ => hopen, h.openB, ?_, ?_, fun hb _ => h.turnA hb (.inr hf),
    fun _ he => absurd he (StagingPage.fill_not_empty hf), fun hb hB => absurd hf (h.turnB hb hB).2⟩
  · rw [← h.order]
    split
    · simp only [List.append_assoc, hqueue]
    · rw [h.turnA ‹_› (.inr hf)]
      simp only [List.append_assoc, List.append_nil, hqueue]
  · rw [started_append h.tookA hf]
    exact congrArg some (next_of hws h)

/-- Page B fills, where page A does not (R110). -/
theorem fillB (h : Fed c d take seq a b pk) (hA : d.pageA.state ≠ .filling) (hf : d.pageB.state = .filling)
    (hws : d.writeState = some ws) :
    Fed c { d with
      pageB := (d.pageB.fill d.queue).1, queue := (d.pageB.fill d.queue).2, writeState := some ws }
      take seq a (b ++ d.pageB.takes d.queue) pk := by
  have hopen : c.pageB.Open := h.openB (.inr hf)
  have hqueue := d.pageB.fill_queue (queue := d.queue)
  have hrest : ¬ c.bFirst → ¬ d.pageA.Open := fun hb ho =>
    ho.elim (fun he => h.restB hb he hf) hA
  refine ⟨h.tookA, h.tookB.fill hopen hf, h.openA, fun _ => hopen, ?_, ?_, fun hb ho => absurd ho (hrest hb),
    fun hb he => absurd (.inl he) (hrest hb), fun hb _ => h.turnB hb hf⟩
  · rw [← h.order]
    split
    · rw [(h.turnB ‹_› hf).1]
      simp only [List.append_assoc, List.append_nil, hqueue]
    · simp only [List.append_assoc, hqueue]
  · rw [started_append h.tookB hf]
    exact congrArg some (next_of hws h)

/-- Page A starts, where page B does not fill (R110). -/
theorem startA (h : Fed c d take seq a b pk) (hA : d.pageA.state = .empty) (hB : d.pageB.state ≠ .filling)
    (hq : d.queue ≠ []) (hws : d.writeState = some ws) :
    Fed c { d with
      pageA := ((StagingPage.start take ws.nextStaging).fill d.queue).1
      queue := ((StagingPage.start take ws.nextStaging).fill d.queue).2
      writeState := some { ws with nextStaging := ws.nextStaging + 1 } }
      take seq ((StagingPage.start take ws.nextStaging).takes d.queue) b pk := by
  obtain ⟨hcA, ha, -⟩ := h.tookA.eq_of_empty hA
  have hbstart : (decide (c.pageB.state = .empty ∧ b ≠ [])).toNat = 0 := by
    by_cases hb : c.bFirst
    · simp [hb.2]
    · simp [h.turnA hb (.inl hA)]
  have hseq : ws.nextStaging = seq := by
    have hnext := next_of hws h
    rw [hbstart, ha] at hnext
    simpa using hnext
  rw [hseq]
  have hqueue := (StagingPage.start take seq).fill_queue (queue := d.queue)
  have hmoved := StagingPage.takes_start (take := take) (seq := seq) hq
  refine ⟨StagingPage.took_start hcA hq, h.tookB, fun _ => .inl hcA, h.openB, ?_, ?_,
    fun hb _ => h.turnA hb (.inl hA), fun _ he => absurd he (StagingPage.fill_not_empty rfl),
    fun _ hf => absurd hf hB⟩
  · rw [← h.order, ha]
    split
    · simp only [List.append_assoc, List.nil_append, hqueue]
    · rw [h.turnA ‹_› (.inl hA)]
      simp only [List.append_nil, List.nil_append, hqueue]
  · rw [hbstart]
    simp [StoreController.nextSeq?, hcA, hmoved]

/-- Page B starts, where page A takes no more words (R110). -/
theorem startB (h : Fed c d take seq a b pk) (hA : ¬ d.pageA.Open) (hB : d.pageB.state = .empty)
    (hq : d.queue ≠ []) (hws : d.writeState = some ws) :
    Fed c { d with
      pageB := ((StagingPage.start take ws.nextStaging).fill d.queue).1
      queue := ((StagingPage.start take ws.nextStaging).fill d.queue).2
      writeState := some { ws with nextStaging := ws.nextStaging + 1 } }
      take seq a ((StagingPage.start take ws.nextStaging).takes d.queue) pk := by
  obtain ⟨hcB, hb, -⟩ := h.tookB.eq_of_empty hB
  have hfirst : ¬ c.bFirst := fun hf => by simp [StoreController.bFirst, hcB] at hf
  have hstarted : (c.pageA.state = .empty ∧ a ≠ []) ↔ c.pageA.state = .empty :=
    and_iff_left_of_imp fun he => h.tookA.ne_nil he fun hd => hA (.inl hd)
  have hseq : ws.nextStaging = seq + (decide (c.pageA.state = .empty)).toNat := by
    have hnext := next_of hws h
    simp only [hstarted, hb] at hnext
    simpa using hnext
  rw [hseq]
  have hqueue := (StagingPage.start take (seq + (decide (c.pageA.state = .empty)).toNat)).fill_queue
    (queue := d.queue)
  have hmoved := StagingPage.takes_start (take := take)
    (seq := seq + (decide (c.pageA.state = .empty)).toNat) hq
  refine ⟨h.tookA, StagingPage.took_start hcB hq, h.openA, fun _ => .inl hcB, ?_, ?_,
    fun _ ho => absurd ho hA, fun _ he => absurd (.inl he) hA, fun hf => absurd hf hfirst⟩
  · rw [← h.order, hb]
    split
    · exact absurd ‹_› hfirst
    · simp only [List.append_assoc, List.append_nil, hqueue]
  · simp only [hstarted]
    simp [StoreController.nextSeq?, hcB, hmoved]

/-- One feeding of the pages (R110): each page has taken what it took before, and perhaps more. -/
theorem feed (h : Fed c d take seq a b pk) (hws : d.writeState = some ws) :
    ∃ a' b', Fed c (d.feed ws take false) take seq a' b' pk := by
  unfold StoreController.feed
  dsimp only [StagingPage.flush, Bool.false_and]
  split
  · exact ⟨_, _, h.fillA ‹_› hws⟩
  split
  · exact ⟨_, _, h.fillB ‹_› ‹_› hws⟩
  split
  · exact ⟨_, _, h⟩
  have hq : d.queue ≠ [] := by simpa using ‹¬ d.queue.isEmpty = true›
  split
  · exact ⟨_, _, h.startA ‹_› ‹_› hq hws⟩
  split
  · exact ⟨_, _, h.startB (not_or.mpr ⟨‹_›, ‹_›⟩) ‹_› hq hws⟩
  · exact ⟨_, _, h⟩

end Fed

/-! ## Rounds -/

/-- How many staging pages words may move into. -/
def StoreController.openPages (c : StoreController) : Nat :=
  (decide c.pageA.Open).toNat + (decide c.pageB.Open).toNat

theorem StoreController.openPages_eq_zero {c : StoreController} :
    c.openPages = 0 ↔ ¬ c.pageA.Open ∧ ¬ c.pageB.Open := by
  simp [StoreController.openPages]

/-- A feeding empties the queue, or takes up a page; with no page left it does nothing. -/
theorem StoreController.feed_progress (d : StoreController) (ws : WriteState) (take : Nat) :
    (d.feed ws take false).queue = [] ∨ (d.feed ws take false).openPages ≤ d.openPages - 1 := by
  unfold StoreController.feed
  dsimp only [StagingPage.flush, Bool.false_and]
  split
  · refine (d.pageA.fill_closed d.queue).imp_right fun hw => ?_
    simp [StoreController.openPages, *]
  split
  · refine (d.pageB.fill_closed d.queue).imp_right fun hw => ?_
    simp [StoreController.openPages, *]
  split
  · exact .inl (by simpa using ‹d.queue.isEmpty = true›)
  split
  · refine ((StagingPage.start take ws.nextStaging).fill_closed d.queue).imp_right fun hw => ?_
    simp [StoreController.openPages, *]
  split
  · refine ((StagingPage.start take ws.nextStaging).fill_closed d.queue).imp_right fun hw => ?_
    simp [StoreController.openPages, *]
  · refine .inr ?_
    simp [StoreController.openPages, *]

theorem StoreController.feed_stagingSide (s : State) (ws : WriteState) (take : Nat) :
    StagingSide s { s with store := s.store.feed ws take false } := by
  unfold StoreController.feed
  dsimp only
  repeat' split
  all_goals exact ⟨_, _, _, _, _, _, _, rfl⟩

section Round

variable {s : State} {c : StoreController} {k : TakeRecord} {seq : Nat} {a b pk : List PacketWord}

/-- A round of an OPEN take: the words it moves, and that it leaves the queue empty or a page fewer to fill. -/
theorem State.stagingRound_fed (h : Fed c s.store k.number seq a b pk) (hlive : s.liveTake = some k)
    (hopen : k.state = .opened) : (∃ a' b', Fed c s.stagingRound.store k.number seq a' b' pk)
      ∧ StagingSide s s.stagingRound
      ∧ (s.stagingRound.store.queue = [] ∨ s.stagingRound.store.openPages ≤ s.store.openPages - 1) := by
  obtain ⟨ws, hws⟩ : ∃ ws, s.store.writeState = some ws := by
    have hnext := h.next
    unfold StoreController.nextSeq? at hnext
    obtain ⟨ws, hws, -⟩ := Option.map_eq_some_iff.mp hnext
    exact ⟨ws, hws⟩
  have hround : s.stagingRound
      = ({ s with store := s.store.feed ws k.number false } : State).submitA.submitB := by
    simp only [State.stagingRound, hlive, hws, hopen]
    rfl
  obtain ⟨a', b', hfed⟩ := h.feed hws
  have hA := ({ s with store := s.store.feed ws k.number false } : State).submitA_move
  have hB := ({ s with store := s.store.feed ws k.number false } : State).submitA.submitB_move
  have hopenPages : s.stagingRound.store.openPages = (s.store.feed ws k.number false).openPages := by
    rw [hround]
    simp only [StoreController.openPages, hB.pageA.open_iff, hB.pageB.open_iff, hA.pageA.open_iff,
      hA.pageB.open_iff]
  have hqueue : s.stagingRound.store.queue = (s.store.feed ws k.number false).queue := by
    rw [hround, hB.queue, hA.queue]
  rw [hopenPages, hqueue, hround]
  exact ⟨⟨a', b', (hfed.submitted (s := { s with store := s.store.feed ws k.number false }) hA).submitted hB⟩,
    (StoreController.feed_stagingSide s ws k.number).trans (hA.side.trans hB.side), s.store.feed_progress ws k.number⟩

/-- The pages can take no more: the queue is empty, or no page is open. -/
def StoreController.Sated (c : StoreController) : Prop := c.queue = [] ∨ ¬ c.pageA.Open ∧ ¬ c.pageB.Open

theorem State.drain_open (hlive : s.liveTake = some k) (hopen : k.state = .opened) : s.drain = s := by
  unfold State.drain
  split
  · obtain rfl : k = _ := Option.some.inj (hlive.symm.trans ‹_›)
    exact if_neg (by simp [hopen])
  · rfl

/-- Two rounds move all that can be moved, since each page starts at most once (R110). -/
theorem State.pump_fed (h : Fed c s.store k.number seq a b pk) (hlive : s.liveTake = some k)
    (hopen : k.state = .opened) :
    (∃ a' b', Fed c s.pump.store k.number seq a' b' pk) ∧ StagingSide s s.pump ∧ s.pump.store.Sated := by
  obtain ⟨⟨a1, b1, h1⟩, hside1, hprogress1⟩ := State.stagingRound_fed h hlive hopen
  have hlive1 : s.stagingRound.liveTake = some k := hside1.liveTake.trans hlive
  obtain ⟨⟨a2, b2, h2⟩, hside2, hprogress2⟩ := State.stagingRound_fed h1 hlive1 hopen
  have hpump : s.pump = s.stagingRound.stagingRound := State.drain_open (hside2.liveTake.trans hlive1) hopen
  have hshrinks := s.stagingRound.stagingRound_side.queue
  rw [hpump]
  refine ⟨⟨a2, b2, h2⟩, hside1.trans hside2, ?_⟩
  rcases hprogress1 with hempty | hfewer
  · rw [hempty] at hshrinks
    exact .inl (List.eq_nil_of_length_eq_zero (Nat.le_zero.mp hshrinks))
  · refine hprogress2.imp_right fun hlast => StoreController.openPages_eq_zero.mp ?_
    have htwo : s.store.openPages ≤ 2 := Nat.add_le_add (Bool.toNat_le _) (Bool.toNat_le _)
    omega

/-- Without a write state no word moves (R109). -/
theorem State.pump_idle (h : s.store.writeState = none) : s.pump = s := by
  have hround : s.stagingRound = s := by
    unfold State.stagingRound
    rw [h]
    split
    · cases ‹none = some _›
    · rfl
  rw [State.pump, hround, hround]
  unfold State.drain
  rw [h]
  split
  · cases ‹none = some _›
  · rfl

end Round

end Sys2Proof.Machine
end

section
/-!
The coding of the ended block (R60, R75, R76, R92): what the offers of the set's packets make of the store, the take's
record and the loss marks, track by track.
-/

namespace Sys2Proof.Machine

/-! ## The take's record -/

/-- A record with `p` packets more and `l` losses more, each count held at its greatest value (R81, R92). -/
def TakeRecord.counted (p l : Nat) (x : TakeRecord) : TakeRecord :=
  { x with
    packetCount := if p = 0 then x.packetCount else min (x.packetCount + p) 4294967295
    lossCount := if l = 0 then x.lossCount else min (x.lossCount + l) 65535 }

/-- The records of a take with `p` packets and `l` losses more. -/
def TakeController.counted (c : TakeController) (n p l : Nat) : TakeController :=
  { c with records := c.records.map fun x => if x.number = n then x.counted p l else x }

theorem TakeRecord.counted_packet (p l : Nat) (x : TakeRecord) :
    { x.counted p l with packetCount := min ((x.counted p l).packetCount + 1) Config.countMax }
      = x.counted (p + 1) l := by
  have hcount : min ((x.counted p l).packetCount + 1) 4294967295 = (x.counted (p + 1) l).packetCount := by
    rcases Nat.eq_zero_or_pos p with rfl | hp
    · simp [TakeRecord.counted]
    · simp only [TakeRecord.counted, if_neg hp.ne', if_neg p.succ_ne_zero]
      omega
  exact congrArg (fun n => { x.counted p l with packetCount := n }) hcount

theorem TakeRecord.counted_loss (p l : Nat) (x : TakeRecord) :
    (x.counted p l).addLoss 1 = x.counted p (l + 1) := by
  have hcount : min ((x.counted p l).lossCount + 1) 65535 = (x.counted p (l + 1)).lossCount := by
    rcases Nat.eq_zero_or_pos l with rfl | hl
    · simp [TakeRecord.counted]
    · simp only [TakeRecord.counted, if_neg hl.ne', if_neg l.succ_ne_zero]
      omega
  exact congrArg (fun n => { x.counted p l with lossCount := n }) hcount

theorem TakeController.counted_zero (c : TakeController) (n : Nat) : c.counted n 0 0 = c := by
  simp [TakeController.counted, TakeRecord.counted]

/-- A change of a counted record, where the change counts. -/
theorem TakeController.counted_map (c : TakeController) (n : Nat) {p l p' l' : Nat} {f : TakeRecord → TakeRecord}
    (hf : ∀ x : TakeRecord, f (x.counted p l) = x.counted p' l') :
    { c.counted n p l with
      records := (c.counted n p l).records.map fun x => if x.number = n then f x else x } = c.counted n p' l' := by
  have hrecord : ((fun x : TakeRecord => if x.number = n then f x else x)
      ∘ fun x => if x.number = n then x.counted p l else x)
      = fun x => if x.number = n then x.counted p' l' else x := by
    funext x
    by_cases hx : x.number = n
    · have hnumber : (x.counted p l).number = n := hx
      simp [hx, hnumber, hf]
    · simp [hx]
  simp only [TakeController.counted, List.map_map, hrecord]

/-- A live take whose record changes but for number and state stays live (R83). -/
theorem State.liveTake_map {s t : State} {f : TakeRecord → TakeRecord} (hstate : t.store.state = s.store.state)
    (hrecords : t.takes.records = s.takes.records.map f) (hf : ∀ x, (f x).state = x.state) :
    t.liveTake = s.liveTake.map f := by
  have hfind : t.takes.records.find? (fun x => x.state.live)
      = (s.takes.records.find? fun x => x.state.live).map f := by
    rw [hrecords, List.find?_map]
    simp only [Function.comp_def, hf]
  unfold State.liveTake
  rw [hstate, hfind]
  split <;> rfl

/-! ## The offers so far -/

/-- `t` differs from `s` at most in the block records, the takes' records and what staging moves. -/
def OfferSide (s t : State) : Prop :=
  ∃ blocks takes, StagingSide { s with coder := { s.coder with blocks := blocks }, takes := takes } t

theorem OfferSide.trans {s t u : State} (h : OfferSide s t) (k : OfferSide t u) : OfferSide s u := by
  obtain ⟨_, _, _, _, _, _, _, _, _, rfl⟩ := h
  obtain ⟨_, _, _, _, _, _, _, _, _, rfl⟩ := k
  exact ⟨_, _, _, _, _, _, _, _, _, rfl⟩

/-- The words of the packets of the tracks `ns`, as the queue holds them (R74, R110). -/
def packetStreamOf (packet : Nat → List Word) (ns : List Nat) : List PacketWord :=
  ns.flatMap fun n => markPacket (packet n)

/-- No word moves from the queue into a page: there is no write state, or no page is open (R109, R110). -/
def StoreController.Still (c : StoreController) : Prop :=
  c.writeState = none ∨ ¬ c.pageA.Open ∧ ¬ c.pageB.Open

/-- Whether the packet of track `n` was taken, by the words that were in the queue and the packets taken before it
(R75). The queue may have room beyond that, where words have moved on into the pages. -/
def RoomRule (u : State) (i : Nat) (kept : List Nat) (n : Nat) : Prop :=
  let before := kept.filter fun m => decide (m < n)
  let room := u.store.queue.length + (before.map fun m => (u.packetOf m i).length).sum
    + (u.packetOf n i).length ≤ 16384
  (room → n ∈ kept) ∧ (before = [] ∨ u.store.Still → n ∈ kept → room)

/-- From the state `u`, the tracks `done` of the take `k` have offered their packets and those of `kept` were taken;
`x` is the state now (R75, R76, R92, R110). -/
structure Coding (u : State) (k : TakeRecord) (i : Nat) (done kept : List Nat) (x : State) : Prop where
  side : OfferSide u x
  takes : x.takes = u.takes.counted k.number kept.length (done.length - kept.length)
  length : x.coder.blocks.length = u.coder.blocks.length
  blocks : ∀ n, x.coder.blocks.getD n {} = if n ∈ done
    then { u.coder.blocks.getD n {} with loss := decide (n ∉ kept) } else u.coder.blocks.getD n {}
  sub : kept.Sublist done
  room : ∀ n ∈ done, RoomRule u i kept n
  untouched : kept = [] → x.store = u.store
  idle : u.store.writeState = none → x.store
    = { u.store with queue := u.store.queue ++ packetStreamOf (fun n => u.packetOf n i) kept }
  fed : ∀ seq, u.store.nextSeq? = some seq →
    ∃ a b, Fed u.store x.store k.number seq a b (packetStreamOf (fun n => u.packetOf n i) kept)
  sated : ∀ seq, u.store.nextSeq? = some seq → kept ≠ [] → x.store.Sated

theorem StoreController.roomFor_iff {c : StoreController} {ws : List Word} :
    c.roomFor ws = true ↔ c.queue.length + ws.length ≤ 16384 := decide_eq_true_iff

/-- A loss mark moved is that track's only (R76). -/
theorem ArchiveCoder.setLoss_getD {c : ArchiveCoder} {n : Nat} (hn : n < c.blocks.length) (v : Bool) (j : Nat) :
    (c.setLoss n v).blocks.getD j {}
      = if j = n then { c.blocks.getD n {} with loss := v } else c.blocks.getD j {} := by
  rw [ArchiveCoder.setLoss, List.getD_eq_getElem?_getD, List.getElem?_modify]
  by_cases hj : n = j
  · subst hj
    simp [hn]
  · simp [hj, Ne.symm hj]

theorem markPacket_length (ws : List Word) : (markPacket ws).length = ws.length := by
  cases ws <;> simp [markPacket]

theorem packetStreamOf_length (packet : Nat → List Word) (ns : List Nat) :
    (packetStreamOf packet ns).length = (ns.map fun n => (packet n).length).sum := by
  simp only [packetStreamOf, List.length_flatMap, markPacket_length]

theorem packetStreamOf_append (packet : Nat → List Word) (ns : List Nat) (n : Nat) :
    packetStreamOf packet (ns ++ [n]) = packetStreamOf packet ns ++ markPacket (packet n) := by
  simp [packetStreamOf]

/-- The state with the packet of track `n` in the queue, before words move on into the pages. -/
def State.appendPacket (x : State) (take n : Nat) (ws : List Word) : State :=
  ({ x with
    store := { x.store with queue := x.store.queue ++ markPacket ws }
    coder := x.coder.setLoss n false } : State).mapTake take fun r =>
      { r with packetCount := min (r.packetCount + 1) Config.countMax }

theorem State.appendPacket_side (x : State) (take n : Nat) (ws : List Word) : OfferSide x (x.appendPacket take n ws) :=
  ⟨_, _, _, _, _, _, _, _, _, rfl⟩

namespace Coding

variable {u x : State} {k : TakeRecord} {i n : Nat} {done kept : List Nat}

theorem start (u : State) (k : TakeRecord) (i : Nat) : Coding u k i [] [] u where
  side := ⟨_, _, .refl _⟩
  takes := (TakeController.counted_zero ..).symm
  length := rfl
  blocks n := by simp
  sub := .slnil
  room n hn := absurd hn List.not_mem_nil
  untouched _ := rfl
  idle _ := by simp [packetStreamOf]
  fed seq hseq := ⟨_, _, .refl hseq⟩
  sated _ _ h := absurd rfl h

theorem live (h : Coding u k i done kept x) (hlive : u.liveTake = some k) :
    x.liveTake = some (k.counted kept.length (done.length - kept.length)) := by
  obtain ⟨_, _, _, _, _, _, _, _, _, heq⟩ := h.side
  have hstate : x.store.state = u.store.state := by rw [heq]
  have hrecords : x.takes.records = (u.takes.counted k.number kept.length (done.length - kept.length)).records := by
    rw [h.takes]
  rw [State.liveTake_map hstate hrecords fun y => by split <;> rfl, hlive]
  exact congrArg some (if_pos rfl)

theorem not_mem (hnew : ∀ m ∈ done, m < n) : n ∉ done := fun hn => lt_irrefl n (hnew n hn)

theorem packetOf_eq (h : Coding u k i done kept x) (hn : n ∉ done) : x.packetOf n i = u.packetOf n i := by
  have hblock := h.blocks n
  rw [if_neg hn] at hblock
  obtain ⟨_, _, _, _, _, _, _, _, _, heq⟩ := h.side
  have hmeter : x.meter = u.meter := by rw [heq]
  have htracks : x.tracks = u.tracks := by rw [heq]
  unfold State.packetOf State.packetFlags
  rw [hblock, hmeter, htracks]

/-- The words of the queue and those the pages took are those there were and those offered. -/
theorem queue_length (h : Coding u k i done kept x) : ∃ moved, moved + x.store.queue.length
      = u.store.queue.length + (kept.map fun m => (u.packetOf m i).length).sum
    ∧ (kept = [] ∨ u.store.Still → moved = 0) := by
  cases hws : u.store.writeState with
  | none =>
    refine ⟨0, ?_, fun _ => rfl⟩
    rw [h.idle hws, List.length_append, packetStreamOf_length, Nat.zero_add]
  | some ws =>
    obtain ⟨a, b, hfed⟩ := h.fed ws.nextStaging (by simp [StoreController.nextSeq?, hws])
    have horder := congrArg List.length hfed.order
    rw [List.length_append, List.length_append, packetStreamOf_length] at horder
    refine ⟨_, horder, fun hcond => ?_⟩
    rcases hcond with hkept | hnone | ⟨hA, hB⟩
    · rw [h.untouched hkept, hkept, List.map_nil, List.sum_nil] at horder
      omega
    · exact absurd (hws.symm.trans hnone) (Option.some_ne_none _)
    · rw [hfed.tookA.nil_of_closed hA, hfed.tookB.nil_of_closed hB]
      split <;> rfl

/-- A later packet changes nothing for the tracks before it. -/
theorem roomRule_append {m : Nat} (hm : m < n) (h : RoomRule u i kept m) : RoomRule u i (kept ++ [n]) m := by
  have hfilter : (kept ++ [n]).filter (fun j => decide (j < m)) = kept.filter fun j => decide (j < m) := by
    simp [List.filter_append, Nat.lt_asymm hm]
  have hmem : m ∈ kept ++ [n] ↔ m ∈ kept := by simp [hm.ne]
  unfold RoomRule at h ⊢
  rwa [hfilter, hmem]

theorem kept_lt (h : Coding u k i done kept x) (hnew : ∀ m ∈ done, m < n) : ∀ m ∈ kept, m < n :=
  fun m hm => hnew m (h.sub.subset hm)

/-- The packet offered last, taken where the queue had room (R75). -/
theorem roomRule_taken (h : Coding u k i done kept x) (hnew : ∀ m ∈ done, m < n)
    (hroom : x.store.roomFor (u.packetOf n i) = true) : RoomRule u i (kept ++ [n]) n := by
  have hfilter : (kept ++ [n]).filter (fun j => decide (j < n)) = kept := by
    have hall : kept.filter (fun j => decide (j < n)) = kept :=
      List.filter_eq_self.mpr fun m hm => decide_eq_true (h.kept_lt hnew m hm)
    simp [List.filter_append, hall]
  obtain ⟨moved, hlength, hstill⟩ := h.queue_length
  have hfits := StoreController.roomFor_iff.mp hroom
  unfold RoomRule
  rw [hfilter]
  refine ⟨fun _ => by simp, fun hcond _ => ?_⟩
  have hmoved := hstill hcond
  omega

/-- The packet offered last, dropped where the queue had no room (R75). -/
theorem roomRule_dropped (h : Coding u k i done kept x) (hnew : ∀ m ∈ done, m < n)
    (hroom : ¬ x.store.roomFor (u.packetOf n i) = true) : RoomRule u i kept n := by
  have hfilter : kept.filter (fun j => decide (j < n)) = kept :=
    List.filter_eq_self.mpr fun m hm => decide_eq_true (h.kept_lt hnew m hm)
  obtain ⟨moved, hlength, -⟩ := h.queue_length
  have hfull := mt StoreController.roomFor_iff.mpr hroom
  unfold RoomRule
  rw [hfilter]
  refine ⟨fun hfits => absurd ?_ hfull, fun _ hn => absurd (h.kept_lt hnew n hn) (lt_irrefl n)⟩
  omega

/-- The loss marks once the packet of track `n` has been offered (R76). -/
theorem blocks_step (h : Coding u k i done kept x) (hnew : ∀ m ∈ done, m < n) (hn : n < u.coder.blocks.length)
    {kept' : List Nat} {v : Bool} (hv : decide (n ∉ kept') = v) (hold : ∀ m ∈ done, m ∈ kept' ↔ m ∈ kept)
    (j : Nat) :
    (x.coder.setLoss n v).blocks.getD j {} = if j ∈ done ++ [n]
      then { u.coder.blocks.getD j {} with loss := decide (j ∉ kept') } else u.coder.blocks.getD j {} := by
  rw [ArchiveCoder.setLoss_getD (h.length ▸ hn)]
  by_cases hj : j = n
  · subst hj
    rw [if_pos rfl, h.blocks j, if_neg (not_mem hnew), if_pos (List.mem_append_right _ (List.mem_singleton_self j)), hv]
  · have hmem : j ∈ done ++ [n] ↔ j ∈ done := by simp [hj]
    rw [if_neg hj, h.blocks j]
    by_cases hd : j ∈ done
    · rw [if_pos hd, if_pos (hmem.mpr hd)]
      simp only [hold j hd]
    · rw [if_neg hd, if_neg (mt hmem.mp hd)]

/-- A packet that finds no room is dropped, counted and marked (R76, R92). -/
theorem drop (h : Coding u k i done kept x) (hnew : ∀ m ∈ done, m < n) (hn : n < u.coder.blocks.length)
    (hroom : ¬ x.store.roomFor (u.packetOf n i) = true) :
    Coding u k i (done ++ [n]) kept (x.offerPacket k.number n (u.packetOf n i)) := by
  have hoffer : x.offerPacket k.number n (u.packetOf n i)
      = ({ x with coder := x.coder.setLoss n true }).mapTake k.number fun r => r.addLoss 1 := if_neg hroom
  rw [hoffer]
  have hkept : n ∉ kept := fun hm => lt_irrefl n (h.kept_lt hnew n hm)
  refine ⟨h.side.trans ⟨_, _, .refl _⟩, ?_, (ArchiveCoder.setLoss_length ..).trans h.length,
    h.blocks_step hnew hn (decide_eq_true hkept) fun _ _ => Iff.rfl, h.sub.trans (List.sublist_append_left ..),
    fun m hm => ?_, h.untouched, h.idle, h.fed, h.sated⟩
  · have hcount : (done ++ [n]).length - kept.length = done.length - kept.length + 1 := by
      have := h.sub.length_le
      rw [List.length_append, List.length_singleton]
      omega
    rw [hcount]
    show ({ x.takes with records := x.takes.records.map _ } : TakeController) = _
    rw [h.takes]
    exact TakeController.counted_map _ _ fun r => r.counted_loss _ _
  · rcases List.mem_append.mp hm with hm | hm
    · exact h.room m hm
    · rw [List.mem_singleton.mp hm]
      exact h.roomRule_dropped hnew hroom

theorem appendPacket_takes (h : Coding u k i done kept x) (ws : List Word) : (x.appendPacket k.number n ws).takes
    = u.takes.counted k.number (kept ++ [n]).length ((done ++ [n]).length - (kept ++ [n]).length) := by
  have hcount : (done ++ [n]).length - (kept ++ [n]).length = done.length - kept.length := by simp
  rw [hcount, List.length_append]
  show ({ x.takes with records := x.takes.records.map _ } : TakeController) = _
  rw [h.takes]
  exact TakeController.counted_map _ _ fun r => r.counted_packet _ _

theorem appendPacket_live (h : Coding u k i done kept x) (hlive : u.liveTake = some k) (ws : List Word) :
    ∃ k', (x.appendPacket k.number n ws).liveTake = some k' ∧ k'.number = k.number ∧ k'.state = k.state := by
  have hmap := State.liveTake_map (s := x) (t := x.appendPacket k.number n ws) rfl rfl fun r => by split <;> rfl
  rw [hmap, h.live hlive]
  exact ⟨_, congrArg some (if_pos rfl), rfl, rfl⟩

/-- What the rounds after the append leave (R110). -/
theorem appendPacket_pump (h : Coding u k i done kept x) (hlive : u.liveTake = some k) (hopen : k.state = .opened) :
    let y := x.appendPacket k.number n (u.packetOf n i)
    StagingSide y y.pump ∧ (u.store.writeState = none → y.pump = y)
      ∧ ∀ seq, u.store.nextSeq? = some seq → y.pump.store.Sated
        ∧ ∃ a b, Fed u.store y.pump.store k.number seq a b
          (packetStreamOf (fun n => u.packetOf n i) (kept ++ [n])) := by
  intro y
  have hidle : u.store.writeState = none → y.pump = y := fun hws => by
    have hx : x.store.writeState = none := by rw [h.idle hws, hws]
    exact State.pump_idle (s := y) hx
  have hsome : ∀ seq, u.store.nextSeq? = some seq → StagingSide y y.pump ∧ y.pump.store.Sated
      ∧ ∃ a b, Fed u.store y.pump.store k.number seq a b
        (packetStreamOf (fun n => u.packetOf n i) (kept ++ [n])) := fun seq hseq => by
    obtain ⟨a, b, hfed⟩ := h.fed seq hseq
    obtain ⟨k', hk', hnumber, hstate⟩ := h.appendPacket_live (n := n) hlive (u.packetOf n i)
    have hy := hfed.append (markPacket (u.packetOf n i))
    rw [← hnumber] at hy ⊢
    rw [packetStreamOf_append]
    obtain ⟨hmore, hside, hsated⟩ := State.pump_fed (s := y) hy hk' (hstate.trans hopen)
    exact ⟨hside, hsated, hmore⟩
  refine ⟨?_, hidle, fun seq hseq => (hsome seq hseq).2⟩
  cases hws : u.store.writeState with
  | none =>
    rw [hidle hws]
    exact .refl y
  | some ws => exact (hsome ws.nextStaging (by simp [StoreController.nextSeq?, hws])).1

/-- A packet that finds room joins the queue whole, and words move on into the pages (R75, R110). -/
theorem accept (h : Coding u k i done kept x) (hlive : u.liveTake = some k) (hopen : k.state = .opened)
    (hnew : ∀ m ∈ done, m < n) (hn : n < u.coder.blocks.length)
    (hroom : x.store.roomFor (u.packetOf n i) = true) :
    Coding u k i (done ++ [n]) (kept ++ [n]) (x.offerPacket k.number n (u.packetOf n i)) := by
  have hoffer : x.offerPacket k.number n (u.packetOf n i)
      = (x.appendPacket k.number n (u.packetOf n i)).pump := if_pos hroom
  obtain ⟨hside, hidle, hsome⟩ := h.appendPacket_pump (n := n) hlive hopen
  have htakes := h.appendPacket_takes (n := n) (u.packetOf n i)
  have hcoder : (x.appendPacket k.number n (u.packetOf n i)).pump.coder = x.coder.setLoss n false := by
    obtain ⟨_, _, _, _, _, _, _, heq⟩ := hside
    rw [heq]
    rfl
  have hkeeps : (x.appendPacket k.number n (u.packetOf n i)).pump.takes
      = (x.appendPacket k.number n (u.packetOf n i)).takes := by
    obtain ⟨_, _, _, _, _, _, _, heq⟩ := hside
    rw [heq]
  have hnil : kept ++ [n] ≠ [] := by simp
  rw [hoffer]
  refine ⟨h.side.trans ((x.appendPacket_side k.number n _).trans ⟨_, _, hside⟩), hkeeps.trans htakes, ?_, ?_,
    h.sub.append (List.Sublist.refl _), fun m hm => ?_, fun hk => absurd hk hnil, fun hws => ?_,
    fun seq hseq => (hsome seq hseq).2, fun seq hseq _ => (hsome seq hseq).1⟩
  · rw [hcoder]
    exact (ArchiveCoder.setLoss_length ..).trans h.length
  · rw [hcoder]
    exact h.blocks_step hnew hn (by simp) fun m hm => by simp [(hnew m hm).ne]
  · rcases List.mem_append.mp hm with hm | hm
    · exact roomRule_append (hnew m hm) (h.room m hm)
    · rw [List.mem_singleton.mp hm]
      exact h.roomRule_taken hnew hroom
  · rw [hidle hws, packetStreamOf_append, ← List.append_assoc]
    show ({ x.store with queue := x.store.queue ++ _ } : StoreController) = _
    rw [h.idle hws]

/-- The set coded in ascending order (R60): every track has offered its packet. -/
theorem codeTracks (h : Coding u k i done kept x) (hlive : u.liveTake = some k) (hopen : k.state = .opened)
    {ns : List Nat} (hsorted : (done ++ ns).Pairwise (· < ·)) (hlt : ∀ n ∈ ns, n < u.coder.blocks.length) :
    ∃ kept', Coding u k i (done ++ ns) kept' (x.codeTracks k.number i ns) := by
  induction ns generalizing done kept x with
  | nil => exact ⟨kept, by rwa [List.append_nil]⟩
  | cons n ns ih =>
    have hnew : ∀ m ∈ done, m < n := fun m hm =>
      (List.pairwise_append.mp hsorted).2.2 m hm n List.mem_cons_self
    have hn : n < u.coder.blocks.length := hlt n List.mem_cons_self
    have hassoc : done ++ n :: ns = (done ++ [n]) ++ ns := by simp
    rw [State.codeTracks, h.packetOf_eq (not_mem hnew)]
    rw [hassoc] at hsorted ⊢
    have hrest : ∀ m ∈ ns, m < u.coder.blocks.length := fun m hm => hlt m (List.mem_cons_of_mem _ hm)
    by_cases hroom : x.store.roomFor (u.packetOf n i) = true
    · exact ih (h.accept hlive hopen hnew hn hroom) hsorted hrest
    · exact ih (h.drop hnew hn hroom) hsorted hrest

end Coding

end Sys2Proof.Machine
end

section
/-!
The archive boundary (R19, R58 to R60, R85): what the take's work is in each state of the live take, and what the
boundary makes of it.
-/

namespace Sys2Proof.Machine

/-! ## The take's work -/

section TakeWork

variable {s : State} {k : TakeRecord} {i : Nat}

theorem State.takeWork_none (h : s.liveTake = none) : s.takeWork = s := by
  simp only [State.takeWork, State.indexGiven, h]

theorem State.takeWork_uncounted (h : s.liveTake = some k) (hcounts : k.counts = false) :
    s.takeWork = if s.takes.openReady && k.state = .opened && !k.begun then s.beginTake k else s := by
  have hindex : s.indexGiven = none := by
    unfold State.indexGiven
    split
    · obtain rfl : k = _ := Option.some.inj (h.symm.trans ‹_›)
      exact if_neg (by simp [hcounts])
    · rfl
  simp only [State.takeWork, hindex, h]

theorem State.takeWork_counted (h : s.liveTake = some k) (hcounts : k.counts = true)
    (hi : s.coder.nextIndex = some i) : s.takeWork = s.endBlock k i := by
  have hindex : s.indexGiven = some (k, i) := by simp [State.indexGiven, h, hi, hcounts]
  simp only [State.takeWork, hindex]

/-- The end of a block with no transition armed, below the greatest index (R59). -/
theorem State.endBlock_unarmed (hi : i < 4294967295) (harmed : s.takes.armed = none) :
    s.endBlock k i = (s.codeEnded k i).disarm.raiseIndex i := by
  have hmax : ¬ Config.indexMax ≤ i := Nat.not_le_of_lt hi
  simp only [State.endBlock, if_neg hmax, harmed]
  rfl

/-- The end of a store operation moves the Link Unit and the Request Queue only. -/
theorem State.completeStoreOp_eq (s : State) (st : Status) (ws : List Word) : s.completeStoreOp st ws
    = { s with link := (s.completeStoreOp st ws).link, requests := (s.completeStoreOp st ws).requests } := by
  unfold State.completeStoreOp
  split
  · rfl
  · exact (State.complete_eq _ _ _ _).trans rfl

end TakeWork

/-! ## The frame of the boundary -/

section Boundary

variable {s : State}

theorem State.codeTracks_flash (take i : Nat) (ns : List Nat) :
    ∀ s : State, (s.codeTracks take i ns).flash = s.flash := by
  induction ns with
  | nil => exact fun _ => rfl
  | cons n ns ih =>
    intro s
    rw [State.codeTracks, ih]
    unfold State.offerPacket
    split
    · exact (State.pump_side _).flash
    · rfl

/-- The take's work asks for operations and makes none (R103). -/
theorem State.takeWork_flash (s : State) : s.takeWork.flash = s.flash := by
  unfold State.takeWork
  split
  · rename_i t i _
    have hcoded : (s.codeEnded t i).disarm.flash = s.flash := by
      rw [State.disarm_flash]
      unfold State.codeEnded
      split
      · exact State.codeTracks_flash _ _ _ _
      · rfl
    unfold State.endBlock
    dsimp only
    split
    · exact (State.exhaust_side ..).flash.trans hcoded
    · exact (State.takeHold_side ..).flash.trans hcoded
  · split
    · exact (State.completeStoreOp_side ..).flash
    · rfl
  · rfl

/-- What follows the take's work: blocks and route-change marks cleared, the port settled. -/
theorem State.archiveBoundary_portSide (s : State) : PortSide s.mixBoundary.takeWork.clearBlocks s.archiveBoundary :=
  State.settlePort_portSide _

theorem exec_archiveBoundary (hdue : s.sources.boundaryDue = true) (hrow : s.sources.rowCounter = 0) :
    exec .archiveBoundary s = .next s.archiveBoundary :=
  congrArg Host.Outcome.next (if_pos (by simp [State.archiveDue, hdue, hrow]))

/-- The block records after the boundary keep their loss marks only (R56, R60). -/
theorem State.archiveBoundary_blocks (s : State) (n : Nat) : s.archiveBoundary.coder.blocks.getD n {}
    = { loss := (s.mixBoundary.takeWork.coder.blocks.getD n {}).loss } := by
  rw [s.archiveBoundary_portSide.eq]
  exact List.getD_map s.mixBoundary.takeWork.coder.blocks {} BlockRecord.empty

/-- The Route marks after the boundary (R41). -/
theorem State.archiveBoundary_mark (s : State) (n : Nat) :
    (s.archiveBoundary.track n).mark = { (s.track n).mark with marked := false } := by
  have hmarks : s.archiveBoundary.tracks.routeMarks
      = s.tracks.routeMarks.map fun (m : RouteMark) => { m with marked := false } := by
    rw [s.archiveBoundary_portSide.eq]
    exact congrArg (fun c : TrackConditioner => c.routeMarks.map fun (m : RouteMark) => { m with marked := false })
      s.mixBoundary.takeWork_kept.tracks
  rw [State.track, hmarks]
  exact List.getD_map s.tracks.routeMarks {} fun (m : RouteMark) => { m with marked := false }

/-- What the boundary leaves of the take's work, but for the port. -/
structure AfterWork (w t : State) : Prop where
  takes : t.takes = w.takes
  next : t.coder.nextIndex = w.coder.nextIndex
  store : t.store = { w.store with inFlight := t.store.inFlight, waiting := t.store.waiting }
  requests : t.requests = w.requests
  link : t.link = w.link
  readout : t.readout = w.readout
  loss : ∀ n, (t.coder.blocks.getD n {}).loss = (w.coder.blocks.getD n {}).loss

theorem State.archiveBoundary_after (s : State) : AfterWork s.mixBoundary.takeWork s.archiveBoundary := by
  have hloss := fun n => congrArg BlockRecord.loss (s.archiveBoundary_blocks n)
  obtain ⟨_, _, heq⟩ := s.archiveBoundary_portSide
  refine ⟨?_, ?_, ?_, ?_, ?_, ?_, hloss⟩
  all_goals rw [heq]; rfl

/-- A take that begins (R85). -/
theorem State.beginTake_eq (s : State) (k : TakeRecord) : s.beginTake k = { s with
    coder := { s.coder with
      nextIndex := some 0, blocks := s.coder.blocks.map fun b => ({ b with loss := false } : BlockRecord) }
    takes := { s.takes with
      openReady := false
      records := s.takes.records.map fun x => if x.number = k.number then { x with begun := true } else x }
    link := (s.beginTake k).link, requests := (s.beginTake k).requests } :=
  State.completeStoreOp_eq _ _ _

/-- The TAKE_OPEN of a take that begins is answered (R85). -/
theorem State.beginTake_answered {k : TakeRecord} {op : StoreOp} {e : Entry} (hop : s.requests.storeOp = some op)
    (hlawful : s.requests.Lawful) (he : e ∈ s.requests.entries) (harrival : e.arrival = op.arrival) :
    Answered s.link { s.requests with storeOp := none } e .done [natWord k.number] (s.beginTake k) := by
  obtain ⟨m, hm⟩ : ∃ m : State, m = { s with
    coder := { s.coder with
      nextIndex := some 0, blocks := s.coder.blocks.map fun b => ({ b with loss := false } : BlockRecord) }
    takes := { s.takes with
      openReady := false
      records := s.takes.records.map fun x => if x.number = k.number then { x with begun := true } else x }
    requests := { s.requests with storeOp := none } } := ⟨_, rfl⟩
  have hbegin : s.beginTake k = m.complete e.arrival .done [natWord k.number] := by
    rw [harrival, hm]
    simp only [State.beginTake, State.completeStoreOp, State.mapTake, hop]
  have hanswered := State.complete_mem (s := m) (e := e) (by rw [hm]; exact hlawful) (by rw [hm]; exact he) .done
    [natWord k.number]
  rw [hbegin]
  rw [hm] at hanswered ⊢
  exact hanswered

/-- The alert summary has no part in what the boundary does after the take's work. -/
theorem Answered.afterWork {l : LinkUnit} {q : RequestQueue} {e : Entry} {st : Status} {ws : List Word}
    (h : Answered l q e st ws s.mixBoundary.takeWork) : Answered l q e st ws s.archiveBoundary := by
  have hcleared : Answered l q e st ws s.mixBoundary.takeWork.clearBlocks := h
  exact hcleared.portSide s.archiveBoundary_portSide

end Boundary

end Sys2Proof.Machine
end

section
/-!
The archive boundary's statement (R19, R41, R58 to R60, R72, R75, R76, R85, R92, R110): the frame, then the take's work
by the state of the live take.
-/

namespace Sys2Proof.Machine

/-- The words the pages and the queue hold once the set is coded (R110). -/
theorem Coding.words {u x : State} {k : TakeRecord} {i : Nat} {done kept : List Nat}
    (h : Coding u k i done kept x) : ∃ a b : List PacketWord,
    (if u.store.pageA.state ≠ .filling ∧ u.store.pageB.state = .filling then b ++ a else a ++ b) ++ x.store.queue
        = u.store.queue ++ packetStreamOf (fun n => u.packetOf n i) kept
      ∧ (u.store.writeState = none →
        a = [] ∧ b = [] ∧ x.store.pageA = u.store.pageA ∧ x.store.pageB = u.store.pageB)
      ∧ ∀ ws, u.store.writeState = some ws →
        u.store.pageA.Took x.store.pageA k.number ws.nextStaging a
        ∧ u.store.pageB.Took x.store.pageB k.number
          (ws.nextStaging + (decide (u.store.pageA.state = .empty)).toNat) b
        ∧ x.store.nextSeq? = some (ws.nextStaging
          + (decide (u.store.pageA.state = .empty ∧ a ≠ [])).toNat
          + (decide (u.store.pageB.state = .empty ∧ b ≠ [])).toNat)
        ∧ (kept ≠ [] → x.store.Sated) := by
  cases hws : u.store.writeState with
  | none =>
    refine ⟨[], [], ?_, fun _ => ⟨rfl, rfl, ?_, ?_⟩, nofun⟩
    · rw [h.idle hws]
      simp
    · rw [h.idle hws]
    · rw [h.idle hws]
  | some ws =>
    have hseq : u.store.nextSeq? = some ws.nextStaging := by simp [StoreController.nextSeq?, hws]
    obtain ⟨a, b, hfed⟩ := h.fed _ hseq
    refine ⟨a, b, hfed.order, nofun, fun w hw => ?_⟩
    obtain rfl := Option.some.inj hw
    exact ⟨hfed.tookA, hfed.tookB, hfed.next, h.sated _ hseq⟩

/-- The offers have no part in the links, the readout and the requests. -/
theorem Coding.frame {u x : State} {k : TakeRecord} {i : Nat} {done kept : List Nat} (h : Coding u k i done kept x) :
    x.link = u.link ∧ x.readout = u.readout ∧ x.requests = u.requests := by
  obtain ⟨_, _, _, _, _, _, _, _, _, heq⟩ := h.side
  rw [heq]
  exact ⟨rfl, rfl, rfl⟩

/-- No page is open, page by page. -/
theorem closed_iff {p q : StagingPage} :
    (∀ r ∈ [p, q], r.state ≠ .empty ∧ r.state ≠ .filling) ↔ ¬ p.Open ∧ ¬ q.Open := by
  simp [StagingPage.Open]

/-- The coding of the block of an OPEN take, from what the mix part leaves (R60). -/
theorem State.codeEnded_coding {u : State} {k : TakeRecord} (hlive : u.liveTake = some k) (hopen : k.state = .opened)
    (hset : k.SetLawful) (hblocks : u.coder.blocks.length = 128) (i : Nat) :
    ∃ kept, Coding u k i k.trackSet kept (u.codeEnded k i) := by
  obtain ⟨hsorted, hlt⟩ := hset
  have hcoded : u.codeEnded k i = u.codeTracks k.number i k.trackSet := if_pos hopen
  rw [hcoded]
  exact (Coding.start u k i).codeTracks hlive hopen hsorted fun n hn => hblocks ▸ hlt n hn

theorem State.liveTake_mem {s : State} {k : TakeRecord} (h : s.liveTake = some k) : k ∈ s.takes.records := by
  unfold State.liveTake at h
  split at h
  · cases h
  · cases h
  all_goals exact List.mem_of_find?_eq_some h

/-- Settles O50: the frame of the boundary, and the work of the take by the state of the live take. -/
theorem archiveBoundaryIndexesAndCodes : Obligations.ArchiveBoundaryIndexesAndCodes := by
  intro s hsized hdue hrow
  refine ⟨s.archiveBoundary, exec_archiveBoundary hdue hrow, ?_⟩
  beta_reduce
  intro u ports loss
  have hafter : AfterWork u.takeWork s.archiveBoundary := s.archiveBoundary_after
  have hkept := s.mixBoundary.takeWork_kept
  have hport := s.archiveBoundary_portSide.eq
  obtain ⟨-, -, -, -, -, -, -, hblocks, -, -, -, -, -, hsets⟩ := hsized
  have hports : u.takeWork.store = u.store → ports := fun hw => by
    have hstore := hafter.store
    rw [hw] at hstore
    exact hstore
  refine ⟨⟨?_, ?_, ?_, ?_, ?_, ?_, fun n _ => ⟨s.archiveBoundary_mark n, ?_⟩⟩,
    fun hnone => ?_, fun k hlive => ⟨fun hrest => ?_, fun hopen hbegun hready => ?_,
      fun i hbegun hi hmax harmed => ⟨fun hpaused => ?_, fun hopen => ?_⟩⟩⟩
  · rw [hport]
    exact hkept.sources
  · rw [hport]
    exact hkept.mix
  · rw [hport]
    exact hkept.stream
  · rw [hport]
    exact hkept.meter
  · rw [hport]
    exact s.mixBoundary.takeWork_flash
  · have htracks : s.archiveBoundary.tracks = { s.mixBoundary.takeWork.tracks with
        routeMarks := s.archiveBoundary.tracks.routeMarks } := by
      rw [hport]
      rfl
    rw [hkept.tracks] at htracks
    exact htracks
  · rw [s.archiveBoundary_blocks n]
    exact congrArg (fun v => ({ loss := v } : BlockRecord)) (hafter.loss n).symm
  · have hw : u.takeWork = u := State.takeWork_none (s := u) hnone
    rw [hw] at hafter
    exact ⟨hafter.takes, hafter.next, hports (by rw [hw]), hafter.requests, hafter.link, hafter.readout,
      fun n _ => hafter.loss n⟩
  · have hw : u.takeWork = u := by
      have hcounts : k.counts = false := by
        rcases hrest with h | ⟨h, -⟩ <;> simp [TakeRecord.counts, h]
      rw [State.takeWork_uncounted (s := u) hlive hcounts]
      refine if_neg ?_
      rcases hrest with h | ⟨-, h⟩
      · simp [h]
      · have hu : u.takes.openReady = false := h
        simp [hu]
    rw [hw] at hafter
    exact ⟨hafter.takes, hafter.next, hports (by rw [hw]), hafter.requests⟩
  · have hw : u.takeWork = u.beginTake k := by
      have hu : u.takes.openReady = true := hready
      rw [State.takeWork_uncounted (s := u) hlive (by simp [TakeRecord.counts, hbegun])]
      exact if_pos (by simp [hu, hopen, hbegun])
    have hbegin := u.beginTake_eq k
    refine ⟨?_, hports ?_, fun n hn => ?_, ?_, fun op e hop hlawful he harrival => ?_⟩
    · rw [hafter.next, hw, hbegin]
    · rw [hw, hbegin]
    · show (s.archiveBoundary.coder.blocks.getD n {}).loss = false
      rw [hafter.loss n, hw, hbegin]
      exact congrArg BlockRecord.loss
        (List.getD_map s.coder.blocks {} fun b => ({ b with loss := false } : BlockRecord))
    · rw [hafter.takes, hw, hbegin]
      rfl
    · have hanswered := State.beginTake_answered (s := u) (k := k) hop hlawful he harrival
      rw [← hw] at hanswered
      exact hanswered.afterWork
  · have hw : u.takeWork = u.disarm.raiseIndex i := by
      have hcoded : u.codeEnded k i = u := if_neg (by simp [hpaused])
      rw [State.takeWork_counted (s := u) hlive (by simp [TakeRecord.counts, hbegun, hpaused]) hi,
        State.endBlock_unarmed (s := u) hmax harmed, hcoded]
    rw [hw] at hafter
    have htakes : u.disarm.takes = s.takes := by
      show ({ s.takes with armed := none } : TakeController) = s.takes
      rw [← harmed]
    exact ⟨hafter.next, hafter.takes.trans htakes, hports (by rw [hw]; rfl), hafter.requests,
      fun n _ => hafter.loss n⟩
  · obtain ⟨kept, hcoding⟩ :=
      State.codeEnded_coding (u := u) hlive hopen (hsets k (State.liveTake_mem hlive)) hblocks i
    have hw : u.takeWork = (u.codeEnded k i).disarm.raiseIndex i := by
      rw [State.takeWork_counted (s := u) hlive (by simp [TakeRecord.counts, hbegun, hopen]) hi,
        State.endBlock_unarmed (s := u) hmax harmed]
    rw [hw] at hafter
    intro c packet
    obtain ⟨a, b, horder, hidle, hpages⟩ := hcoding.words
    have hsub := hcoding.sub
    have hcounted := hcoding.takes
    obtain ⟨hlink, hreadout, hrequests⟩ := hcoding.frame
    have hstore : s.archiveBoundary.store = { (u.codeEnded k i).store with
      inFlight := s.archiveBoundary.store.inFlight, waiting := s.archiveBoundary.store.waiting } := hafter.store
    have hqueue : s.archiveBoundary.store.queue = (u.codeEnded k i).store.queue := by rw [hstore]
    have hA : s.archiveBoundary.store.pageA = (u.codeEnded k i).store.pageA := by rw [hstore]
    have hB : s.archiveBoundary.store.pageB = (u.codeEnded k i).store.pageB := by rw [hstore]
    have hnext : s.archiveBoundary.store.nextSeq? = (u.codeEnded k i).store.nextSeq? := by rw [hstore]; rfl
    refine ⟨hafter.next, hafter.requests.trans hrequests, hafter.link.trans hlink, hafter.readout.trans hreadout, ?_,
      kept, a, b, hsub, ?_, fun n _ => ?_, fun n hn => ?_, fun hnil => ?_, ?_, fun hnone => ?_, fun ws hws => ?_⟩
    · obtain ⟨_, _, _, _, _, _, _, _, _, heq⟩ := hcoding.side
      rw [hstore, heq]
      rfl
    · rw [hafter.takes]
      show ({ (u.codeEnded k i).takes with armed := none } : TakeController) = _
      have hu : u.takes.armed = none := harmed
      rw [hcounted, ← hu]
      rfl
    · show (s.archiveBoundary.coder.blocks.getD n {}).loss = _
      rw [hafter.loss n]
      show ((u.codeEnded k i).coder.blocks.getD n {}).loss = _
      rw [hcoding.blocks n]
      split <;> rfl
    · obtain ⟨htaken, hroom⟩ := hcoding.room n hn
      intro before room
      refine ⟨fun h => htaken (of_decide_eq_true h), fun h hin => decide_eq_true (hroom ?_ hin)⟩
      exact h.imp_right (Or.imp_right closed_iff.mp)
    · exact hports (by rw [hw]; exact hcoding.untouched hnil)
    · rw [hqueue]
      exact horder.trans (congrArg _ (List.flatMap_congr fun n _ => by
        show markPacket (packet n) = _
        cases packet n <;> rfl))
    · rw [hA, hB]
      exact hidle hnone
    · obtain ⟨htookA, htookB, hseq, hsated⟩ := hpages ws hws
      rw [hA, hB, hqueue]
      exact ⟨htookA, htookB, hnext.trans hseq, fun hne => (hsated hne).imp_right closed_iff.mpr⟩

end Sys2Proof.Machine
end

section
/-!
The route table and the delay lines under every command (R37, R38, R43 to R45): of the moves of the sample path only
TRACK_SET, TRIM_CORRECT, a row and a reset touch them, and each keeps what is said of every single track.
-/

namespace Sys2Proof.Machine

/-! ## One track of the tables -/

section Tracks

variable {s : State} {n : Nat}

theorem getD_set_same {α : Type} {xs : List α} {n : Nat} (h : n < xs.length) (a d : α) : (xs.set n a).getD n d = a := by
  simp [List.getD_eq_getElem?_getD, h]

theorem getD_set_other {α : Type} (xs : List α) {n k : Nat} (h : k ≠ n) (a d : α) :
    (xs.set n a).getD k d = xs.getD k d := by
  simp [List.getD_eq_getElem?_getD, List.getElem?_set_ne h.symm]

/-- Putting one track's parts back leaves the others. -/
theorem State.setTrack_track_other {k : Nat} (h : k ≠ n) (p : TrackParts) : (s.setTrack n p).track k = s.track k := by
  simp only [State.track, State.setTrack, getD_set_other _ h]

theorem State.setTrack_route (h : n < s.tracks.routes.length) (p : TrackParts) :
    ((s.setTrack n p).track n).route = p.route := getD_set_same h _ _

theorem State.setTrack_line (h : n < s.tracks.lines.length) (p : TrackParts) :
    ((s.setTrack n p).track n).line = p.line := getD_set_same h _ _

/-- The parts put back are the track's. -/
theorem State.setTrack_track_same (hs : s.Sized) (hn : n < 128) (p : TrackParts) : (s.setTrack n p).track n = p := by
  obtain ⟨-, hconceal, hroutes, hlines, hfilters, hmarks, hsaturations, -⟩ := hs
  simp only [State.track, State.setTrack]
  rw [getD_set_same (by omega), getD_set_same (by omega), getD_set_same (by omega), getD_set_same (by omega),
    getD_set_same (by omega), getD_set_same (by omega)]

/-- A row leaves the route table, whatever the sizes of the other tables (R39). -/
theorem State.rowSamples_routes_of_length (h : s.tracks.routes.length = 128) :
    s.rowSamples.tracks.routes = s.tracks.routes := by
  have hrow : s.rowSamples.tracks.routes = s.allTracks.map TrackParts.route := by
    show ((s.allTracks.map fun p => p.rowIf s.sources.inputRow).map Prod.fst).map TrackParts.route = _
    simp only [List.map_map]
    exact List.map_congr_left fun p _ => p.rowIf_route _
  rw [hrow]
  refine List.ext_getElem (by simp [h]) fun k hk hk' => ?_
  simp [State.allTracks, State.track, List.getD_eq_getElem?_getD, hk']

/-- Correcting one trim puts that track's entry back with it (R53). -/
theorem trim_eq (routes : List Route) (n g : Nat) : (routes.modify n fun r => { r with trim := g })
    = routes.set n { routes.getD n {} with trim := g } :=
  modify_eq_set_getD _ _ _ _

end Tracks

/-! ## The route table -/

/-- What the rules ask of entry `n` of the route table (R37, R38). -/
def Route.LawfulAt (rate : Rate) (n : Nat) (r : Route) : Prop :=
  r.InRange ∧ (rate = .k96 → Config.tracksAt96 ≤ n → r.enabled = false)

theorem TrackConditioner.lawful_iff (c : TrackConditioner) (rate : Rate) : c.Lawful rate ↔
    c.routes.length = Config.tracks ∧ poolCount c.routes ≤ Config.poolCells
      ∧ ∀ (n : Nat) (r : Route), c.routes[n]? = some r → r.LawfulAt rate n := by
  constructor
  · rintro ⟨hlen, hrange, hpool, hhigh⟩
    refine ⟨hlen, hpool, fun n r hr => ⟨hrange r (List.mem_of_getElem? hr), fun h96 hn => ?_⟩⟩
    obtain ⟨hlt, rfl⟩ := List.getElem?_eq_some_iff.mp hr
    refine hhigh h96 _ (List.mem_drop_iff_getElem.mpr ⟨n - Config.tracksAt96, by omega, ?_⟩)
    congr 1
    omega
  · rintro ⟨hlen, hpool, hat⟩
    refine ⟨hlen, fun r hr => ?_, hpool, fun h96 r hr => ?_⟩
    · obtain ⟨n, hn⟩ := List.mem_iff_getElem?.mp hr
      exact (hat n r hn).1
    · obtain ⟨n, hn, rfl⟩ := List.mem_drop_iff_getElem.mp hr
      exact (hat (Config.tracksAt96 + n) _ (List.getElem?_eq_getElem _)).2 h96 (Nat.le_add_right ..)

/-- Every entry of a lawful table is lawful; so is the one read where there is none. -/
theorem TrackConditioner.Lawful.route {c : TrackConditioner} {rate : Rate} (h : c.Lawful rate) (n : Nat) :
    (c.routes.getD n {}).LawfulAt rate n := by
  rw [List.getD_eq_getElem?_getD]
  cases hr : c.routes[n]? with
  | none => exact ⟨by decide, fun _ _ => rfl⟩
  | some r => exact ((c.lawful_iff rate).mp h).2.2 n r hr

/-- A lawful table with one entry replaced is lawful where the entry is and the pool holds its delay. -/
theorem TrackConditioner.Lawful.set {c : TrackConditioner} {rate : Rate} {n : Nat} {r : Route} (h : c.Lawful rate)
    (hr : r.LawfulAt rate n) (hp : poolWith c.routes n r ≤ Config.poolCells) (d : TrackConditioner)
    (hd : d.routes = c.routes.set n r) : d.Lawful rate := by
  obtain ⟨hlen, -, hat⟩ := (c.lawful_iff rate).mp h
  refine (d.lawful_iff rate).mpr ⟨by simpa [hd] using hlen, hd ▸ hp, fun k x hx => ?_⟩
  rw [hd, List.getElem?_set] at hx
  split at hx
  · rename_i hk
    split at hx
    · cases hx
      exact hk ▸ hr
    · cases hx
  · exact hat k x hx

/-- The pool counts only whether a track is enabled and its delay (R44). -/
theorem poolWith_of_same_delay {routes : List Route} {n : Nat} {r : Route}
    (he : r.enabled = (routes.getD n {}).enabled) (hd : r.delay = (routes.getD n {}).delay) :
    poolWith routes n r = poolCount routes := by
  by_cases hn : n < routes.length
  · have hget : routes.getD n {} = routes[n] := by simp [List.getD_eq_getElem?_getD, hn]
    rw [hget] at he hd
    have hsame : (if r.enabled then r.delay else 0)
        = (routes.map fun r => if r.enabled then r.delay else 0)[n]'(by simpa using hn) := by
      simp [he, hd]
    rw [poolWith, poolCount, List.map_set, hsame, List.set_getElem_self, poolCount]
  · rw [poolWith, List.set_eq_of_length_le (Nat.le_of_not_lt hn)]

/-- A field that is written takes a value of its range (R37). -/
theorem Route.write_inRange {r new : Route} {i : Nat} {w : Word} (h : r.InRange) (hw : r.write i w = some new) :
    new.InRange := by
  obtain ⟨hsource, hslot, hdelay, htrim, hfilter, horder⟩ := h
  unfold Route.write at hw
  dsimp only at hw
  split at hw
  case h_9 =>
    split at hw
    · cases hw
      exact ⟨hsource, hslot, hdelay, htrim, nofun, horder⟩
    · obtain ⟨hv, ⟨⟩⟩ := Option.ite_none_right_eq_some.mp hw
      exact ⟨hsource, hslot, hdelay, htrim, fun k hk => Option.mem_some_iff.mp hk ▸ hv, horder⟩
  case h_11 => cases hw
  all_goals obtain ⟨hv, ⟨⟩⟩ := Option.ite_none_right_eq_some.mp hw
  case h_2 => exact ⟨hv, hslot, hdelay, htrim, hfilter, horder⟩
  case h_3 => exact ⟨hsource, hv, hdelay, htrim, hfilter, horder⟩
  case h_7 => exact ⟨hsource, hslot, hv, htrim, hfilter, horder⟩
  case h_8 => exact ⟨hsource, hslot, hdelay, hv, hfilter, horder⟩
  case h_10 => exact ⟨hsource, hslot, hdelay, htrim, hfilter, hv⟩
  all_goals exact ⟨hsource, hslot, hdelay, htrim, hfilter, horder⟩

theorem Route.writeAll_inRange {fields : List Nat} : ∀ {r new : Route} {ws : List Word}, r.InRange →
    r.writeAll fields ws = some new → new.InRange := by
  induction fields with
  | nil =>
    intro r new ws h hw
    cases hw
    exact h
  | cons i fields ih =>
    intro r new ws h hw
    cases ws with
    | nil => cases hw
    | cons w ws =>
      obtain ⟨r', hr, hrest⟩ := Option.bind_eq_some_iff.mp hw
      exact ih (r.write_inRange h hr) hrest

theorem State.rowSamples_tracksLawful {s : State} (h : s.tracks.Lawful s.rate) :
    s.rowSamples.tracks.Lawful s.rowSamples.rate := by
  have hroutes := State.rowSamples_routes_of_length h.1
  unfold TrackConditioner.Lawful
  rw [hroutes]
  exact h

/-- The initial table is lawful at either rate (R55). -/
theorem initial_tracksLawful (rate : Rate) : ({} : TrackConditioner).Lawful rate :=
  ⟨List.length_replicate, forall_mem_replicate_of _ (by decide),
    (poolCount_replicate_disabled _).le.trans (Nat.zero_le _), fun _ r hr => by
      rw [List.eq_of_mem_replicate (List.mem_of_mem_drop hr)]⟩

theorem SampleMoves.tracksLawful {s t : State} (h : SampleMoves s t) :
    s.tracks.Lawful s.rate → t.tracks.Lawful t.rate := by
  induction h with
  | kept h =>
    intro hs
    rwa [h.tracks, h.rate]
  | trans _ _ ih jh => exact fun hs => jh (ih hs)
  | @powerOn _ t _ ht =>
    intro _
    rw [ht]
    exact initial_tracksLawful t.rate
  | warmReset s a => exact fun _ => initial_tracksLawful _
  | rowSamples _ => exact State.rowSamples_tracksLawful
  | windowEnd s =>
    intro hs
    unfold State.takeWindowEnd
    split <;> exact hs
  | @trackSet s n new fields ws hn hw hr hp =>
    intro hs
    exact hs.set ⟨Route.writeAll_inRange (hs.route n).1 hw, hr⟩ hp _ rfl
  | @trim s n g hg =>
    intro hs
    obtain ⟨⟨hsource, hslot, hdelay, -, hrest⟩, hhigh⟩ := hs.route n
    refine hs.set (n := n) (r := { (s.track n).route with trim := g }) ⟨⟨hsource, hslot, hdelay, hg, hrest⟩, hhigh⟩ ?_ _
      (trim_eq _ n g)
    obtain ⟨-, -, hpool, -⟩ := hs
    exact (poolWith_of_same_delay (n := n) (r := { (s.track n).route with trim := g }) rfl rfl).trans_le hpool
  | @newTake s t e first h hr =>
    intro hs
    rw [h]
    exact hs
  | _ => exact id

/-- Settles O6: each move of the sample path keeps the table lawful, and a step makes such moves only. -/
theorem routeTableStaysLawful : Obligations.RouteTableStaysLawful :=
  fun _ _ hs hstep => (step_moves hstep).tracksLawful hs

/-! ## The delay lines -/

/-- A track's line holds as many cells as its delay while it is enabled, none while it is disabled (R43, R44). -/
def TrackParts.LineFits (p : TrackParts) : Prop := p.line.length = if p.route.enabled then p.route.delay else 0

theorem State.linesLawful_iff (s : State) : s.tracks.LinesLawful ↔
    s.tracks.routes.length = Config.tracks ∧ s.tracks.lines.length = Config.tracks
      ∧ ∀ n, n < Config.tracks → (s.track n).LineFits := by
  refine and_congr_right fun hroutes => and_congr_right fun hlines => ⟨fun h n hn => ?_, fun h x hx => ?_⟩
  · refine h ((s.track n).route, (s.track n).line) (List.mem_iff_getElem?.mpr ⟨n, ?_⟩)
    rw [List.getElem?_zip_eq_some]
    simp [State.track, List.getD_eq_getElem?_getD, hroutes, hlines, hn]
  · obtain ⟨n, hn⟩ := List.mem_iff_getElem?.mp hx
    obtain ⟨hroute, hline⟩ := List.getElem?_zip_eq_some.mp hn
    have hfits := h n (hroutes ▸ (List.getElem?_eq_some_iff.mp hroute).1)
    simpa [TrackParts.LineFits, State.track, List.getD_eq_getElem?_getD, hroute, hline] using hfits

theorem delayLine_length (line : List Int) (x : Int) : (delayLine line x).length = line.length := by
  cases line with
  | nil => rfl
  | cons y ys => simp [delayLine]

theorem TrackParts.rowIf_lineFits {p : TrackParts} (h : p.LineFits) (row : InputRow) : (p.rowIf row).1.LineFits := by
  unfold TrackParts.rowIf
  split
  · exact (delayLine_length _ _).trans h
  · exact h

/-- TRACK_SET gives a line of the new delay wherever the old one does not fit (R45). -/
theorem TrackParts.reconfigure_lineFits {p : TrackParts} (h : p.LineFits) (new : Route) :
    (p.reconfigure new).LineFits := by
  cases hnew : new.enabled with
  | false => simp [TrackParts.LineFits, TrackParts.reconfigure, hnew]
  | true =>
    by_cases hclear : p.route.enabled = false ∨ p.route.delay ≠ new.delay
    · simp [TrackParts.LineFits, TrackParts.reconfigure, hnew, hclear]
    · obtain ⟨henabled, hdelay⟩ := not_or.mp hclear
      simp_all [TrackParts.LineFits, TrackParts.reconfigure]

theorem State.rowSamples_linesLawful {s : State} (h : s.tracks.LinesLawful) : s.rowSamples.tracks.LinesLawful := by
  obtain ⟨hroutes, -, hfits⟩ := s.linesLawful_iff.mp h
  refine (State.linesLawful_iff _).mpr ⟨?_, ?_, fun n hn => ?_⟩
  · rw [State.rowSamples_routes_of_length hroutes, hroutes]
  · exact (List.length_map ..).trans (by simp [Config.tracks])
  · rw [State.rowSamples_track hn]
    exact TrackParts.rowIf_lineFits (hfits n hn) _

theorem State.setTrack_linesLawful {s : State} {n : Nat} {p : TrackParts} (h : s.tracks.LinesLawful)
    (hn : n < Config.tracks) (hp : p.LineFits) : (s.setTrack n p).tracks.LinesLawful := by
  obtain ⟨hroutes, hlines, hfits⟩ := s.linesLawful_iff.mp h
  refine (State.linesLawful_iff _).mpr
    ⟨(List.length_set ..).trans hroutes, (List.length_set ..).trans hlines, fun k hk => ?_⟩
  by_cases hkn : k = n
  · subst hkn
    unfold TrackParts.LineFits
    rwa [State.setTrack_line (hlines ▸ hn), State.setTrack_route (hroutes ▸ hn)]
  · rw [State.setTrack_track_other hkn]
    exact hfits k hk

/-- A corrected trim leaves every line and every delay (R53). -/
theorem State.trimmed_linesLawful {s : State} (h : s.tracks.LinesLawful) (n g : Nat) :
    ({ s.tracks with routes := s.tracks.routes.modify n fun r => { r with trim := g } } :
      TrackConditioner).LinesLawful := by
  obtain ⟨hroutes, hlines, hfits⟩ := s.linesLawful_iff.mp h
  rw [trim_eq]
  refine (State.linesLawful_iff { s with tracks := { s.tracks with
    routes := s.tracks.routes.set n { s.tracks.routes.getD n {} with trim := g } } }).mpr
      ⟨(List.length_set ..).trans hroutes, hlines, fun k hk => ?_⟩
  have hfit := hfits k hk
  unfold TrackParts.LineFits State.track at hfit ⊢
  by_cases hkn : k = n
  · subst hkn
    rwa [getD_set_same (hroutes ▸ hk)]
  · rwa [getD_set_other _ hkn]

theorem SampleMoves.linesLawful {s t : State} (h : SampleMoves s t) :
    s.tracks.LinesLawful → t.tracks.LinesLawful := by
  induction h with
  | kept h =>
    intro hs
    rwa [h.tracks]
  | trans _ _ ih jh => exact fun hs => jh (ih hs)
  | powerOn _ ht =>
    intro _
    rw [ht]
    exact reset_linesLawful
  | warmReset s a => exact fun _ => reset_linesLawful
  | rowSamples _ => exact State.rowSamples_linesLawful
  | windowEnd s =>
    intro hs
    unfold State.takeWindowEnd
    split <;> exact hs
  | @trackSet s n new fields ws hn _ _ _ =>
    intro hs
    exact State.setTrack_linesLawful hs hn
      (TrackParts.reconfigure_lineFits ((s.linesLawful_iff.mp hs).2.2 n hn) new)
  | trim n _ => exact fun hs => State.trimmed_linesLawful hs n _
  | newTake e first h _ =>
    intro hs
    rw [h]
    exact hs
  | _ => exact id

/-- Settles O7: each move of the sample path keeps every line as long as its delay, and a step makes such moves only. -/
theorem delayLinesStayAsLongAsTheirDelay : Obligations.DelayLinesStayAsLongAsTheirDelay :=
  fun _ _ hs hstep => (step_moves hstep).linesLawful hs

end Sys2Proof.Machine
end

section
/-!
TRACK_SET and TRIM_CORRECT (R37, R38, R44, R45, R48, R50 to R53): what each field takes, what an accepted request leaves
of the track, and the order of the tests.
-/

namespace Sys2Proof.Machine

/-! ## The fields -/

/-- A field of the two values 0 and 1. -/
theorem ite_le_one (v : Nat) (x : Nat → Route) :
    (if v ≤ 1 then some (x v) else none) = if v = 0 then some (x 0) else if v = 1 then some (x 1) else none := by
  rcases v with _ | _ | v <;> simp

/-- Settles O40: field by field. -/
theorem routeFieldsInRangeOnly : Obligations.RouteFieldsInRangeOnly := by
  intro r w v
  refine ⟨ite_le_one v fun v => { r with enabled := v = 1 }, rfl, if_congr Nat.lt_succ_iff rfl rfl,
    ite_le_one v fun v => { r with archive := v = 1 },
    ite_le_one v fun v => { r with mode := if v = 0 then .mute else .fade },
    ite_le_one v fun v => { r with polarity := if v = 0 then .normal else .invert }, rfl, rfl, ?_, rfl⟩
  have hshift : 8 ≤ v ∧ v ≤ 11 ↔ v = 8 ∨ v = 9 ∨ v = 10 ∨ v = 11 := by omega
  exact if_congr Iff.rfl rfl (if_congr hshift rfl rfl)

/-! ## TRIM_CORRECT -/

section Trim

variable {s : State} {e : Entry}

/-- The corrected gain in whole numbers: halves up, and at most the greatest trim (R53). -/
theorem correctedTrim_eq (g : Nat) (err : Int) : correctedTrim g err
    = min 16777215 ((2 * g * 1000000 + (1000000 + err).toNat) / (2 * (1000000 + err).toNat)) := by
  generalize hd : (1000000 + err).toNat = d
  have hround : roundDiv (g * 1000000) d = ((2 * g * 1000000 + d) / (2 * d) : Nat) := by
    rw [roundDiv, if_pos (by omega)]
    push_cast
    rw [mul_assoc]
  rw [correctedTrim, hd, hround, clampInt, if_neg (Int.not_lt.mpr (Int.natCast_nonneg _))]
  generalize (2 * g * 1000000 + d) / (2 * d) = q
  show (if (16777215 : Int) < q then (16777215 : Int) else q).toNat = _
  split <;> omega

/-- Settles O41: the refusal, and the corrected trim put back into the track's entry. -/
theorem trimCorrectRescales : Obligations.TrimCorrectRescales := by
  intro s e h _ n err g
  have hrequired : e.required = 2 := by rw [Entry.required, h.2.1]
  refine ⟨fun hbad => h.completes_refused _ (if_pos ?_), fun hlen hn hlow hhigh => ?_⟩
  · simp only [Entry.short, hrequired, Bool.or_eq_true, decide_eq_true_eq, or_assoc]
    exact hbad
  · intro d g'
    have hg : correctedTrim g err = g' := correctedTrim_eq g err
    rw [← hg]
    refine h.completes_done (if_neg ?_) ?_ rfl
    · simp only [Entry.short, hrequired, Bool.or_eq_true, decide_eq_true_eq, not_or, Int.not_lt, Nat.not_lt]
      exact ⟨⟨⟨hlen, Nat.not_le.mpr hn⟩, hlow⟩, hhigh⟩
    · rw [trim_eq]
      rfl

end Trim

/-! ## What TRACK_SET leaves of a track -/

section Reconfigure

variable (p : TrackParts) (new : Route)

theorem TrackParts.reconfigure_line : (p.reconfigure new).line = if new.enabled = false then []
    else if p.route.enabled = false ∨ p.route.delay ≠ new.delay then List.replicate new.delay 0 else p.line := by
  cases hnew : new.enabled <;> simp [TrackParts.reconfigure, hnew]

theorem TrackParts.reconfigure_filter : (p.reconfigure new).filter
    = if (p.route.enabled = false ∧ new.enabled = true) ∨ p.route.filter ≠ new.filter then {} else p.filter := by
  simp [TrackParts.reconfigure]

theorem rerouted_iff (old : Route) : rerouted old new = true ↔
    old.enabled = true ∧ new.enabled = true ∧ (old.source ≠ new.source ∨ old.slot ≠ new.slot) := by
  simp [rerouted, and_assoc]

theorem TrackParts.reconfigure_conceal : (p.reconfigure new).conceal = if new.enabled = true ∧
    (p.route.enabled = false ∨ p.route.source ≠ new.source ∨ p.route.slot ≠ new.slot) then ⟨0, 64⟩ else p.conceal := by
  refine if_congr ?_ rfl rfl
  rw [Bool.or_eq_true, rerouted_iff]
  cases p.route.enabled <;> cases new.enabled <;> simp

theorem TrackParts.reconfigure_firstRowDue : (p.reconfigure new).mark.firstRowDue = true ↔ new.enabled = true ∧
    (p.mark.firstRowDue = true
      ∨ (p.route.enabled = true ∧ (p.route.source ≠ new.source ∨ p.route.slot ≠ new.slot))) := by
  simp only [TrackParts.reconfigure, Bool.and_eq_true, Bool.or_eq_true, rerouted_iff]
  tauto

end Reconfigure

/-! ## TRACK_SET -/

section TrackSet

variable {s : State} {e : Entry} {new : Route}

theorem State.forbidden_iff (n : Nat) (old : Route) : s.forbidden n old new = true ↔ ∃ k, s.liveTake = some k ∧
    ((n ∈ k.trackSet ∧ old.enabled = true ∧ new.enabled = false) ∨ old.archive ≠ new.archive) := by
  unfold State.forbidden
  split <;> simp_all [and_assoc]

theorem serveTrackSet_bad (hc : e.code = .trackSet)
    (hbad : e.operands.length < 1 + e.trackFields.length ∨ 128 ≤ field (e.op 0) 31 16) (s : State) :
    serveTrackSet e s = s.refuse e .badOperand := by
  refine if_pos ?_
  simp only [Entry.short, Entry.required, hc, Bool.or_eq_true, decide_eq_true_eq]
  exact hbad

section Carried

variable {n : Nat} (hc : e.code = .trackSet) (hlen : 1 + e.trackFields.length ≤ e.operands.length)
  (hfield : field (e.op 0) 31 16 = n) (hn : n < 128)

include hc hlen hfield hn

/-- A request with all its words goes on to write its fields (R50 test 2). -/
theorem serveTrackSet_carried : ¬ (e.short || decide (Config.tracks ≤ field (e.op 0) 31 16)) = true := by
  simp only [Entry.short, Entry.required, hc, Bool.or_eq_true, decide_eq_true_eq, not_or, Nat.not_lt, hfield]
  exact ⟨hlen, Nat.not_le.mpr hn⟩

theorem serveTrackSet_unwritten
    (hw : (s.track n).route.writeAll e.trackFields (e.operands.drop 1) = none) :
    serveTrackSet e s = s.refuse e .badOperand := by
  refine (if_neg (serveTrackSet_carried hc hlen hfield hn)).trans ?_
  simp only [hfield, hw]

/-- The tests on what the fields would leave, in their order (R50, R51). -/
theorem serveTrackSet_written
    (hw : (s.track n).route.writeAll e.trackFields (e.operands.drop 1) = some new) :
    serveTrackSet e s = if e.trackFields = [] then s.done e []
      else if s.rate = .k96 ∧ 64 ≤ n ∧ new.enabled = true then s.refuse e .badOperand
      else if s.forbidden n (s.track n).route new = true then s.refuse e .wrongState
      else if 262144 < poolWith s.tracks.routes n new then s.refuse e .noSpace
      else (s.setTrack n ((s.track n).reconfigure new)).done e [] := by
  refine (if_neg (serveTrackSet_carried hc hlen hfield hn)).trans ?_
  simp only [hfield, hw, Bool.and_eq_true, decide_eq_true_eq, and_assoc]
  rfl

end Carried

/-- Settles O39: the tests in their order, then the track's parts put back as `reconfigure` leaves them. -/
theorem trackSetWritesOneRoute : Obligations.TrackSetWritesOneRoute := by
  intro s e h hs n old refused
  refine ⟨fun hbad => h.completes_refused _ (serveTrackSet_bad h.2.1 hbad _), fun hlen hn hnone => ?_,
    fun new hlen hn hw => ?_⟩
  · exact h.completes_refused _ (serveTrackSet_unwritten h.2.1 hlen rfl hn hnone)
  · intro tooHigh forbidden pool
    have hserve := serveTrackSet_written (s := s.activate e.arrival) h.2.1 hlen rfl hn hw
    have hforbidden : (s.activate e.arrival).forbidden n old new = true ↔ forbidden := State.forbidden_iff n old
    refine ⟨fun hnil => ?_, fun hsome hhigh => ?_, fun hsome hhigh hf => ?_, fun hsome hhigh hf hpool => ?_,
      fun hsome hhigh hf hpool => ?_⟩
    · exact h.completes_done (hserve.trans (if_pos hnil)) rfl rfl
    all_goals replace hserve := hserve.trans (if_neg hsome)
    · exact h.completes_refused _ (hserve.trans (if_pos hhigh))
    all_goals replace hserve := hserve.trans (if_neg hhigh)
    · exact h.completes_refused _ (hserve.trans (if_pos (hforbidden.mpr hf)))
    all_goals replace hserve := hserve.trans (if_neg (mt hforbidden.mp hf))
    · exact h.completes_refused _ (hserve.trans (if_pos hpool))
    · obtain ⟨t, ht, hends⟩ := h.completes_done (u := s.setTrack n ((s.track n).reconfigure new))
        (hserve.trans (if_neg (Nat.not_lt.mpr hpool))) rfl rfl
      refine ⟨t, ht, _, hends, rfl, fun k hk => State.setTrack_track_other hk _, ?_⟩
      rw [State.setTrack_track_same hs hn]
      exact ⟨rfl, rfl, TrackParts.reconfigure_line _ _, TrackParts.reconfigure_filter _ _,
        TrackParts.reconfigure_conceal _ _, rfl, TrackParts.reconfigure_firstRowDue _ _⟩

end TrackSet

end Sys2Proof.Machine
end

section
/-!
TAKE_OPEN (R84, R97, R98): the order of its tests, what an accepted one holds while its catalog write runs, and what a
write that fails at once gives back.
-/

namespace Sys2Proof.Machine

/-! ## Catalog writes asked for -/

section Catalog

variable {x : State} {w : Waiter}

/-- `t` differs from `x` at most in the catalog write with its position and in the operations at the store port. -/
def CatalogSide (x t : State) : Prop :=
  ∃ write asked seq next inFlight waiting, t = { x with
    takes := { x.takes with write := write, waiting := asked, catSeq := seq, catNext := next }
    store := { x.store with inFlight := inFlight, waiting := waiting } }

/-- An operation submitted and the port settled: only the port has moved, and the operation is there. -/
theorem State.submit_settled (x : State) (op : PortOp) :
    PortSide x (x.submit op).settlePort ∧ (x.submit op).settlePort.AtPort op :=
  ⟨(x.submit_portSide op).trans (State.settlePort_portSide _), (State.AtPort.submitted x op).settlePort⟩

/-- A catalog write that starts: only its position and the port have moved, and its first operation is at the port. -/
theorem State.askCatalog_begun (h : x.CatalogReady) :
    CatalogSide x (x.askCatalog w).settlePort ∧ CatalogWriteBegun x (x.askCatalog w).settlePort w := by
  rw [State.askCatalog_starts x w h]
  split
  · rename_i hfull
    obtain ⟨hport, hat⟩ := State.submit_settled (x.setTakes { x.takes with write := some ⟨x.takes.image, 0, [w]⟩ })
      (.catalogErase (1 - x.takes.catCurrent))
    generalize State.settlePort _ = t at hport hat ⊢
    obtain ⟨_, _, rfl⟩ := hport
    exact ⟨⟨_, _, _, _, _, _, rfl⟩, rfl, rfl, rfl, fun hlt => absurd hfull (Nat.not_le.mpr hlt),
      fun _ => ⟨rfl, rfl, hat⟩⟩
  · rename_i hroom
    obtain ⟨hport, hat⟩ := State.submit_settled
      (x.setTakes { x.takes with
        write := some ⟨x.takes.image, 0, [w]⟩, catSeq := x.takes.catSeq + 1, catNext := x.takes.catNext + 1 })
      (.catalogProgram ⟨x.takes.catCurrent, x.takes.catNext⟩
        (catalogPage x.takes.image (x.takes.catSeq + 1) x.takes.catNext))
    generalize State.settlePort _ = t at hport hat ⊢
    obtain ⟨_, _, rfl⟩ := hport
    exact ⟨⟨_, _, _, _, _, _, rfl⟩, rfl, rfl, rfl, fun _ => ⟨rfl, rfl, hat⟩, fun hle => absurd hle hroom⟩

/-- A catalog write that waits behind the one in flight (R97). -/
theorem State.askCatalog_joined (h : x.takes.write ≠ none) :
    CatalogSide x (x.askCatalog w).settlePort ∧ CatalogWriteJoined x (x.askCatalog w).settlePort w := by
  rw [State.askCatalog_joins x w h]
  obtain ⟨_, _, heq⟩ := State.settlePort_portSide
    (x.setTakes { x.takes with waiting := some (x.takes.waiting.getD [] ++ [w]) })
  rw [heq]
  exact ⟨⟨_, _, _, _, _, _, rfl⟩, rfl, rfl, rfl, rfl, rfl⟩

end Catalog

/-! ## The extent table -/

section Extents

variable {table : List (Nat × Extent)} {k : Nat}

theorem lookup_setExtent (x : Extent) (h : ∃ y ∈ table, y.1 = k) : (setExtent table k x).lookup k = some x := by
  induction table with
  | nil => simp at h
  | cons y ys ih =>
    by_cases hy : y.1 = k
    · simp [setExtent, hy]
    · have hys : ∃ z ∈ ys, z.1 = k := by simpa [hy] using h
      have hne : (k == y.1) = false := by simpa using Ne.symm hy
      rw [← ih hys, setExtent, List.map_cons, if_neg hy, List.lookup_cons, hne]
      rfl

theorem lookup_mapExtents (f : Extent → Extent) :
    (table.map fun y => (y.1, f y.2)).lookup k = (table.lookup k).map f := by
  induction table with
  | nil => rfl
  | cons y ys ih =>
    rw [List.map_cons, List.lookup_cons, List.lookup_cons, ih]
    cases k == y.1 <;> rfl

theorem StoreController.mem_freeList {c : StoreController} (h : k ∈ c.freeList) : ∃ y ∈ c.table, y.1 = k := by
  unfold StoreController.freeList at h
  have hfree : k ∈ (c.table.filter fun x => x.2.state = .free).map Prod.fst := by
    split at h
    case h_1 | h_2 => cases h
    all_goals exact h
  obtain ⟨y, hy, hk⟩ := List.mem_map.mp hfree
  exact ⟨y, (List.mem_filter.mp hy).1, hk⟩

end Extents

/-! ## The tests -/

section TakeOpen

variable {s : State} {e : Entry} {first : Nat}

/-- A store operation is served only while its slot is free (R184, R185). -/
theorem Served.slot_free {c : RequestCode} (h : Served s c e) (hc : c.storeOperation = true) :
    s.requests.storeOp = none := by
  obtain ⟨hchoice, rfl, -⟩ := h
  have heligible := (State.choice_mem hchoice).2
  simp only [State.eligible, hc, Bool.true_and, Bool.and_eq_true, Bool.not_eq_true', Option.isSome_eq_false_iff,
    Option.isNone_iff_eq_none] at heligible
  obtain ⟨⟨-, hslot⟩, -⟩ := heligible
  exact hslot

theorem Entry.badLabel_iff (hc : e.code = .takeOpen) : e.badLabel = true ↔
    e.operands.length < 1 + (field (e.op 0) 5 0 + 3) / 4 ∨ 32 < field (e.op 0) 5 0
      ∨ ∃ c ∈ e.labelCodes, c < 32 ∨ 126 < c := by
  simp only [Entry.badLabel, Entry.short, Entry.required, hc, Bool.or_eq_true, decide_eq_true_eq, List.any_eq_true,
    or_assoc]
  exact Iff.rfl

/-- The tests of TAKE_OPEN in their order (R84, log 16). -/
theorem serveTakeOpen_eq (e : Entry) (s : State) : serveTakeOpen e s
    = if ¬ (s.store.state = .mounted ∧ s.liveTake = none) then s.refuse e .wrongState
      else if e.badLabel = true then s.refuse e .badOperand
      else if 64 ≤ s.takes.records.length ∨ 65536 ≤ s.takes.nextTake ∨ s.store.freeList = [] then
        s.refuse e .noSpace
      else s.openTake e (s.store.freeList.headD 0) := by
  have hready : (s.store.state ≠ .mounted || s.liveTake.isSome) = true
      ↔ ¬ (s.store.state = .mounted ∧ s.liveTake = none) := by
    cases s.liveTake <;> simp
  have hfull : (decide (Config.takeCap ≤ s.takes.records.length)
      || decide (Config.nextTakeMax ≤ s.takes.nextTake)) = true
      ↔ 64 ≤ s.takes.records.length ∨ 65536 ≤ s.takes.nextTake := by
    rw [Bool.or_eq_true, decide_eq_true_eq, decide_eq_true_eq]
    rfl
  refine if_congr hready rfl (if_congr Iff.rfl rfl ?_)
  by_cases h : 64 ≤ s.takes.records.length ∨ 65536 ≤ s.takes.nextTake
  · exact (if_pos (hfull.mpr h)).trans (if_pos (or_assoc.mp (.inl h))).symm
  · refine (if_neg (mt hfull.mp h)).trans ?_
    cases s.store.freeList with
    | nil => exact (if_pos (.inr (.inr rfl))).symm
    | cons first rest => exact (if_neg fun hor => h (by simpa [or_assoc] using hor)).symm

/-! ## An accepted TAKE_OPEN -/

/-- The track set of a new record, read off the route table (R40). -/
theorem trackSetNow_eq (h : s.tracks.routes.length = 128) : trackSetNow s.tracks.routes
    = (List.range 128).filter fun k => (s.track k).route.enabled && (s.track k).route.archive := by
  have hzip : s.tracks.routes.zipIdx = (List.range 128).map fun k => ((s.track k).route, k) := by
    refine List.ext_getElem (by simp [h]) fun k hk hk' => ?_
    simp only [List.length_zipIdx] at hk
    simp [State.track, List.getD_eq_getElem?_getD, hk]
  rw [trackSetNow, hzip, List.filter_map, List.map_map]
  exact List.map_id _

/-- The state in which an accepted TAKE_OPEN asks for its catalog write (R84). -/
def State.openHeld (s : State) (e : Entry) (first : Nat) : State :=
  { s with
    takes := { s.takes with
      records := s.takes.records ++ [s.newRecord e first]
      nextTake := s.takes.nextTake + 1
      openReady := false }
    store := { s.store with
      table := Machine.setExtent s.store.table first ⟨.owned, some ⟨s.takes.nextTake, 0, 0⟩⟩
      writeState := some ⟨some first, 0, 0, false⟩ }
    requests := { s.requests with storeOp := some ⟨.openTake s.takes.nextTake, e.arrival⟩ } }

theorem State.openTake_eq (s : State) (e : Entry) (first : Nat) :
    s.openTake e first = ((s.openHeld e first).askCatalog .storeOperation).settlePort := by
  simp only [State.openTake, State.setTakes, State.firstAllocation, State.holdSlot, State.openHeld]

/-- The catalog write that fails at once takes the record and the extent back (R84, R98). -/
theorem State.openTake_stopped (h : (s.openHeld e first).CatalogStopped) :
    s.openTake e first = ((s.openHeld e first).openFailed s.takes.nextTake).settlePort := by
  rw [State.openTake_eq, State.askCatalog_stopped _ _ h]
  rfl

/-- What a TAKE_OPEN whose catalog write fails has taken back, before it is answered (R84, R98). -/
def State.openLost (s : State) (e : Entry) (first : Nat) : State :=
  { s with
    takes := { s.takes with
      records := (s.takes.records ++ [s.newRecord e first]).filter fun x => x.number ≠ s.takes.nextTake
      nextTake := s.takes.nextTake + 1
      openReady := false }
    store := { s.store with
      table := (Machine.setExtent s.store.table first ⟨.owned, some ⟨s.takes.nextTake, 0, 0⟩⟩).map
        fun y => (y.1, y.2.handBack s.takes.nextTake)
      writeState := none }
    requests := { s.requests with storeOp := none } }

theorem State.openFailed_openHeld (s : State) (e : Entry) (first : Nat) :
    (s.openHeld e first).openFailed s.takes.nextTake = (s.openLost e first).complete e.arrival .storeFault [] := by
  simp only [State.openFailed, State.dropTake, State.mapExtents, State.completeStoreOp, State.openHeld, State.openLost]

/-- A new record handed back leaves the table as it was without its number. -/
theorem State.openLost_records (s : State) (e : Entry) (first : Nat) : (s.openLost e first).takes.records
    = s.takes.records.filter fun x => x.number ≠ s.takes.nextTake := by
  simp [State.openLost, State.newRecord]

/-- The extent handed back is free again (R84). -/
theorem State.openLost_extent (e : Entry) (h : first ∈ s.store.freeList) :
    (s.openLost e first).store.extent first = some ⟨.free, none⟩ := by
  show ((Machine.setExtent s.store.table first ⟨.owned, some ⟨s.takes.nextTake, 0, 0⟩⟩).map
    fun y => (y.1, y.2.handBack s.takes.nextTake)).lookup first = _
  rw [lookup_mapExtents fun x => x.handBack s.takes.nextTake, lookup_setExtent _ (StoreController.mem_freeList h)]
  simp [Extent.handBack]

/-- A TAKE_OPEN whose catalog write fails is answered, and nothing else of the Request Queue has changed (R98). -/
theorem Served.openLost_ends (h : Served s .takeOpen e) :
    Ends { s.openLost e first with requests := s.requests } e .storeFault []
      (((s.activate e.arrival).openLost e first).complete e.arrival .storeFault []) := by
  refine h.complete_ends (v := (s.activate e.arrival).openLost e first)
    (u := { s.openLost e first with requests := s.requests }) ?_ rfl .storeFault []
  have hrequests : ((s.activate e.arrival).openLost e first).requests
      = { s.requests with entries := (s.activate e.arrival).requests.entries } :=
    congrArg (fun o => { s.requests with entries := (s.activate e.arrival).requests.entries, storeOp := o })
      (h.slot_free rfl).symm
  exact congrArg (fun q => { s.openLost e first with requests := q }) hrequests

/-- The settled state of a TAKE_OPEN whose catalog write failed: the takes and the store are those handed back. -/
theorem Served.openTake_failed (h : Served s .takeOpen e)
    (hcatalog : ((s.activate e.arrival).openHeld e first).CatalogStopped) :
    ∃ t, (s.activate e.arrival).openTake e first = t ∧ t.takes = (s.openLost e first).takes
      ∧ t.store = { (s.openLost e first).store with inFlight := t.store.inFlight, waiting := t.store.waiting }
      ∧ Answered s.link s.requests e .storeFault [] t := by
  refine ⟨_, rfl, ?_⟩
  have hfailed := State.openFailed_openHeld (s.activate e.arrival) e first
  rw [State.openTake_stopped hcatalog, hfailed]
  obtain ⟨hrest, hanswered⟩ := h.openLost_ends (first := first)
  generalize ((s.activate e.arrival).openLost e first).complete e.arrival .storeFault [] = y at hrest hanswered ⊢
  have hport := y.settlePort_portSide
  refine ⟨by rw [hport.eq, hrest], ?_, hanswered.portSide hport⟩
  rw [← congrArg State.store hrest]
  exact congrArg State.store hport.eq

/-- Settles O47: the tests in their order, then the catalog write as it starts, waits or fails. -/
theorem takeOpenCreatesTheRecord : Obligations.TakeOpenCreatesTheRecord := by
  intro s e h hs refused size label badLabel ready full
  have hbadLabel : e.badLabel = true ↔ badLabel := Entry.badLabel_iff h.2.1
  have hserve := serveTakeOpen_eq e (s.activate e.arrival)
  refine ⟨fun hstate => ?_, fun hready hbad => ?_, fun hready hbad hfull => ?_,
    fun first rest hready hbad hrecords hnext hfree => ?_⟩
  · exact h.completes_refused _ (hserve.trans (if_pos hstate))
  all_goals replace hserve := hserve.trans (if_neg (not_not.mpr hready))
  · exact h.completes_refused _ (hserve.trans (if_pos (hbadLabel.mpr hbad)))
  all_goals replace hserve := hserve.trans (if_neg (mt hbadLabel.mp hbad))
  · exact h.completes_refused _ (hserve.trans (if_pos hfull))
  intro opened
  have hroom : ¬ full := by
    rintro (hr | hn | hf)
    · exact Nat.not_le.mpr hrecords hr
    · exact Nat.not_le.mpr hnext hn
    · exact List.cons_ne_nil _ _ (hfree.symm.trans hf)
  have hfirst : (s.activate e.arrival).store.freeList.headD 0 = first := congrArg (List.headD · 0) hfree
  have hopens : exec .takeOpen s = .next ((s.activate e.arrival).openTake e first) :=
    (exec_serve serveTakeOpen h).trans (congrArg _ (hfirst ▸ hserve.trans (if_neg hroom)))
  have hopened : ∀ t, CatalogSide ((s.activate e.arrival).openHeld e first) t → opened t := by
    rintro t ⟨_, _, _, _, _, _, rfl⟩
    obtain ⟨-, -, hroutes, -⟩ := hs
    refine ⟨rfl, rfl, ?_, rfl, rfl, rfl, rfl⟩
    rw [← trackSetNow_eq hroutes]
    rfl
  refine ⟨fun hcatalog => ?_, fun hcatalog => ?_, fun hcatalog => ?_⟩
  · obtain ⟨hside, hbegun⟩ := State.askCatalog_begun (x := (s.activate e.arrival).openHeld e first)
      (w := .storeOperation) hcatalog
    exact ⟨_, hopens, hopened _ hside, hbegun⟩
  · obtain ⟨hside, hjoined⟩ := State.askCatalog_joined (x := (s.activate e.arrival).openHeld e first)
      (w := .storeOperation) hcatalog
    exact ⟨_, hopens, hopened _ hside, hjoined⟩
  · obtain ⟨t, ht, htakes, hstore, hanswered⟩ := h.openTake_failed (first := first) hcatalog
    obtain ⟨hwrite, -⟩ := hcatalog
    refine ⟨t, ht ▸ hopens, ?_, ?_, ?_, ?_, ?_, hanswered⟩
    · rw [htakes, State.openLost_records]
    · rw [htakes]
      rfl
    · unfold CatalogWriteFailed
      rw [htakes]
      exact ⟨hwrite, rfl, rfl, rfl, rfl⟩
    · rw [hstore]
      rfl
    · rw [hstore]
      exact State.openLost_extent e (hfree ▸ List.mem_cons_self)

end TakeOpen

end Sys2Proof.Machine
end

section
/-!
The packet queue and the store's settings under every command (R74, R125): a command moves the store by the store's own
operations, which `StoreSide` bounds, or offers a packet, which must find room (R75), or sets the settings.
-/

namespace Sys2Proof.Machine

/-- The store's bounds are kept on the way from `s` to `t`. -/
def StoreBoundsKept (s t : State) : Prop := s.store.Bounded → t.store.Bounded

namespace StoreBoundsKept

variable {s t u : State}

theorem trans (h : StoreBoundsKept s t) (k : StoreBoundsKept t u) : StoreBoundsKept s u := k ∘ h

/-- A change outside the store. -/
theorem of_eq (h : t.store = s.store) : StoreBoundsKept s t := fun hs => h ▸ hs

/-- A change of the store in which no word joins the queue and no setting moves. -/
theorem of_queue (hq : t.store.queue.length ≤ s.store.queue.length) (hb : t.store.backlog = s.store.backlog)
    (hh : t.store.holdTime = s.store.holdTime) (hl : t.store.lowMark = s.store.lowMark) : StoreBoundsKept s t := by
  rintro ⟨hqueue, hsettings⟩
  refine ⟨hq.trans hqueue, ?_⟩
  rw [hb, hh, hl]
  exact hsettings

/-- What the store's own operations make of a state. -/
theorem side (h : StoreSide s t) : StoreBoundsKept s t := h.bounded

theorem flash (h : FlashSide s t) : StoreBoundsKept s t := .of_eq h.store

end StoreBoundsKept

/-- A command's outcome keeps the store's bounds. -/
abbrev KeepsStoreBounds (o : Host.Outcome State Fault Refusal) (s : State) : Prop := Completes o (StoreBoundsKept s)

/-- A command that is an event where `b` holds, and nothing elsewhere. -/
theorem keepsStoreBounds_ite {s u : State} (b : Bool) (h : StoreBoundsKept s u) :
    KeepsStoreBounds (.next (if b then u else s)) s := by
  refine ⟨_, rfl, ?_⟩
  split
  · exact h
  · exact id

/-- A command that only changes the Link Unit, or nothing. -/
theorem keepsStoreBounds_setLink {s : State} {l : LinkUnit} (b : Bool) :
    KeepsStoreBounds (.next (if b then s.setLink l else s)) s := keepsStoreBounds_ite b (.of_eq rfl)

/-! ## Packets, boundaries and rows -/

/-- A packet joins the queue only where it fits (R75). -/
theorem State.offerPacket_storeBounds (s : State) (take n : Nat) (ws : List Word) :
    StoreBoundsKept s (s.offerPacket take n ws) := by
  unfold State.offerPacket
  split
  · rename_i hroom
    refine .trans ?_ (.side (State.pump_side _))
    rintro ⟨-, hsettings⟩
    refine ⟨?_, hsettings⟩
    have hfits := StoreController.roomFor_iff.mp hroom
    show (s.store.queue ++ markPacket ws).length ≤ 16384
    rwa [List.length_append, markPacket_length]
  · exact .of_eq rfl

theorem State.codeTracks_storeBounds (take i : Nat) (ns : List Nat) :
    ∀ s : State, StoreBoundsKept s (s.codeTracks take i ns) := by
  induction ns with
  | nil => exact fun _ => id
  | cons n ns ih => exact fun s => (s.offerPacket_storeBounds take n _).trans (ih _)

theorem State.endBlock_storeBounds (s : State) (k : TakeRecord) (i : Nat) : StoreBoundsKept s (s.endBlock k i) := by
  have hcoded : StoreBoundsKept s (s.codeEnded k i).disarm := by
    refine .trans ?_ (.side (State.disarm_side _))
    unfold State.codeEnded
    split
    · exact State.codeTracks_storeBounds _ _ _ s
    · exact id
  unfold State.endBlock
  dsimp only
  split
  · exact hcoded.trans (.side (State.exhaust_side ..))
  · exact hcoded.trans (.side ((State.raiseIndex_side ..).trans (State.takeHold_side ..)))

theorem State.takeWork_storeBounds (s : State) : StoreBoundsKept s s.takeWork := by
  unfold State.takeWork
  split
  · exact s.endBlock_storeBounds _ _
  · split
    · rw [State.beginTake_eq]
      exact .of_eq rfl
    · exact id
  · exact id

theorem State.archiveBoundary_storeBounds (s : State) : StoreBoundsKept s s.archiveBoundary :=
  .trans (t := s.boundaryGiven.mixWork.takeWork.clearBlocks) (State.takeWork_storeBounds s.boundaryGiven.mixWork)
    (.side (State.settlePort_side _))

theorem State.takeBoundary_storeBounds (s : State) : StoreBoundsKept s s.takeBoundary := by
  unfold State.takeBoundary
  split
  · exact .of_eq rfl
  split
  · exact s.archiveBoundary_storeBounds
  · exact id

theorem State.expire_storeBounds (s : State) (op : PortOp) (g : Bool) : StoreBoundsKept s (s.expire op g) := by
  refine .trans (.flash (s.operationCut_side op)) (.trans (t := { s.operationCut op with store :=
      { (s.operationCut op).store with
        waiting := (s.operationCut op).store.waiting.filter fun o => moduleOf o.extent ≠ moduleOf op.extent
        expiries := countUp (s.operationCut op).store.expiries 1 } }) (.of_queue le_rfl rfl rfl rfl) ?_)
  exact .side ((State.moduleFault_side _ _).trans ((State.freePort_side _ g).trans
    ((State.operationLost_side true _ op).trans (StoreSide.foldl _ (State.operationLost_side false) _ _))))

theorem State.takeExpiry_storeBounds (s : State) : StoreBoundsKept s s.takeExpiry := by
  unfold State.takeExpiry
  split
  · exact .trans (t := { s with freeCount := s.freeCount + 1 }) (.of_eq rfl)
      ((State.expire_storeBounds _ _ _).trans (.side (State.settlePort_side _)))
  · exact id

theorem State.takeDue_storeBounds (s : State) : StoreBoundsKept s s.takeDue := by
  have hwindow : StoreBoundsKept s s.takeWindowEnd := by
    unfold State.takeWindowEnd
    split <;> exact .of_eq rfl
  exact hwindow.trans ((State.takeBoundary_storeBounds _).trans
    (.trans (.side (State.takeHoldExpiry_side _)) (State.takeExpiry_storeBounds _)))

theorem State.row_storeBounds (s : State) : StoreBoundsKept s s.row := by
  have hrow : StoreBoundsKept s.takeDue s.takeDue.rowTimers.rowSamples := .of_queue le_rfl rfl rfl rfl
  exact s.takeDue_storeBounds.trans (hrow.trans
    (.side ((State.mountStart_side _).trans (State.settlePort_side _))))

/-! ## Words, frames and links -/

theorem State.requestArrives_store (s : State) (o : Origin) (b : Bool) (body : List Word) :
    (s.requestArrives o b body).store = s.store := by
  unfold State.requestArrives
  dsimp only
  repeat' split
  all_goals rfl

theorem State.stageFrame_store (s : State) (w : Word) (body : List Word) : (s.stageFrame w body).store = s.store := by
  unfold State.stageFrame
  split
  · rfl
  split
  · split
    · exact s.requestArrives_store _ _ _
    split
    · exact s.requestArrives_store _ _ _
    · rfl
  · rfl

theorem execStageFrameComplete_storeBounds (w : Word) (s : State) :
    KeepsStoreBounds (execStageFrameComplete w s) s := by
  unfold execStageFrameComplete
  split
  · dsimp only
    split
    · refine ⟨_, rfl, .of_eq ((State.stageFrame_store _ _ _).trans ?_)⟩
      split <;> rfl
    · exact ⟨_, rfl, .of_eq rfl⟩
  · exact ⟨_, rfl, id⟩

theorem execThroughReturnFrameComplete_storeBounds (w : Word) (s : State) :
    KeepsStoreBounds (execThroughReturnFrameComplete w s) s := by
  unfold execThroughReturnFrameComplete
  dsimp only
  repeat' split
  all_goals exact ⟨_, rfl, .of_eq rfl⟩

theorem execProgramReturnFrameComplete_storeBounds (w : Word) (s : State) :
    KeepsStoreBounds (execProgramReturnFrameComplete w s) s := by
  unfold execProgramReturnFrameComplete
  dsimp only
  split
  · split
    · split
      · split
        · exact ⟨_, rfl, .of_eq (State.requestArrives_store _ _ _ _)⟩
        split
        · exact ⟨_, rfl, .of_eq (State.requestArrives_store _ _ _ _)⟩
        · exact ⟨_, rfl, .of_eq rfl⟩
      · exact ⟨_, rfl, .of_eq rfl⟩
    · exact ⟨_, rfl, .of_eq rfl⟩
  · exact ⟨_, rfl, id⟩

theorem execFrameHeaderTaken_storeBounds (d : Rx) (w : Word) (s : State) :
    KeepsStoreBounds (execFrameHeaderTaken d w s) s := by
  unfold execFrameHeaderTaken
  split
  · exact keepsStoreBounds_setLink _
  · exact ⟨_, rfl, id⟩

theorem execStrayWord_storeBounds (d : Rx) (w : Word) (s : State) : KeepsStoreBounds (execStrayWord d w s) s := by
  unfold execStrayWord
  split
  · exact keepsStoreBounds_setLink _
  · exact ⟨_, rfl, id⟩

theorem execFramingError_storeBounds (d : Rx) (w : Word) (s : State) :
    KeepsStoreBounds (execFramingError d w s) s := by
  unfold execFramingError
  split
  · exact keepsStoreBounds_setLink _
  · exact ⟨_, rfl, id⟩

theorem execBodyWordTaken_storeBounds (d : Rx) (w : Word) (s : State) :
    KeepsStoreBounds (execBodyWordTaken d w s) s := by
  unfold execBodyWordTaken
  split <;> exact ⟨_, rfl, .of_eq rfl⟩

theorem execThroughFrameEnd_storeBounds (s : State) : KeepsStoreBounds (execThroughFrameEnd s) s := by
  unfold execThroughFrameEnd
  split <;> exact ⟨_, rfl, .of_eq rfl⟩

theorem execStageReturnFrameEnd_storeBounds (s : State) : KeepsStoreBounds (execStageReturnFrameEnd s) s := by
  unfold execStageReturnFrameEnd
  split <;> exact ⟨_, rfl, .of_eq rfl⟩

theorem execProgramForwardFrameEnd_storeBounds (s : State) :
    KeepsStoreBounds (execProgramForwardFrameEnd s) s := by
  unfold execProgramForwardFrameEnd
  split
  · exact ⟨_, rfl, .trans (t := s.setLink { s.link with txProgram := none }) (.of_eq rfl)
      (.side ((State.programFree_side _).trans (State.settlePort_side _)))⟩
  · exact ⟨_, rfl, id⟩

theorem execStageLinkDown_storeBounds (s : State) : KeepsStoreBounds (execStageLinkDown s) s := by
  have hdown : StoreBoundsKept s s.stageDown := .of_eq rfl
  by_cases hup : s.link.stageUp = true
  · refine ⟨_, execStageLinkDown_up hup, ?_⟩
    split
    · exact hdown.trans (.side (State.readoutAbort_side _))
    · exact hdown
  · exact ⟨s, by simp [execStageLinkDown, hup], id⟩

theorem execProgramLinkDown_storeBounds (s : State) : KeepsStoreBounds (execProgramLinkDown s) s := by
  by_cases hup : s.link.programUp = true
  · exact ⟨_, execProgramLinkDown_up hup,
      .trans (t := s.programDown) (.of_eq rfl) (.side (State.readoutAbort_side _))⟩
  · exact ⟨s, by simp [execProgramLinkDown, hup], id⟩

/-! ## Ends of module operations -/

section Ends

variable (ok g : Bool) (answer : Answer) (s : State)

/-- The end of a module operation: module contents, then the port. -/
theorem State.operationFreed_storeBounds (op : PortOp) : StoreBoundsKept s ((s.operationEnds op ok).freePort g) :=
  .trans (.flash (s.operationEnds_side op ok)) (.side (State.freePort_side _ g))

/-- What follows an operation's end settles the port at last. -/
theorem StoreBoundsKept.settled {t : State} (h : StoreBoundsKept s t) : StoreBoundsKept s t.settlePort :=
  h.trans (.side t.settlePort_side)

theorem execArchiveProgramEnd_storeBounds : KeepsStoreBounds (execArchiveProgramEnd ok g s) s := by
  unfold execArchiveProgramEnd
  split
  · rename_i a p _ _
    refine ⟨_, rfl, .settled _ ?_⟩
    have hfree := (s.operationFreed_storeBounds ok g (.archiveProgram a p)).trans
      (.side (State.raiseWritePage_side _ a.extent))
    split
    · exact hfree.trans (.side ((State.countProgramFailure_side _).trans (State.pageFailed_side _ _ _)))
    split
    · exact hfree.trans (.side ((State.pageMoves_side _ _ _ _).trans (State.submit_side _ _)))
    · exact hfree.trans (.side (State.pageVerified_side _ _))
  · exact ⟨_, rfl, id⟩

theorem execVerifyFetchEnd_storeBounds : KeepsStoreBounds (execVerifyFetchEnd answer g s) s := by
  unfold execVerifyFetchEnd
  split
  · refine ⟨_, rfl, .settled _ (.trans (.side (s.freePort_side g)) ?_)⟩
    split
    · exact .side (State.pageVerified_side _ _)
    · exact .side ((State.countMismatch_side _).trans (State.pageFailed_side _ _ _))
  · exact ⟨_, rfl, id⟩

theorem execBadMarkWriteEnd_storeBounds : KeepsStoreBounds (execBadMarkWriteEnd ok g s) s := by
  unfold execBadMarkWriteEnd
  split
  · exact ⟨_, rfl, .settled _ (s.operationFreed_storeBounds ok g _)⟩
  · exact ⟨_, rfl, .settled _ (s.operationFreed_storeBounds ok g _)⟩
  · exact ⟨_, rfl, id⟩

theorem execCatalogProgramEnd_storeBounds : KeepsStoreBounds (execCatalogProgramEnd ok g s) s := by
  unfold execCatalogProgramEnd
  split
  · rename_i a p _ _
    refine ⟨_, rfl, .settled _ (.trans (s.operationFreed_storeBounds ok g (.catalogProgram a p)) ?_)⟩
    split
    · exact .side ((State.countProgramFailure_side _).trans (State.attemptFailed_side _))
    split
    · exact .side (State.submit_side _ _)
    · exact .side (State.writeEnd_side _ _)
  · exact ⟨_, rfl, id⟩

theorem execCatalogVerifyEnd_storeBounds : KeepsStoreBounds (execCatalogVerifyEnd answer g s) s := by
  unfold execCatalogVerifyEnd
  split
  · refine ⟨_, rfl, .settled _ (.trans (.side (s.freePort_side g)) ?_)⟩
    split
    · exact .side (State.writeEnd_side _ _)
    · exact .side ((State.countMismatch_side _).trans (State.attemptFailed_side _))
  · exact ⟨_, rfl, id⟩

theorem execCatalogEraseEnd_storeBounds : KeepsStoreBounds (execCatalogEraseEnd ok g s) s := by
  unfold execCatalogEraseEnd
  split
  · rename_i e _ _
    refine ⟨_, rfl, .settled _ (.trans (s.operationFreed_storeBounds ok g (.catalogErase e)) ?_)⟩
    split
    · exact .side (State.catalogErased_side _ _)
    · exact .side (State.writeEnd_side _ _)
  · exact ⟨_, rfl, id⟩

theorem execEraseEnd_storeBounds : KeepsStoreBounds (execEraseEnd ok g s) s := by
  unfold execEraseEnd
  split
  · rename_i e _ _
    refine ⟨_, rfl, .settled _ (.trans (s.operationFreed_storeBounds ok g (.eraserErase e)) ?_)⟩
    split
    · exact .side ((State.setExtent_side _ _ _).trans (State.pump_side _))
    · exact .side ((State.countEraseFailure_side _).trans
        ((State.extentBad_side _ _ _).trans (State.submit_side _ _)))
  · exact ⟨_, rfl, id⟩

theorem execFormatEraseEnd_storeBounds : KeepsStoreBounds (execFormatEraseEnd ok g s) s := by
  unfold execFormatEraseEnd
  split
  · rename_i e _ _
    refine ⟨_, rfl, .settled _ (.trans (s.operationFreed_storeBounds ok g (.formatErase e))
      (.trans ?_ (.side (State.formatErasedOne_side _ _ _))))⟩
    split
    · exact id
    · exact .side (State.countEraseFailure_side _)
  · exact ⟨_, rfl, id⟩

theorem execMountCatalogFetchEnd_storeBounds : KeepsStoreBounds (execMountCatalogFetchEnd answer g s) s := by
  unfold execMountCatalogFetchEnd
  split
  · exact ⟨_, rfl, .settled _ (.side ((s.freePort_side g).trans (State.catalogFetched_side _ _ _ _ _ _)))⟩
  · exact ⟨_, rfl, id⟩

theorem execMountSpareFetchEnd_storeBounds : KeepsStoreBounds (execMountSpareFetchEnd answer g s) s := by
  unfold execMountSpareFetchEnd
  split
  · exact ⟨_, rfl, .settled _ (.side ((s.freePort_side g).trans (State.scanned_side _ _ _)))⟩
  · exact ⟨_, rfl, id⟩

theorem execRecoveryFetchEnd_storeBounds : KeepsStoreBounds (execRecoveryFetchEnd answer g s) s := by
  unfold execRecoveryFetchEnd
  split
  · exact ⟨_, rfl, .settled _ (.side ((s.freePort_side g).trans (State.recoveryFetched_side _ _ _ _)))⟩
  · exact ⟨_, rfl, id⟩

theorem execReadoutFetchEnd_storeBounds : KeepsStoreBounds (execReadoutFetchEnd answer g s) s := by
  unfold execReadoutFetchEnd
  split
  · refine ⟨_, rfl, .settled _ (.trans (.side (s.freePort_side g)) ?_)⟩
    split
    · exact .side (State.readoutFetched_side _ _)
    · exact id
  · exact ⟨_, rfl, id⟩

end Ends

/-! ## Requests -/

/-- A request's block keeps the store's bounds. -/
def BlockKeepsStoreBounds (block : Entry → State → State) : Prop :=
  ∀ (e : Entry) (s : State), StoreBoundsKept s (block e s)

section Requests

variable {s u : State} {e : Entry} {st : Status} {ws : List Word}

/-- A request answered at its service. -/
theorem StoreBoundsKept.complete {a : Nat} (h : StoreBoundsKept s u) : StoreBoundsKept s (u.complete a st ws) :=
  h.trans (.side (u.complete_side a st ws))

theorem State.refuse_storeBounds : StoreBoundsKept s (s.refuse e st) := .complete id

/-- A request answered at its service, in a state whose store is as it was. -/
theorem State.complete_storeBounds {a : Nat} (h : u.store = s.store) : StoreBoundsKept s (u.complete a st ws) :=
  .complete (.of_eq h)

end Requests

/-- The blocks of the sample path's requests change nothing of the store. -/
theorem serveGenLoad_storeBounds : BlockKeepsStoreBounds serveGenLoad := by
  intro e s; unfold serveGenLoad; dsimp only; split <;> exact State.complete_storeBounds rfl
theorem serveSourceClear_storeBounds : BlockKeepsStoreBounds serveSourceClear := by
  intro e s; unfold serveSourceClear; dsimp only; split <;> exact State.complete_storeBounds rfl
theorem serveSourceConfig_storeBounds : BlockKeepsStoreBounds serveSourceConfig := by
  intro e s; unfold serveSourceConfig; dsimp only; split <;> exact State.complete_storeBounds rfl
theorem serveSourceRead_storeBounds : BlockKeepsStoreBounds serveSourceRead := by
  intro e s; unfold serveSourceRead; dsimp only; split <;> exact State.complete_storeBounds rfl
theorem serveTrackSet_storeBounds : BlockKeepsStoreBounds serveTrackSet := by
  intro e s; unfold serveTrackSet; dsimp only; repeat' split
  all_goals exact State.complete_storeBounds rfl
theorem serveTrimCorrect_storeBounds : BlockKeepsStoreBounds serveTrimCorrect := by
  intro e s; unfold serveTrimCorrect; dsimp only; split <;> exact State.complete_storeBounds rfl
theorem serveTrackRead_storeBounds : BlockKeepsStoreBounds serveTrackRead := by
  intro e s; unfold serveTrackRead; dsimp only; repeat' split
  all_goals exact State.complete_storeBounds rfl
theorem serveMixSet_storeBounds : BlockKeepsStoreBounds serveMixSet := by
  intro e s; unfold serveMixSet; dsimp only; split <;> exact State.complete_storeBounds rfl
theorem serveMixTake_storeBounds : BlockKeepsStoreBounds serveMixTake := fun _ _ => State.complete_storeBounds rfl
theorem serveMixRead_storeBounds : BlockKeepsStoreBounds serveMixRead := by
  intro e s; unfold serveMixRead; dsimp only; split
  · exact State.refuse_storeBounds
  · refine State.complete_storeBounds ?_
    split <;> rfl
theorem serveStreamSet_storeBounds : BlockKeepsStoreBounds serveStreamSet := by
  intro e s; unfold serveStreamSet; repeat' split
  all_goals exact State.complete_storeBounds rfl
theorem serveStreamRead_storeBounds : BlockKeepsStoreBounds serveStreamRead :=
  fun _ _ => State.complete_storeBounds rfl
theorem serveMeterConfig_storeBounds : BlockKeepsStoreBounds serveMeterConfig := by
  intro e s; unfold serveMeterConfig; dsimp only; repeat' split
  all_goals exact State.complete_storeBounds rfl
theorem serveMeterRead_storeBounds : BlockKeepsStoreBounds serveMeterRead := by
  intro e s; unfold serveMeterRead; dsimp only; split
  · exact State.refuse_storeBounds
  · refine State.complete_storeBounds ?_
    split <;> rfl

theorem serveTakeOpen_storeBounds : BlockKeepsStoreBounds serveTakeOpen := by
  intro e s; unfold serveTakeOpen
  split
  · exact State.refuse_storeBounds
  split
  · exact State.refuse_storeBounds
  split
  · exact State.refuse_storeBounds
  split
  · exact State.refuse_storeBounds
  · exact .side ((State.setTakes_side _ _).trans ((State.firstAllocation_side _ _ _).trans
      ((State.holdSlot_side _ _ _).trans ((State.askCatalog_side _ _).trans (State.settlePort_side _)))))

/-- A request that arms a transition, or is refused. -/
theorem serveTakePause_storeBounds : BlockKeepsStoreBounds serveTakePause := by
  intro e s; unfold serveTakePause
  split
  · split
    · exact State.refuse_storeBounds
    split
    · exact State.refuse_storeBounds
    · exact .side (s.arm_side _ _ _)
  · exact State.refuse_storeBounds

theorem serveTakeResume_storeBounds : BlockKeepsStoreBounds serveTakeResume := by
  intro e s; unfold serveTakeResume
  split
  · split
    · exact State.refuse_storeBounds
    · exact .side (s.arm_side _ _ _)
  · exact State.refuse_storeBounds

theorem serveTakeClose_storeBounds : BlockKeepsStoreBounds serveTakeClose := by
  intro e s; unfold serveTakeClose
  split
  · split
    · exact State.refuse_storeBounds
    · exact .side (s.arm_side _ _ _)
  · exact State.refuse_storeBounds

/-- A take's record is changed for a request that holds the slot, and the catalog write is asked for. -/
theorem State.asksCatalog_side (s : State) (n : Nat) (f : TakeRecord → TakeRecord) (e : Entry) (k : StoreOpKind)
    (w : Waiter) : StoreSide s (((s.mapTake n f).holdSlot e k).askCatalog w).settlePort :=
  (s.mapTake_side n f).trans ((State.holdSlot_side _ _ _).trans ((State.askCatalog_side _ _).trans
    (State.settlePort_side _)))

theorem serveProtect_storeBounds (v : Bool) : BlockKeepsStoreBounds (serveProtect v) := by
  intro e s; unfold serveProtect
  split
  · exact State.refuse_storeBounds
  split
  · exact State.refuse_storeBounds
  split
  · exact State.refuse_storeBounds
  split
  · exact State.complete_storeBounds rfl
  · exact .side (State.asksCatalog_side ..)

theorem serveTakeDelete_storeBounds : BlockKeepsStoreBounds serveTakeDelete := by
  intro e s; unfold serveTakeDelete
  split
  · exact State.refuse_storeBounds
  split
  · exact State.refuse_storeBounds
  split
  · exact State.refuse_storeBounds
  split
  · exact State.refuse_storeBounds
  · exact .side (State.asksCatalog_side ..)

theorem serveStoreFormat_storeBounds : BlockKeepsStoreBounds serveStoreFormat := by
  intro e s; unfold serveStoreFormat
  split
  · exact State.refuse_storeBounds
  split
  · exact State.refuse_storeBounds
  split
  · exact State.refuse_storeBounds
  · refine .trans (t := { s with store := { s.store with state := .unformatted, format := some ⟨false, false⟩ } })
      (.of_queue le_rfl rfl rfl rfl) (.side ?_)
    exact (State.holdSlot_side _ _ _).trans ((State.formatFrom_side _ _ _ _).trans (State.settlePort_side _))

theorem serveReadTake_storeBounds : BlockKeepsStoreBounds serveReadTake := by
  intro e s; unfold serveReadTake
  split
  · exact State.refuse_storeBounds
  split
  · exact State.refuse_storeBounds
  split
  · exact State.refuse_storeBounds
  · exact .side ((State.setReadout_side _ _).trans ((State.pageStepAndOffer_side _).trans
      (State.settlePort_side _)))

theorem serveReadStop_storeBounds : BlockKeepsStoreBounds serveReadStop := by
  intro e s; unfold serveReadStop
  split
  · exact .complete (.side (s.readoutEnd_side _))
  · exact State.refuse_storeBounds

theorem serveTakeList_storeBounds : BlockKeepsStoreBounds serveTakeList := by
  intro e s; unfold serveTakeList; repeat' split
  all_goals exact State.complete_storeBounds rfl

/-- The settings STORE_CONFIG leaves are in their ranges (R125). -/
theorem StoreController.configured_mem {c : StoreController} {e : Entry} {x : Settings}
    (h : c.configured e = some x) (hc : c.Bounded) : 1024 ≤ x.backlog ∧ x.backlog ≤ 16384
      ∧ 1 ≤ x.holdTime ∧ x.holdTime ≤ 65535 ∧ x.lowMark ≤ 131072 := by
  obtain ⟨-, hb1, hb2, hh1, hh2, hl⟩ := hc
  unfold StoreController.configured at h
  split at h
  · rename_i hbacklog hhold hlow
    cases h
    obtain ⟨hb1', hb2'⟩ := settingOf_mem hbacklog hb1 hb2
    obtain ⟨hh1', hh2'⟩ := settingOf_mem hhold hh1 hh2
    exact ⟨hb1', hb2', hh1', hh2', (settingOf_mem hlow (Nat.zero_le _) hl).2⟩
  · cases h

theorem serveStoreConfig_storeBounds : BlockKeepsStoreBounds serveStoreConfig := by
  intro e s; unfold serveStoreConfig
  split
  · exact State.refuse_storeBounds
  split
  · exact State.refuse_storeBounds
  · rename_i x hx
    refine .complete fun hs => ?_
    have hconfigured : s.store.configured e = some x := by
      split at hx
      · cases hx
      · exact hx
    exact ⟨hs.1, StoreController.configured_mem hconfigured hs⟩

theorem serveStoreStatus_storeBounds : BlockKeepsStoreBounds serveStoreStatus := by
  intro e s; unfold serveStoreStatus; dsimp only; split
  · exact State.refuse_storeBounds
  · refine .complete ?_
    split
    · exact .of_queue le_rfl rfl rfl rfl
    · exact id

theorem serveQuery_storeBounds : BlockKeepsStoreBounds serveQuery := by
  intro e s; unfold serveQuery; dsimp only; repeat' split
  all_goals exact State.complete_storeBounds rfl

theorem serveReserve_storeBounds : BlockKeepsStoreBounds serveReserve := by
  intro e s; unfold serveReserve; repeat' split
  all_goals exact State.complete_storeBounds rfl

theorem serveRelease_storeBounds : BlockKeepsStoreBounds serveRelease := by
  intro e s; unfold serveRelease; repeat' split
  all_goals exact State.complete_storeBounds rfl

theorem serveUnitStatus_storeBounds : BlockKeepsStoreBounds serveUnitStatus := by
  intro e s; unfold serveUnitStatus; dsimp only; split
  · exact State.refuse_storeBounds
  · refine State.complete_storeBounds ?_
    split <;> rfl

theorem serveUnitReset_storeBounds : BlockKeepsStoreBounds serveUnitReset := by
  intro e s; unfold serveUnitReset; split
  · exact State.refuse_storeBounds
  · exact .complete (.of_queue le_rfl rfl rfl rfl)

/-- A service hands the chosen request to its block, or nothing happens (R186, R187). -/
theorem State.serve_storeBounds {block : Entry → State → State} (c : RequestCode)
    (hb : BlockKeepsStoreBounds block) (s : State) : KeepsStoreBounds (.next (s.serve c block)) s := by
  refine ⟨_, rfl, ?_⟩
  rcases s.serve_cases c block with hs | ⟨e, -, -, hs⟩
  · rw [hs]; exact id
  · rw [hs]; exact .trans (t := s.activate e.arrival) (.of_eq rfl) (hb e _)

/-! ## Every command -/

theorem exec_storeBounds (c : Instr) (s : State) : KeepsStoreBounds (exec c s) s := by
  cases c with
  | powerOn =>
    have hnew : ({} : StoreController).Bounded := by decide
    exact ⟨_, rfl, fun _ => hnew⟩
  | rowEvent => exact ⟨_, rfl, s.row_storeBounds⟩
  | sourceLapse n => exact keepsStoreBounds_ite _ s.row_storeBounds
  | sourceAcquired n => exact keepsStoreBounds_ite _ s.row_storeBounds
  | generatorLevelStep => exact keepsStoreBounds_ite _ s.row_storeBounds
  | holdCountdownExpiry => exact ⟨_, rfl, .side s.takeHoldExpiry_side⟩
  | mixBoundary => exact keepsStoreBounds_ite _ (.of_eq rfl)
  | archiveBoundary => exact keepsStoreBounds_ite _ s.archiveBoundary_storeBounds
  | indexExhaustion => exact keepsStoreBounds_ite _ s.archiveBoundary_storeBounds
  | windowEnd => exact keepsStoreBounds_ite _ (.of_eq rfl)
  | stageFrameComplete w => exact execStageFrameComplete_storeBounds w s
  | throughReturnFrameComplete w => exact execThroughReturnFrameComplete_storeBounds w s
  | programReturnFrameComplete w => exact execProgramReturnFrameComplete_storeBounds w s
  | strayWord d w => exact execStrayWord_storeBounds d w s
  | framingError d w => exact execFramingError_storeBounds d w s
  | frameAbandoned d => exact keepsStoreBounds_setLink _
  | throughFrameEnd => exact execThroughFrameEnd_storeBounds s
  | stageReturnFrameEnd => exact execStageReturnFrameEnd_storeBounds s
  | programForwardFrameEnd => exact execProgramForwardFrameEnd_storeBounds s
  | stageLinkDown => exact execStageLinkDown_storeBounds s
  | programLinkDown => exact execProgramLinkDown_storeBounds s
  | throughPortDown => exact keepsStoreBounds_setLink _
  | linkUp k => exact ⟨_, rfl, .of_eq rfl⟩
  | trackSet => exact State.serve_storeBounds _ serveTrackSet_storeBounds s
  | trackRead => exact State.serve_storeBounds _ serveTrackRead_storeBounds s
  | trimCorrect => exact State.serve_storeBounds _ serveTrimCorrect_storeBounds s
  | sourceConfig => exact State.serve_storeBounds _ serveSourceConfig_storeBounds s
  | sourceClear => exact State.serve_storeBounds _ serveSourceClear_storeBounds s
  | sourceRead => exact State.serve_storeBounds _ serveSourceRead_storeBounds s
  | genLoad => exact State.serve_storeBounds _ serveGenLoad_storeBounds s
  | mixSet => exact State.serve_storeBounds _ serveMixSet_storeBounds s
  | mixTake => exact State.serve_storeBounds _ serveMixTake_storeBounds s
  | mixRead => exact State.serve_storeBounds _ serveMixRead_storeBounds s
  | streamSet => exact State.serve_storeBounds _ serveStreamSet_storeBounds s
  | streamRead => exact State.serve_storeBounds _ serveStreamRead_storeBounds s
  | meterConfig => exact State.serve_storeBounds _ serveMeterConfig_storeBounds s
  | meterRead => exact State.serve_storeBounds _ serveMeterRead_storeBounds s
  | takeOpen => exact State.serve_storeBounds _ serveTakeOpen_storeBounds s
  | takePause => exact State.serve_storeBounds _ serveTakePause_storeBounds s
  | takeResume => exact State.serve_storeBounds _ serveTakeResume_storeBounds s
  | takeClose => exact State.serve_storeBounds _ serveTakeClose_storeBounds s
  | takeProtect => exact State.serve_storeBounds _ (serveProtect_storeBounds true) s
  | takeUnprotect => exact State.serve_storeBounds _ (serveProtect_storeBounds false) s
  | takeDelete => exact State.serve_storeBounds _ serveTakeDelete_storeBounds s
  | takeList => exact State.serve_storeBounds _ serveTakeList_storeBounds s
  | storeFormat => exact State.serve_storeBounds _ serveStoreFormat_storeBounds s
  | storeConfig => exact State.serve_storeBounds _ serveStoreConfig_storeBounds s
  | storeStatus => exact State.serve_storeBounds _ serveStoreStatus_storeBounds s
  | readTake => exact State.serve_storeBounds _ serveReadTake_storeBounds s
  | readStop => exact State.serve_storeBounds _ serveReadStop_storeBounds s
  | unitStatus => exact State.serve_storeBounds _ serveUnitStatus_storeBounds s
  | query => exact State.serve_storeBounds _ serveQuery_storeBounds s
  | reserve => exact State.serve_storeBounds _ serveReserve_storeBounds s
  | release => exact State.serve_storeBounds _ serveRelease_storeBounds s
  | unitReset => exact State.serve_storeBounds _ serveUnitReset_storeBounds s
  | archiveProgramEnd ok g => exact execArchiveProgramEnd_storeBounds ok g s
  | verifyFetchEnd a g => exact execVerifyFetchEnd_storeBounds g a s
  | badMarkWriteEnd ok g => exact execBadMarkWriteEnd_storeBounds ok g s
  | catalogProgramEnd ok g => exact execCatalogProgramEnd_storeBounds ok g s
  | catalogVerifyEnd a g => exact execCatalogVerifyEnd_storeBounds g a s
  | catalogEraseEnd ok g => exact execCatalogEraseEnd_storeBounds ok g s
  | eraseEnd ok g => exact execEraseEnd_storeBounds ok g s
  | formatEraseEnd ok g => exact execFormatEraseEnd_storeBounds ok g s
  | mountCatalogFetchEnd a g => exact execMountCatalogFetchEnd_storeBounds g a s
  | mountSpareFetchEnd a g => exact execMountSpareFetchEnd_storeBounds g a s
  | recoveryFetchEnd a g => exact execRecoveryFetchEnd_storeBounds g a s
  | timeLimitExpiry => exact ⟨_, rfl, s.takeExpiry_storeBounds⟩
  | readoutFetchEnd a g => exact execReadoutFetchEnd_storeBounds g a s
  | frameHeaderTaken d w => exact execFrameHeaderTaken_storeBounds d w s
  | bodyWordTaken d w => exact execBodyWordTaken_storeBounds d w s

/-- Settles O8: each command keeps the store's bounds, so each step does. -/
theorem packetQueueStaysBounded : Obligations.PacketQueueStaysBounded := by
  intro s t hs ht
  unfold step at ht
  split at ht
  · cases ht; exact hs
  · rename_i c cs _
    obtain ⟨u, hu, hkept⟩ := exec_storeBounds c { s with pending := cs }
    rw [hu] at ht
    cases ht; exact hkept hs

end Sys2Proof.Machine
end

section
/-!
The archive coding of one block (R61 to R69): the map of residuals, the Rice parameter, the partitions and the three
payloads, each with its size.
-/

namespace Sys2Proof.Machine

/-! ## The map of residuals -/

theorem zigzag_of_nonneg {e : Int} (h : 0 ≤ e) : (zigzag e : Int) = 2 * e := by
  rw [zigzag, if_pos h]
  omega

theorem zigzag_of_neg {e : Int} (h : e < 0) : (zigzag e : Int) = -2 * e - 1 := by
  rw [zigzag, if_neg (Int.not_le.mpr h)]
  omega

theorem unzigzag_zigzag (e : Int) : unzigzag (zigzag e) = e := by
  unfold unzigzag
  rcases Int.lt_or_le e 0 with h | h
  · have hmap := zigzag_of_neg h
    rw [if_neg (by omega)]
    omega
  · have hmap := zigzag_of_nonneg h
    rw [if_pos (by omega)]
    omega

/-- What a residual of order 3 at most can be mapped to (R64). -/
theorem zigzag_le {e : Int} (hlo : -67108860 ≤ e) (hhi : e ≤ 67108860) : zigzag e ≤ 134217720 := by
  rcases Int.lt_or_le e 0 with h | h
  · have hmap := zigzag_of_neg h
    omega
  · have hmap := zigzag_of_nonneg h
    omega

/-! ## The Rice parameter -/

theorem riceFrom_le (c u : Nat) : ∀ n, riceFrom c u n ≤ n
  | 0 => le_rfl
  | n + 1 => by
    rw [riceFrom]
    split
    · exact le_rfl
    · exact (riceFrom_le c u n).trans n.le_succ

/-- The parameter found passes the test of R66, or is the 0 of no parameter passing it. -/
theorem riceFrom_eq_zero_or (c u : Nat) : ∀ n, riceFrom c u n = 0 ∨ c * 2 ^ riceFrom c u n ≤ u
  | 0 => .inl rfl
  | n + 1 => by
    rw [riceFrom]
    split
    · exact .inr ‹_›
    · exact riceFrom_eq_zero_or c u n

/-- No parameter above the one found passes the test. -/
theorem le_riceFrom {c u k : Nat} (hk : c * 2 ^ k ≤ u) : ∀ n, k ≤ n → k ≤ riceFrom c u n
  | 0, h => h
  | n + 1, h => by
    rw [riceFrom]
    split
    · exact h
    · rename_i hfails
      refine le_riceFrom hk n (Nat.le_of_lt_succ (lt_of_le_of_ne h ?_))
      rintro rfl
      exact hfails hk

theorem riceParameter_le (us : List Nat) : riceParameter us ≤ 22 := riceFrom_le _ _ _

/-- Settles O16: the map by the sign of the residual, the parameter by the search from 22 down. -/
theorem residualMapAndRiceParameter : Obligations.ResidualMapAndRiceParameter := by
  refine ⟨fun e => ⟨zigzag_of_nonneg, zigzag_of_neg, unzigzag_zigzag e, fun hlo hhi => ?_⟩, fun us => ?_⟩
  · have hle := zigzag_le hlo hhi
    exact ⟨hle, hle.trans_lt (by norm_num)⟩
  · intro c u r
    have hr : r ≤ 22 := riceParameter_le us
    have hfound : r = 0 ∨ c * 2 ^ r ≤ u := riceFrom_eq_zero_or c u 22
    have hgreatest : ∀ k, k ≤ 22 → c * 2 ^ k ≤ u → k ≤ r := fun k hk hfits => le_riceFrom hfits 22 hk
    refine ⟨hr, fun hcu => ?_, hgreatest, fun huc => hfound.resolve_right fun hfits => ?_,
      fun hfits => le_antisymm hr (hgreatest 22 le_rfl hfits)⟩
    · rcases hfound with h0 | hfits
      · rwa [h0, pow_zero, mul_one]
      · exact hfits
    · have hc : c ≤ c * 2 ^ r := Nat.le_mul_of_pos_right c (Nat.two_pow_pos r)
      exact absurd (hc.trans hfits) (Nat.not_le.mpr huc)

/-! ## Residuals -/

theorem chooseOrder_le (xs : List Int) : ∀ p, chooseOrder xs p ≤ p
  | 0 => le_rfl
  | p + 1 => by
    rw [chooseOrder]
    split
    · exact le_rfl
    · exact (chooseOrder_le xs p).trans p.le_succ

theorem residualsAfter_length (k : Nat) : ∀ p xs : List Int, (residualsAfter k p xs).length = xs.length
  | _, [] => rfl
  | p, x :: xs => congrArg Nat.succ (residualsAfter_length k (x :: p) xs)

theorem residuals_length (k : Nat) (xs : List Int) : (residuals k xs).length = xs.length - k := by
  rw [residuals, residualsAfter_length, List.length_drop]

/-- A number of the sample range (00_scope "Samples"). -/
def InSampleRange (x : Int) : Prop := -8388608 ≤ x ∧ x ≤ 8388607

theorem InSampleRange.getD {p : List Int} (h : ∀ x ∈ p, InSampleRange x) (n : Nat) : InSampleRange (p.getD n 0) := by
  rw [List.getD_eq_getElem?_getD]
  cases hn : p[n]? with
  | none => exact ⟨by decide, by decide⟩
  | some x => exact h x (List.mem_of_getElem? hn)

/-- The residuals of an order fit the map of R64: the coefficients of order 3 add up to 8 (R62). -/
theorem sub_predict_mem {k : Nat} {x : Int} {p : List Int} (hx : InSampleRange x) (hp : ∀ y ∈ p, InSampleRange y) :
    -67108860 ≤ x - predict k p ∧ x - predict k p ≤ 67108860 := by
  obtain ⟨hx1, hx2⟩ := hx
  obtain ⟨ha1, ha2⟩ := InSampleRange.getD hp 0
  obtain ⟨hb1, hb2⟩ := InSampleRange.getD hp 1
  obtain ⟨hc1, hc2⟩ := InSampleRange.getD hp 2
  unfold predict
  split <;> omega

theorem residualsAfter_mem (k : Nat) : ∀ p xs : List Int, (∀ y ∈ p, InSampleRange y) → (∀ x ∈ xs, InSampleRange x) →
    ∀ e ∈ residualsAfter k p xs, -67108860 ≤ e ∧ e ≤ 67108860
  | _, [], _, _ => fun _ he => absurd he List.not_mem_nil
  | p, x :: xs, hp, hxs => by
    obtain ⟨hx, hrest⟩ := List.forall_mem_cons.mp hxs
    exact List.forall_mem_cons.mpr
      ⟨sub_predict_mem hx hp, residualsAfter_mem k (x :: p) xs (List.forall_mem_cons.mpr ⟨hx, hp⟩) hrest⟩

/-- The mapped residuals of a block (R62, R64). -/
def mappedResiduals (k : Nat) (xs : List Int) : List Nat := (residuals k xs).map zigzag

theorem mappedResiduals_length (k : Nat) (xs : List Int) : (mappedResiduals k xs).length = xs.length - k := by
  rw [mappedResiduals, List.length_map, residuals_length]

/-- A mapped residual fits the 27 bits of an escaped partition (R64, R68). -/
theorem mappedResiduals_lt {xs : List Int} (h : ∀ x ∈ xs, InSampleRange x) (k : Nat) :
    ∀ u ∈ mappedResiduals k xs, u < 2 ^ 27 := by
  intro u hu
  obtain ⟨e, he, rfl⟩ := List.mem_map.mp hu
  have hwarm : ∀ y ∈ (xs.take k).reverse, InSampleRange y := fun y hy =>
    h y (List.mem_of_mem_take (List.mem_reverse.mp hy))
  obtain ⟨hlo, hhi⟩ := residualsAfter_mem k _ _ hwarm (fun x hx => h x (List.mem_of_mem_drop hx)) e he
  exact (zigzag_le hlo hhi).trans_lt (by norm_num)

/-! ## Partitions and their sizes -/

/-- A partition takes at least its parameter's 5 bits and a bit for each residual (R67, R68). -/
theorem le_partitionBits_length (us : List Nat) : 5 + us.length ≤ (partitionBits us).length := by
  have hcode : ∀ {f : Nat → List Bool}, (∀ u, 1 ≤ (f u).length) → us.length ≤ (us.flatMap f).length := by
    intro f hf
    induction us with
    | nil => exact le_rfl
    | cons u us ih =>
      have hu := hf u
      rw [List.flatMap_cons, List.length_append, List.length_cons]
      omega
  unfold partitionBits
  dsimp only
  split
  · rw [List.length_append, natBits_length]
    exact Nat.add_le_add_left (hcode fun u => by simp) 5
  · rw [List.length_append, natBits_length]
    refine Nat.add_le_add_left (hcode fun u => ?_) 5
    rw [riceCode, List.length_append, List.length_cons]
    omega

/-- The four partitions of a block's mapped residuals, with the number of each (R65). -/
theorem partitions_eq {k : Nat} {us : List Nat} (hk : k ≤ 3) (hus : us.length = 256 - k) :
    ∃ a b c d, partitions k us = [a, b, c, d] ∧ us = a ++ b ++ c ++ d
      ∧ a.length = 64 - k ∧ b.length = 64 ∧ c.length = 64 ∧ d.length = 64 := by
  refine ⟨_, _, _, _, rfl, ?_, ?_, ?_, ?_, ?_⟩
  · have hlast : us.drop (64 - k + 128) = (us.drop (64 - k + 64)).drop 64 := by
      rw [List.drop_drop]
    have hmiddle : us.drop (64 - k + 64) = (us.drop (64 - k)).drop 64 := List.drop_drop.symm
    rw [List.append_assoc, List.append_assoc, hlast, List.take_append_drop, hmiddle, List.take_append_drop,
      List.take_append_drop]
  · rw [List.length_take]
    omega
  · rw [List.length_take, List.length_drop]
    omega
  · rw [List.length_take, List.length_drop]
    omega
  · rw [List.length_drop]
    omega

theorem predictedBits_eq (k : Nat) (xs : List Int) : predictedBits k xs
    = (xs.take k).flatMap (intBits 24) ++ (partitions k (mappedResiduals k xs)).flatMap partitionBits := rfl

theorem flatMap_intBits_length (n : Nat) (xs : List Int) : (xs.flatMap (intBits n)).length = n * xs.length := by
  induction xs with
  | nil => rfl
  | cons x xs ih =>
    rw [List.flatMap_cons, List.length_append, intBits_length, ih, List.length_cons]
    ring

/-- A PREDICTED payload has no fewer bits than a bit a sample and four parameters of 5 bits (R69). -/
theorem le_predictedBits_length {k : Nat} {xs : List Int} (hk : k ≤ 3) (hxs : xs.length = 256) :
    276 ≤ (predictedBits k xs).length := by
  have hus : (mappedResiduals k xs).length = 256 - k := by rw [mappedResiduals_length, hxs]
  obtain ⟨a, b, c, d, hparts, -, ha, hb, hc, hd⟩ := partitions_eq hk hus
  have hbitsA := le_partitionBits_length a
  have hbitsB := le_partitionBits_length b
  have hbitsC := le_partitionBits_length c
  have hbitsD := le_partitionBits_length d
  rw [predictedBits_eq, hparts]
  simp only [List.flatMap_cons, List.flatMap_nil, List.length_append, List.length_nil, flatMap_intBits_length,
    List.length_take, hxs]
  omega

/-! ## The three payloads -/

/-- What a block is coded to (R61, R69): CONSTANT, PREDICTED where that is shorter than VERBATIM, or VERBATIM. -/
theorem codeSamples_cases (xs : List Int) (maxOrder : Nat) :
    (allEqual xs = true ∧ codeSamples xs maxOrder = ⟨0, 0, intBits 24 (xs.headD 0)⟩)
    ∨ (∃ k ≤ maxOrder, (predictedBits k xs).length < 6144 ∧ codeSamples xs maxOrder = ⟨1, k, predictedBits k xs⟩)
    ∨ codeSamples xs maxOrder = ⟨2, 0, xs.flatMap (intBits 24)⟩ := by
  unfold codeSamples
  dsimp only
  split
  · exact .inl ⟨‹_›, rfl⟩
  split
  · exact .inr (.inl ⟨_, chooseOrder_le xs maxOrder, ‹_›, rfl⟩)
  · exact .inr (.inr rfl)

/-- The sizes of the three payloads (R69). -/
theorem codeSamples_size {xs : List Int} {maxOrder : Nat} (hxs : xs.length = 256) (hmax : maxOrder ≤ 3) :
    let c := codeSamples xs maxOrder
    (c.kind = 0 ∧ c.bits.length = 24) ∨ (c.kind = 1 ∧ 276 ≤ c.bits.length ∧ c.bits.length < 6144)
      ∨ (c.kind = 2 ∧ c.bits.length = 6144) := by
  dsimp only
  rcases codeSamples_cases xs maxOrder with ⟨-, hc⟩ | ⟨k, hk, hlt, hc⟩ | hc
  · rw [hc]
    exact .inl ⟨rfl, intBits_length 24 _⟩
  · rw [hc]
    exact .inr (.inl ⟨rfl, le_predictedBits_length (hk.trans hmax) hxs, hlt⟩)
  · rw [hc]
    exact .inr (.inr ⟨rfl, by rw [flatMap_intBits_length, hxs]⟩)

theorem codeSamples_order_le (xs : List Int) (maxOrder : Nat) : (codeSamples xs maxOrder).order ≤ maxOrder := by
  rcases codeSamples_cases xs maxOrder with ⟨-, hc⟩ | ⟨k, hk, -, hc⟩ | hc
  · exact hc ▸ Nat.zero_le _
  · exact hc ▸ hk
  · exact hc ▸ Nat.zero_le _

/-- Kind, order and payload length fit their header fields (R199). -/
theorem codeSamples_fits {xs : List Int} {maxOrder : Nat} (hxs : xs.length = 256) (hmax : maxOrder ≤ 3) :
    (codeSamples xs maxOrder).kind < 4 ∧ (codeSamples xs maxOrder).order < 4
      ∧ 1 ≤ (codeSamples xs maxOrder).bits.length ∧ (codeSamples xs maxOrder).bits.length ≤ 6144 := by
  have horder := codeSamples_order_le xs maxOrder
  rcases codeSamples_size hxs hmax with ⟨hkind, hbits⟩ | ⟨hkind, hlo, hhi⟩ | ⟨hkind, hbits⟩ <;> omega

end Sys2Proof.Machine
end

section
/-!
Archive packets (R70, R71, R73, R199): the fields of the header words, the number of words, and the payload read back
from the words (04 "Reading a packet back").
-/

namespace Sys2Proof.Machine

/-! ## The header words -/

/-- The flags stand at bits 0 to 4 (R199). -/
theorem PacketFlags.bits_testBit (f : PacketFlags) : f.bits < 32 ∧ f.bits.testBit 0 = f.concealed
    ∧ f.bits.testBit 1 = f.clipped ∧ f.bits.testBit 2 = f.silent ∧ f.bits.testBit 3 = f.loss
    ∧ f.bits.testBit 4 = f.sourceChanged := by
  obtain ⟨c0, c1, c2, c3, c4⟩ := f
  revert c0 c1 c2 c3 c4
  decide

section Header

variable {track index concealed : Nat} {f : PacketFlags} {c : Coded}

theorem packetWords_getD_zero : (packetWords track index concealed f c).getD 0 0
    = natWord (0xA5 * 2 ^ 24 + track * 2 ^ 17 + c.kind * 2 ^ 15 + c.order * 2 ^ 13 + f.bits) := rfl

theorem packetWords_getD_two :
    (packetWords track index concealed f c).getD 2 0 = natWord (c.bits.length * 2 ^ 16 + concealed) := rfl

theorem packetWords_length : (packetWords track index concealed f c).length = 3 + wordsFor c.bits.length := by
  rw [packetWords, List.length_append, packBits, packInto_length]
  rfl

/-- The fields of the first header word (R71, R199). -/
theorem packetWords_fields (ht : track < 128) (hk : c.kind < 4) (ho : c.order < 4) :
    let w := (packetWords track index concealed f c).getD 0 0
    field w 31 24 = 0xA5 ∧ field w 23 17 = track ∧ field w 16 15 = c.kind ∧ field w 14 13 = c.order
      ∧ field w 12 5 = 0 := by
  obtain ⟨hf, -⟩ := f.bits_testBit
  intro w
  have hw : w = natWord (0xA5 * 2 ^ 24 + track * 2 ^ 17 + c.kind * 2 ^ 15 + c.order * 2 ^ 13 + f.bits) :=
    packetWords_getD_zero
  rw [hw, field_natWord (by omega), field_natWord (by omega), field_natWord (by omega), field_natWord (by omega),
    field_natWord (by omega)]
  norm_num
  omega

/-- The flags of the first header word (R72, R199). -/
theorem packetWords_flags (ht : track < 128) (hk : c.kind < 4) (ho : c.order < 4) :
    let w := (packetWords track index concealed f c).getD 0 0
    bitSet w 0 = f.concealed ∧ bitSet w 1 = f.clipped ∧ bitSet w 2 = f.silent ∧ bitSet w 3 = f.loss
      ∧ bitSet w 4 = f.sourceChanged := by
  obtain ⟨hf, h0, h1, h2, h3, h4⟩ := f.bits_testBit
  intro w
  have hnat : w.toNat = 2 ^ 5 * (0xA5 * 2 ^ 19 + track * 2 ^ 12 + c.kind * 2 ^ 10 + c.order * 2 ^ 8) + f.bits := by
    have hw : w = natWord (0xA5 * 2 ^ 24 + track * 2 ^ 17 + c.kind * 2 ^ 15 + c.order * 2 ^ 13 + f.bits) :=
      packetWords_getD_zero
    rw [hw, natWord_toNat (by omega)]
    ring
  have hbit : ∀ i < 5, bitSet w i = f.bits.testBit i := fun i hi => by
    rw [bitSet, hnat, Nat.testBit_two_pow_mul_add _ hf, if_pos hi]
  exact ⟨(hbit 0 (by omega)).trans h0, (hbit 1 (by omega)).trans h1, (hbit 2 (by omega)).trans h2,
    (hbit 3 (by omega)).trans h3, (hbit 4 (by omega)).trans h4⟩

/-- The fields of the third header word (R71, R199). -/
theorem packetWords_length_fields (hc : concealed ≤ 256) (hbits : c.bits.length ≤ 6144) :
    let w := (packetWords track index concealed f c).getD 2 0
    field w 31 16 = c.bits.length ∧ field w 28 16 = c.bits.length ∧ field w 15 0 = concealed := by
  intro w
  have hw : w = natWord (c.bits.length * 2 ^ 16 + concealed) := packetWords_getD_two
  rw [hw, field_natWord (by omega), field_natWord (by omega), field_natWord (by omega)]
  norm_num
  omega

end Header

/-- Settles O15: the sizes of the three payloads, and the header words field by field. -/
theorem archivePacketSizes : Obligations.ArchivePacketSizes := by
  intro xs maxOrder track index concealed f hxs hmax c ws n
  obtain ⟨hkind, horder, hpos, hbits⟩ : c.kind < 4 ∧ c.order < 4 ∧ 1 ≤ c.bits.length ∧ c.bits.length ≤ 6144 :=
    codeSamples_fits hxs hmax
  have hn : n = 3 + (c.bits.length + 31) / 32 := packetWords_length
  refine ⟨hn, by omega, by omega, codeSamples_size hxs hmax, fun ht hi hc => ?_⟩
  intro w
  obtain ⟨hmark, htrack, hkindField, horderField, hzero⟩ :=
    packetWords_fields (index := index) (concealed := concealed) (f := f) ht hkind horder
  obtain ⟨h0, h1, h2, h3, h4⟩ :=
    packetWords_flags (index := index) (concealed := concealed) (f := f) ht hkind horder
  obtain ⟨hlength, -, hcount⟩ :=
    packetWords_length_fields (track := track) (index := index) (f := f) hc hbits
  exact ⟨hmark, htrack, hkindField, horderField, hzero, h0, h1, h2, h3, h4, natWord_toNat hi, hlength, hcount⟩

/-! ## Fields and codes read back -/

/-- Fields of one width are read back one by one (R70). -/
theorem readFields_flatMap {α : Type} {f : α → List Bool} {n : Nat} (hf : ∀ x, (f x).length = n) (rest : List Bool) :
    ∀ xs : List α, readFields n xs.length (xs.flatMap f ++ rest) = (xs.map fun x => bitsNat (f x), rest)
  | [] => rfl
  | x :: xs => by
    have htake : (f x ++ (xs.flatMap f ++ rest)).take n = f x := List.take_left' (hf x)
    have hdrop : (f x ++ (xs.flatMap f ++ rest)).drop n = xs.flatMap f ++ rest := List.drop_left' (hf x)
    rw [List.flatMap_cons, List.append_assoc, List.length_cons, readFields, readField, htake, hdrop]
    dsimp only
    rw [readFields_flatMap hf rest xs]
    rfl

theorem signedOf_intBits_sample {x : Int} (h : InSampleRange x) : signedOf 24 (bitsNat (intBits 24 x)) = x := by
  obtain ⟨hlo, hhi⟩ := h
  refine signedOf_intBits (by decide) ?_ ?_ <;> norm_num <;> omega

/-- Samples are read back from fields of 24 bits (R69). -/
theorem readSamples {xs : List Int} (h : ∀ x ∈ xs, InSampleRange x) (rest : List Bool) :
    (readFields 24 xs.length (xs.flatMap (intBits 24) ++ rest)).1.map (signedOf 24) = xs
      ∧ (readFields 24 xs.length (xs.flatMap (intBits 24) ++ rest)).2 = rest := by
  rw [readFields_flatMap (intBits_length 24)]
  refine ⟨?_, rfl⟩
  rw [List.map_map]
  exact (List.map_congr_left fun x hx => signedOf_intBits_sample (h x hx)).trans (List.map_id xs)

theorem readOnes_replicate (rest : List Bool) :
    ∀ q, readOnes (List.replicate q true ++ false :: rest) = (q, rest)
  | 0 => rfl
  | q + 1 => by
    rw [List.replicate_succ, List.cons_append, readOnes, readOnes_replicate rest q]

theorem readField_natBits (n v : Nat) (rest : List Bool) : readField n (natBits n v ++ rest) = (v % 2 ^ n, rest) := by
  rw [readField, List.take_left' (natBits_length n v), List.drop_left' (natBits_length n v), bitsNat_natBits]

/-- Rice codes are read back one by one (R67). -/
theorem readRice_flatMap (r : Nat) (rest : List Bool) :
    ∀ us : List Nat, readRice r us.length (us.flatMap (riceCode r) ++ rest) = (us, rest)
  | [] => rfl
  | u :: us => by
    rw [List.flatMap_cons, List.length_cons, readRice, riceCode, List.append_assoc, List.append_assoc,
      List.cons_append, readOnes_replicate]
    dsimp only
    rw [readField_natBits]
    dsimp only
    rw [readRice_flatMap r rest us, Nat.div_add_mod']

/-- A partition is read back, escaped or not: no parameter is the escape's 31 (R66 to R68). -/
theorem readPartition_partitionBits {us : List Nat} (h : ∀ u ∈ us, u < 2 ^ 27) (rest : List Bool) :
    readPartition us.length (partitionBits us ++ rest) = (us, rest) := by
  have hparameter := riceParameter_le us
  unfold partitionBits readPartition
  dsimp only
  split
  · rw [List.append_assoc, readField_natBits]
    dsimp only
    rw [if_pos (by decide), readFields_flatMap (natBits_length 27)]
    have hread : us.map (fun u => bitsNat (natBits 27 u)) = us := by
      refine (List.map_congr_left fun u hu => ?_).trans (List.map_id us)
      rw [bitsNat_natBits, Nat.mod_eq_of_lt (h u hu)]
      rfl
    rw [hread]
  · have hmod : riceParameter us % 2 ^ 5 = riceParameter us := Nat.mod_eq_of_lt (by omega)
    rw [List.append_assoc, readField_natBits]
    dsimp only
    rw [hmod, if_neg (by omega), readRice_flatMap]

/-! ## Blocks read back -/

/-- The samples are rebuilt from their residuals (R62). -/
theorem rebuild_residualsAfter (k : Nat) : ∀ p xs : List Int, rebuild k p (residualsAfter k p xs) = xs
  | _, [] => rfl
  | p, x :: xs => by
    rw [residualsAfter, rebuild, Int.sub_add_cancel, rebuild_residualsAfter k (x :: p) xs]

theorem map_unzigzag_mappedResiduals (k : Nat) (xs : List Int) :
    (mappedResiduals k xs).map unzigzag = residuals k xs := by
  rw [mappedResiduals, List.map_map]
  exact (List.map_congr_left fun e _ => unzigzag_zigzag e).trans (List.map_id _)

/-- A PREDICTED payload gives its samples back (R62 to R69). -/
theorem readPredicted_predictedBits {k : Nat} {xs : List Int} (hk : k ≤ 3) (hlen : xs.length = 256)
    (hxs : ∀ x ∈ xs, InSampleRange x) : readPredicted k (predictedBits k xs) = xs := by
  have hus : (mappedResiduals k xs).length = 256 - k := by rw [mappedResiduals_length, hlen]
  obtain ⟨a, b, c, d, hparts, husEq, ha, hb, hc, hd⟩ := partitions_eq hk hus
  have hlt := mappedResiduals_lt hxs k
  simp only [husEq, List.forall_mem_append] at hlt
  obtain ⟨⟨⟨hltA, hltB⟩, hltC⟩, hltD⟩ := hlt
  have hwarm : (xs.take k).length = k := by rw [List.length_take]; omega
  obtain ⟨hsamples, hrest⟩ := readSamples (fun x hx => hxs x (List.mem_of_mem_take hx : x ∈ xs))
    (xs := xs.take k) (partitionBits a ++ (partitionBits b ++ (partitionBits c ++ (partitionBits d ++ []))))
  have hbits : predictedBits k xs = (xs.take k).flatMap (intBits 24)
      ++ (partitionBits a ++ (partitionBits b ++ (partitionBits c ++ (partitionBits d ++ [])))) := by
    rw [predictedBits_eq, hparts]
    rfl
  have hreadA := readPartition_partitionBits hltA
  have hreadB := readPartition_partitionBits hltB
  have hreadC := readPartition_partitionBits hltC
  have hreadD := readPartition_partitionBits hltD
  rw [hwarm] at hsamples hrest
  rw [ha] at hreadA
  rw [hb] at hreadB
  rw [hc] at hreadC
  rw [hd] at hreadD
  rw [hbits, readPredicted]
  simp only [hsamples, hrest, hreadA, hreadB, hreadC, hreadD, ← husEq, map_unzigzag_mappedResiduals]
  rw [residuals, rebuild_residualsAfter, List.take_append_drop]

/-- A block of equal samples is a list of copies of the first. -/
theorem eq_replicate_of_allEqual {xs : List Int} (h : allEqual xs = true) :
    xs = List.replicate xs.length (xs.headD 0) :=
  List.eq_replicate_of_mem fun x hx => of_decide_eq_true (List.all_eq_true.mp h x hx)

/-- A block is read back from its kind, order and payload bits (04 "Reading a packet back"). -/
theorem readBlock_codeSamples {xs : List Int} {maxOrder : Nat} (hlen : xs.length = 256)
    (hxs : ∀ x ∈ xs, InSampleRange x) (hmax : maxOrder ≤ 3) :
    readBlock (codeSamples xs maxOrder).kind (codeSamples xs maxOrder).order (codeSamples xs maxOrder).bits = xs := by
  rcases codeSamples_cases xs maxOrder with ⟨hequal, hc⟩ | ⟨k, hk, -, hc⟩ | hc
  · have hhead : InSampleRange (xs.headD 0) := by
      cases xs with
      | nil => exact ⟨by decide, by decide⟩
      | cons x xs => exact hxs x List.mem_cons_self
    have hfield : (readField 24 (intBits 24 (xs.headD 0))).1 = bitsNat (intBits 24 (xs.headD 0)) := by
      rw [readField, List.take_of_length_le (intBits_length 24 _).le]
    have hcopies : List.replicate 256 (xs.headD 0) = xs := hlen ▸ (eq_replicate_of_allEqual hequal).symm
    rw [hc, readBlock, if_pos rfl, hfield, signedOf_intBits_sample hhead]
    exact hcopies
  · rw [hc, readBlock, if_neg one_ne_zero, if_pos rfl]
    exact readPredicted_predictedBits (hk.trans hmax) hlen hxs
  · obtain ⟨hsamples, -⟩ := readSamples hxs []
    rw [hlen, List.append_nil] at hsamples
    rw [hc, readBlock, if_neg two_ne_zero, if_neg (OfNat.ofNat_ne_one 2)]
    exact hsamples

/-- The payload bits of a packet, as many as its header says (R70, R71). -/
theorem packetWords_payload {track index concealed : Nat} {f : PacketFlags} {c : Coded} :
    (unpackWords ((packetWords track index concealed f c).drop 3)).take c.bits.length = c.bits := by
  obtain ⟨fill, hfill⟩ := unpackWords_packBits c.bits
  have hdrop : (packetWords track index concealed f c).drop 3 = packBits c.bits := rfl
  rw [hdrop, hfill, List.take_left]

/-- Settles O14: the header gives kind, order and length, the words the payload, and the payload the block. -/
theorem archivePacketGivesBackItsSamples : Obligations.ArchivePacketGivesBackItsSamples := by
  intro xs maxOrder track index concealed f hlen hxs hmax ht _ hc
  obtain ⟨hkind, horder, -, hbits⟩ := codeSamples_fits hlen hmax
  obtain ⟨-, -, hkindField, horderField, -⟩ :=
    packetWords_fields (index := index) (concealed := concealed) (f := f) ht hkind horder
  obtain ⟨-, hlength, -⟩ := packetWords_length_fields (track := track) (index := index) (f := f) hc hbits
  rw [readPacket, hkindField, horderField, hlength, packetWords_payload]
  exact readBlock_codeSamples hlen hxs hmax

end Sys2Proof.Machine
end

section
/-!
What the Readout Engine's own work may change (R129 to R141): its record, the Link Unit, the operations at the store
port, and the request of a readout that ends.
-/

namespace Sys2Proof.Machine

/-- `t` differs from `s` at most in the Link Unit, the readout, the operations at the store port, the requests in the
queue and the count of refused broadcasts. -/
def EngineSide (s t : State) : Prop :=
  ∃ link readout entries refused inFlight waiting, t = { s with
    link := link, readout := readout
    requests := { s.requests with entries := entries, broadcastRefused := refused }
    store := { s.store with inFlight := inFlight, waiting := waiting } }

namespace EngineSide

theorem refl (s : State) : EngineSide s s := ⟨_, _, _, _, _, _, rfl⟩

theorem trans {s t u : State} (h : EngineSide s t) (k : EngineSide t u) : EngineSide s u := by
  obtain ⟨_, _, _, _, _, _, rfl⟩ := h
  obtain ⟨_, _, _, _, _, _, rfl⟩ := k
  exact ⟨_, _, _, _, _, _, rfl⟩

end EngineSide

variable (s : State)

theorem State.complete_engineSide (a : Nat) (st : Status) (ws : List Word) : EngineSide s (s.complete a st ws) := by
  unfold State.complete
  split
  · exact .refl s
  · dsimp only
    split
    · split <;> exact ⟨_, _, _, _, _, _, rfl⟩
    · exact ⟨_, _, _, _, _, _, rfl⟩

theorem State.setReadout_engineSide (r : ReadoutEngine) : EngineSide s (s.setReadout r) := ⟨_, _, _, _, _, _, rfl⟩

theorem State.readoutEnd_engineSide (st : Status) : EngineSide s (s.readoutEnd st) :=
  .trans (t := s.readoutGone st) ⟨_, _, _, _, _, _, rfl⟩ (State.complete_engineSide _ _ _ _)

theorem State.readoutFetch_engineSide : EngineSide s s.readoutFetch := by
  unfold State.readoutFetch
  split
  · split
    · exact ⟨_, _, _, _, _, _, rfl⟩
    · exact s.readoutEnd_engineSide _
  · exact s.readoutEnd_engineSide _

theorem State.backlogTest_engineSide : EngineSide s s.backlogTest := by
  unfold State.backlogTest
  split
  · exact s.readoutFetch_engineSide
  · exact s.setReadout_engineSide _

theorem State.pageStep_engineSide : EngineSide s s.pageStep := by
  unfold State.pageStep
  dsimp only
  split
  · exact s.backlogTest_engineSide
  · exact s.setReadout_engineSide _

theorem State.readoutBuild_engineSide : EngineSide s s.readoutBuild := by
  unfold State.readoutBuild
  split
  · exact s.setReadout_engineSide _
  · exact s.setReadout_engineSide _
  · exact .refl s

theorem State.departure_engineSide : EngineSide s s.departure := by
  unfold State.departure
  split
  · exact .refl s
  · dsimp only
    split
    · exact (s.setReadout_engineSide _).trans (State.readoutEnd_engineSide _ _)
    · exact s.setReadout_engineSide _

theorem State.readoutAccept_engineSide (b : BuiltFrame) : EngineSide s (s.readoutAccept b) := by
  have hjoin : EngineSide s (s.readoutJoin b) := ⟨_, _, _, _, _, _, rfl⟩
  have hstart : EngineSide (s.readoutJoin b) { s.readoutJoin b with link := (s.readoutJoin b).link.startProgram.1 } :=
    ⟨_, _, _, _, _, _, rfl⟩
  have hegress : EngineSide (s.readoutJoin b) (s.readoutJoin b).egress := by
    unfold State.egress
    dsimp only
    split
    · exact hstart.trans (State.departure_engineSide _)
    · exact hstart
  unfold State.readoutAccept
  dsimp only
  split
  · exact (hjoin.trans hegress).trans (State.pageStep_engineSide _)
  · exact hjoin.trans hegress

theorem State.readoutAdvance_engineSide (n : Nat) : ∀ s : State, EngineSide s (s.readoutAdvance n) := by
  induction n with
  | zero => exact .refl
  | succ n ih =>
    intro s
    by_cases hbuilds : s.readout.state = .sending ∨ s.readout.state = .final
    · have hbuild := s.readoutBuild_engineSide
      cases hheld : s.readoutBuild.readout.held with
      | none => rcases hbuilds with h | h <;> simpa [State.readoutAdvance, h, hheld] using hbuild
      | some b =>
        rw [State.readoutAdvance_round hbuilds hheld]
        split
        · exact hbuild.trans ((State.readoutAccept_engineSide _ b).trans (ih _))
        · exact hbuild
    · obtain ⟨hs, hf⟩ := not_or.mp hbuilds
      rw [State.readoutAdvance_rest hs hf]
      exact .refl s

/-- The notice that a take has become CLOSED (R137). -/
theorem State.readoutClosedNotice_engineSide (n : Nat) : EngineSide s (s.readoutClosedNotice n) := by
  unfold State.readoutClosedNotice
  split
  · split
    · exact s.backlogTest_engineSide
    · exact (s.setReadout_engineSide _).trans (State.readoutAdvance_engineSide _ _)
  · exact .refl s

/-- Only a FOLLOWING readout heeds the notice (R137). -/
theorem State.readoutClosedNotice_unheeded {s : State} (h : s.readout.state ≠ .following) (n : Nat) :
    s.readoutClosedNotice n = s := if_neg (by simp [h])

end Sys2Proof.Machine
end

section
/-!
Catalog writes that a transition or a drain asks for (R86, R87, R90, R97, R98): the write starts, waits, or fails at
once and then tells the store operation.
-/

namespace Sys2Proof.Machine

/-! ## The catalog's position -/

/-- In `x` the catalog write in flight, the waiting one, the catalog position and the modules are those of `s`. -/
structure CatalogAs (s x : State) : Prop where
  write : x.takes.write = s.takes.write
  waiting : x.takes.waiting = s.takes.waiting
  current : x.takes.catCurrent = s.takes.catCurrent
  next : x.takes.catNext = s.takes.catNext
  seq : x.takes.catSeq = s.takes.catSeq
  modules : x.store.modules = s.store.modules

namespace CatalogAs

variable {s x t : State} {w : Waiter}

theorem trans {y : State} (h : CatalogAs s x) (k : CatalogAs x y) : CatalogAs s y where
  write := k.write.trans h.write
  waiting := k.waiting.trans h.waiting
  current := k.current.trans h.current
  next := k.next.trans h.next
  seq := k.seq.trans h.seq
  modules := k.modules.trans h.modules

theorem answers (h : CatalogAs s x) : x.store.answers 0 = s.store.answers 0 := by
  unfold StoreController.answers StoreController.module
  rw [h.modules]

theorem ready (h : CatalogAs s x) : x.CatalogReady ↔ s.CatalogReady := by
  unfold State.CatalogReady
  rw [h.write, h.answers, h.seq]

theorem stopped (h : CatalogAs s x) : x.CatalogStopped ↔ s.CatalogStopped := by
  unfold State.CatalogStopped
  rw [h.write, h.answers, h.seq]

theorem begun (h : CatalogAs s x) (k : CatalogWriteBegun x t w) : CatalogWriteBegun s t w := by
  unfold CatalogWriteBegun at k ⊢
  rwa [h.waiting, h.current, h.next, h.seq] at k

theorem joined (h : CatalogAs s x) (k : CatalogWriteJoined x t w) : CatalogWriteJoined s t w := by
  unfold CatalogWriteJoined at k ⊢
  rwa [h.write, h.waiting, h.current, h.next, h.seq] at k

theorem failed (h : CatalogAs s x) (k : CatalogWriteFailed x t) : CatalogWriteFailed s t := by
  unfold CatalogWriteFailed at k ⊢
  rwa [h.waiting, h.current, h.next, h.seq] at k

end CatalogAs

/-- A catalog write asked for starts, waits or fails at once (R97, R98). -/
theorem State.catalog_cases (x : State) : x.CatalogReady ∨ x.takes.write ≠ none ∨ x.CatalogStopped := by
  by_cases hwrite : x.takes.write = none
  · by_cases hgoes : x.store.answers 0 = true ∧ x.takes.catSeq < Config.indexMax
    · exact .inl ⟨hwrite, hgoes⟩
    · refine .inr (.inr ⟨hwrite, ?_⟩)
      rw [not_and_or, Bool.not_eq_true, Nat.not_lt] at hgoes
      exact hgoes
  · exact .inr (.inl hwrite)

/-! ## The end of the store operation -/

section Ask

variable {x y : State} {w : Waiter}

/-- A store operation that ends is answered, where its request is still in the queue (R184, R188). -/
theorem State.completeStoreOp_answered {op : StoreOp} {e : Entry} (hop : x.requests.storeOp = some op)
    (hlawful : x.requests.Lawful) (he : e ∈ x.requests.entries) (harrival : e.arrival = op.arrival) (st : Status)
    (ws : List Word) :
    Answered x.link { x.requests with storeOp := none } e st ws (x.completeStoreOp st ws) := by
  have hend : x.completeStoreOp st ws
      = ({ x with requests := { x.requests with storeOp := none } } : State).complete e.arrival st ws := by
    simp only [State.completeStoreOp, hop, harrival]
  rw [hend]
  exact State.complete_mem (s := { x with requests := { x.requests with storeOp := none } }) hlawful he st ws

/-- After its end the slot is free and no request of its arrival number is left (R184). -/
theorem State.completeStoreOp_frees {op : StoreOp} (hop : x.requests.storeOp = some op) (st : Status)
    (ws : List Word) : (x.completeStoreOp st ws).requests.storeOp = none
      ∧ ∀ e ∈ (x.completeStoreOp st ws).requests.entries, e.arrival ≠ op.arrival := by
  have hend : x.completeStoreOp st ws
      = ({ x with requests := { x.requests with storeOp := none } } : State).complete op.arrival st ws := by
    simp only [State.completeStoreOp, hop]
  rw [hend]
  unfold State.complete
  split
  · rename_i hnone
    exact ⟨rfl, fun e he => by simpa using List.find?_eq_none.mp hnone e he⟩
  · have hdropped : ∀ e ∈ x.requests.entries.filter (fun e => decide (e.arrival ≠ op.arrival)),
        e.arrival ≠ op.arrival := fun e he => of_decide_eq_true (List.mem_filter.mp he).2
    dsimp only
    split
    · split <;> exact ⟨rfl, hdropped⟩
    · exact ⟨rfl, hdropped⟩

/-! ## Asking and settling -/

/-- What asking for a catalog write may change: its write and position, the store port, and by a store operation that
ends at once the Link Unit and the Request Queue. -/
def AskedSide (x t : State) : Prop :=
  ∃ link requests, CatalogSide { x with link := link, requests := requests } t

theorem PortSide.catalogSide (h : PortSide x y) : CatalogSide x y := by
  obtain ⟨_, _, rfl⟩ := h
  exact ⟨_, _, _, _, _, _, rfl⟩

theorem CatalogSide.askedSide (h : CatalogSide x y) : AskedSide x y := ⟨_, _, h⟩

/-- A close that no request waits for is told nothing (R91, R98). -/
theorem State.askCatalog_unanswered (x : State) : CatalogSide x (x.askCatalog .exhaustionClose).settlePort := by
  rcases x.catalog_cases with hready | hbusy | hstopped
  · exact (State.askCatalog_begun hready).1
  · exact (State.askCatalog_joined hbusy).1
  · rw [State.askCatalog_stopped _ _ hstopped]
    exact x.settlePort_portSide.catalogSide

/-- A pause, a resume or a close whose catalog write fails at once ends with STORE_FAULT (R86, R87, R90, R98). -/
theorem State.askCatalog_storeFault (h : x.CatalogStopped)
    (hkind : ∀ op, x.requests.storeOp = some op → op.kind = .pause ∨ op.kind = .resume ∨ op.kind = .close) :
    x.askCatalog .storeOperation = x.completeStoreOp .storeFault [] := by
  rw [State.askCatalog_stopped _ _ h]
  show x.storeOpWritten false = _
  unfold State.storeOpWritten
  cases hop : x.requests.storeOp with
  | none => simp only [State.completeStoreOp, hop]
  | some op => rcases hkind op hop with hk | hk | hk <;> simp only [hk, Bool.false_eq_true, if_false]

theorem State.completeStoreOp_settled (x : State) (st : Status) (ws : List Word) :
    AskedSide x (x.completeStoreOp st ws).settlePort := by
  have hport := (x.completeStoreOp st ws).settlePort_portSide
  rw [State.completeStoreOp_eq] at hport ⊢
  exact ⟨_, _, hport.catalogSide⟩

theorem State.askCatalog_askedSide
    (hkind : ∀ op, x.requests.storeOp = some op → op.kind = .pause ∨ op.kind = .resume ∨ op.kind = .close) :
    AskedSide x (x.askCatalog .storeOperation).settlePort := by
  rcases x.catalog_cases with hready | hbusy | hstopped
  · exact (State.askCatalog_begun hready).1.askedSide
  · exact (State.askCatalog_joined hbusy).1.askedSide
  · rw [State.askCatalog_storeFault hstopped hkind]
    exact x.completeStoreOp_settled _ _

/-- A write that has failed at once leaves the catalog as it was (R98). -/
theorem State.completeStoreOp_catalogFailed (h : x.takes.write = none) (st : Status) (ws : List Word) :
    CatalogWriteFailed x (x.completeStoreOp st ws).settlePort := by
  have hport := (x.completeStoreOp st ws).settlePort_portSide
  rw [State.completeStoreOp_eq] at hport ⊢
  unfold CatalogWriteFailed
  rw [hport.eq]
  exact ⟨h, rfl, rfl, rfl, rfl⟩

end Ask

end Sys2Proof.Machine
end

section
/-!
The staging pages of a take that ends (R110, R111, R113 to R116): a round never touches a page in its program or verify,
rests with nothing to move, submits a flushed page, and stalls where there is no extent to write to.
-/

namespace Sys2Proof.Machine

/-! ## Pages being written -/

/-- A staging page that is being programmed or verified. -/
abbrev StagingPage.Busy (p : StagingPage) : Prop := p.state = .programming ∨ p.state = .verifying

theorem StagingPage.Submitted.eq_of_busy {p q : StagingPage} (h : p.Submitted q) (hp : p.Busy) : q = p :=
  h.resolve_right fun ⟨hw, _⟩ => by rcases hp with hp | hp <;> simp [hp] at hw

/-- What rounds may change: staging only, and not page A while it is being written. -/
structure RoundSide (s t : State) : Prop where
  side : StagingSide s t
  busyA : s.store.pageA.Busy → t.store.pageA = s.store.pageA

namespace RoundSide

theorem refl (s : State) : RoundSide s s := ⟨.refl s, fun _ => rfl⟩

theorem trans {s t u : State} (h : RoundSide s t) (k : RoundSide t u) : RoundSide s u :=
  ⟨h.side.trans k.side, fun hb => (k.busyA (by rw [h.busyA hb]; exact hb)).trans (h.busyA hb)⟩

end RoundSide

theorem SubmitMove.roundSide {s t : State} (h : SubmitMove s t) : RoundSide s t :=
  ⟨h.side, h.pageA.eq_of_busy⟩

/-- A feeding moves queue, pages and write state (R110). -/
theorem StoreController.feed_roundSide (s : State) (ws : WriteState) (n : Nat) (closing : Bool) :
    RoundSide s { s with store := s.store.feed ws n closing } := by
  unfold StoreController.feed
  dsimp only
  split
  · rename_i hfilling
    exact ⟨⟨_, _, _, _, _, _, _, rfl⟩, fun hb => by simp [StagingPage.Busy, hfilling] at hb⟩
  split
  · exact ⟨⟨_, _, _, _, _, _, _, rfl⟩, fun _ => rfl⟩
  split
  · exact .refl s
  split
  · rename_i hempty
    exact ⟨⟨_, _, _, _, _, _, _, rfl⟩, fun hb => by simp [StagingPage.Busy, hempty] at hb⟩
  split
  · exact ⟨⟨_, _, _, _, _, _, _, rfl⟩, fun _ => rfl⟩
  · exact .refl s

theorem State.stagingRound_roundSide (s : State) : RoundSide s s.stagingRound := by
  unfold State.stagingRound
  split
  · exact (StoreController.feed_roundSide s _ _ _).trans
      ((State.submitA_move _).roundSide.trans (State.submitB_move _).roundSide)
  · exact .refl s

/-- The two rounds of one event (R110). -/
def State.twoRounds (s : State) : State := s.stagingRound.stagingRound

theorem State.twoRounds_roundSide (s : State) : RoundSide s s.twoRounds :=
  s.stagingRound_roundSide.trans (State.stagingRound_roundSide _)

/-- The rounds of an OPEN take are all that the store's moving on does (R115). -/
theorem State.pump_roundSide {s : State} {k : TakeRecord} (hlive : s.liveTake = some k) (hopen : k.state = .opened) :
    RoundSide s s.pump := by
  have hrounds : s.pump = s.twoRounds :=
    State.drain_open (s.twoRounds_roundSide.side.liveTake.trans hlive) hopen
  rw [hrounds]
  exact s.twoRounds_roundSide

/-! ## Rounds with nothing to move -/

section Rests

variable {s : State} {ws : WriteState} {k : TakeRecord}

theorem StagingPage.ready_of_not_waiting {p : StagingPage} (h : p.state ≠ .waiting) (other : StagingPage) :
    p.ready other = false := by
  simp [StagingPage.ready, h]

theorem State.submitA_rests (h : s.store.pageA.state ≠ .waiting) : s.submitA = s := by
  unfold State.submitA
  split
  · rw [StagingPage.ready_of_not_waiting h]
    rfl
  · rfl

theorem State.submitB_rests (h : s.store.pageB.state ≠ .waiting) : s.submitB = s := by
  unfold State.submitB
  split
  · rw [StagingPage.ready_of_not_waiting h]
    rfl
  · rfl

/-- With an empty queue and no page FILLING there is nothing to feed (R110). -/
theorem StoreController.feed_rests {c : StoreController} (hq : c.queue = []) (hA : c.pageA.state ≠ .filling)
    (hB : c.pageB.state ≠ .filling) (n : Nat) (closing : Bool) : c.feed ws n closing = c := by
  unfold StoreController.feed
  dsimp only
  rw [if_neg hA, if_neg hB, if_pos (by rw [hq]; rfl)]

/-- A round with an empty queue and no page FILLING or WAITING. -/
theorem State.stagingRound_rests (hq : s.store.queue = [])
    (hA : s.store.pageA.state ≠ .filling ∧ s.store.pageA.state ≠ .waiting)
    (hB : s.store.pageB.state ≠ .filling ∧ s.store.pageB.state ≠ .waiting) : s.stagingRound = s := by
  unfold State.stagingRound
  split
  · rw [StoreController.feed_rests hq hA.1 hB.1]
    show s.submitA.submitB = s
    rw [State.submitA_rests hA.2, State.submitB_rests hB.2]
  · rfl

theorem State.twoRounds_rests (hq : s.store.queue = [])
    (hA : s.store.pageA.state ≠ .filling ∧ s.store.pageA.state ≠ .waiting)
    (hB : s.store.pageB.state ≠ .filling ∧ s.store.pageB.state ≠ .waiting) : s.twoRounds = s := by
  have hround := State.stagingRound_rests hq hA hB
  rw [State.twoRounds, hround, hround]

/-- The rounds of a CLOSING take, as its feeding and its submissions. -/
theorem State.stagingRound_closing (hlive : s.liveTake = some k) (hclosing : k.state = .closing)
    (hws : s.store.writeState = some ws) : s.stagingRound
      = ({ s with store := s.store.feed ws k.number true } : State).submitA.submitB := by
  simp only [State.stagingRound, hlive, hws, hclosing, decide_true]

end Rests

/-! ## A flushed page -/

/-- A FILLING page of a CLOSING take is WAITING once it has been fed: it is full, or it is flushed (R110, R115). -/
theorem StagingPage.fill_flush {p : StagingPage} (h : p.state = .filling) (queue : List PacketWord) :
    (p.fill queue).1.flush true (p.fill queue).2 = { (p.fill queue).1 with state := .waiting } := by
  unfold StagingPage.flush
  split
  · rfl
  · rename_i hstays
    have hwaiting : (p.fill queue).1.state = .waiting := by
      have hstate := p.fill_state queue
      rw [h] at hstate
      split at hstate
      · exact hstate
      · refine (p.fill_closed queue).resolve_left fun hnil => hstays ?_
        simp [hnil, hstate]
    rw [← hwaiting]

/-- A page that is fed from an empty queue takes no words (R110). -/
theorem StagingPage.fill_nil (p : StagingPage) :
    { (p.fill []).1 with state := .waiting } = ({ p with state := .waiting } : StagingPage) := by
  have hoffset : p.offsetAfter [] = p.firstOffset := by
    unfold StagingPage.offsetAfter
    split
    · exact Eq.symm ‹_›
    · rfl
  simp [StagingPage.fill, hoffset]

/-- The data words of a page's program (R104). -/
theorem StagingPage.data_eq (p : StagingPage) : p.data
    = [natWord p.take, natWord p.pageSeq, natWord p.firstOffset, natWord (4 + p.words.length)]
      ++ (p.words.map PacketWord.word ++ List.replicate 4092 0).take 4092 := by
  have hfill : ∀ ws : List Word, (ws ++ List.replicate 4096 0).take 4092 = (ws ++ List.replicate 4092 0).take 4092 := by
    intro ws
    rw [List.take_append, List.take_append, List.take_replicate, List.take_replicate]
    congr 2
    omega
  exact congrArg
    ([natWord p.take, natWord p.pageSeq, natWord p.firstOffset, natWord (4 + p.words.length)] ++ ·) (hfill _)

section Flush

variable {s : State} {ws : WriteState} {k : TakeRecord} {e : Nat} {x : Extent}

/-- The store once page A has been flushed and submitted to the current extent (R111, R115). -/
def StoreController.flushedA (c : StoreController) (ws : WriteState) (e : Nat) : StoreController :=
  { c with
    pageA := { c.pageA with state := .programming, failedBefore := false }
    writeState := some { ws with stalled := false }
    waiting := c.waiting ++ [.archiveProgram ⟨e, ws.writePage⟩
      { data := c.pageA.data, spare := spareOf c.pageA.take c.pageA.pageSeq (c.seqOf e) c.pageA.data }] }

/-- The rounds of a CLOSING take with nothing but a FILLING page A, whose current extent can take it (R111, R115). -/
theorem State.twoRounds_flush (hlive : s.liveTake = some k) (hclosing : k.state = .closing)
    (hws : s.store.writeState = some ws) (hq : s.store.queue = []) (hA : s.store.pageA.state = .filling)
    (hB : s.store.pageB.state = .empty) (hcurrent : ws.current = some e) (hextent : s.store.extent e = some x)
    (howned : x.state = .owned) (hanswers : s.store.answers e = true) (hpage : ws.writePage < 128) :
    s.twoRounds = { s with store := s.store.flushedA ws e } := by
  have hfeed : s.store.feed ws k.number true
      = { s.store with pageA := { s.store.pageA with state := .waiting }, writeState := some ws } := by
    have hnil : (s.store.pageA.fill []).2 = [] := List.drop_nil
    have hflush := StagingPage.fill_flush hA []
    rw [hnil, StagingPage.fill_nil] at hflush
    unfold StoreController.feed
    dsimp only
    rw [if_pos hA, hq, hnil, hflush, ← hq]
  have htarget : StoreController.currentTarget
      { s.store with pageA := { s.store.pageA with state := .waiting }, writeState := some ws } ws
        = some ⟨e, ws.writePage⟩ := by
    have hx : StoreController.extent
        { s.store with pageA := { s.store.pageA with state := .waiting }, writeState := some ws } e = some x := hextent
    have ha : StoreController.answers
        { s.store with pageA := { s.store.pageA with state := .waiting }, writeState := some ws } e = true := hanswers
    have hp : ws.writePage < Config.extentPages := hpage
    simp only [StoreController.currentTarget, hcurrent, hx, ha, howned, hp, Option.any_some, decide_true,
      Bool.and_self, if_true]
  have hready : StagingPage.ready { s.store.pageA with state := .waiting } s.store.pageB = true := by
    simp [StagingPage.ready, hB]
  have hround : s.stagingRound = { s with store := s.store.flushedA ws e } := by
    rw [State.stagingRound_closing hlive hclosing hws, hfeed]
    refine (State.submitB_rests ?_).trans ?_
    · rw [(State.submitA_move _).pageB.resolve_right fun ⟨hw, _⟩ => by simp [hB] at hw]
      simp [hB]
    · simp only [State.submitA, hready, State.target, htarget, if_true]
      rfl
  rw [State.twoRounds, hround]
  exact State.stagingRound_rests hq ⟨nofun, nofun⟩ (by simp [StoreController.flushedA, hB])

end Flush

/-! ## A stalled take -/

/-- Words that stand behind page A: those of page B and of the queue (R110). -/
def StoreController.behind (c : StoreController) : List PacketWord :=
  (if c.pageB.state = .empty then [] else c.pageB.words) ++ c.queue

/-- No extent can take the pages: page A waits before page B, the current extent is lost and the free list is empty
(R111, R114). -/
structure StoreController.Stuck (c : StoreController) (ws : WriteState) : Prop where
  writeState : c.writeState = some ws
  noFree : c.freeList = []
  lost : ∀ e x, ws.current = some e → c.extent e = some x → x.state ≠ .owned
  waits : c.pageA.state = .waiting
  notBusy : ¬ c.pageB.Busy
  order : c.pageA.pageSeq ≤ if c.pageB.state = .empty then ws.nextStaging else c.pageB.pageSeq

section Stuck

variable {s : State} {c : StoreController} {ws : WriteState} {k : TakeRecord}

/-- Nothing waits to be fed: page B is not FILLING, and where it is EMPTY so is the queue. -/
def StoreController.FedB (c : StoreController) : Prop :=
  c.pageB.state ≠ .filling ∧ (c.pageB.state = .empty → c.queue = [])

/-- What feeding page B, which is or starts FILLING as `p`, makes of a stuck store. -/
theorem StoreController.Stuck.feedB {p : StagingPage} {v : WriteState} (h : c.Stuck ws) (hp : p.state = .filling)
    (hcurrent : v.current = ws.current) (hseq : c.pageA.pageSeq ≤ p.pageSeq)
    (hwords : p.words = if c.pageB.state = .empty then [] else c.pageB.words) :
    let d : StoreController := { c with
      pageB := (p.fill c.queue).1.flush true (p.fill c.queue).2, queue := (p.fill c.queue).2, writeState := some v }
    d.Stuck v ∧ d.FedB ∧ d.behind = c.behind := by
  intro d
  have hB : d.pageB = { (p.fill c.queue).1 with state := .waiting } := StagingPage.fill_flush hp c.queue
  refine ⟨⟨rfl, h.noFree, fun e x he hx => h.lost e x (hcurrent ▸ he) hx, h.waits, by simp [StagingPage.Busy, hB],
    ?_⟩, by simp [StoreController.FedB, hB], ?_⟩
  · rw [hB]
    exact hseq
  · have hbehind : d.behind = p.words ++ (p.takes c.queue ++ (p.fill c.queue).2) := by
      rw [StoreController.behind, hB, ← List.append_assoc]
      rfl
    rw [hbehind, StagingPage.fill_queue, hwords]
    rfl

/-- Feeding a stuck store: page B takes what it can and waits behind page A (R110, R115). -/
theorem StoreController.Stuck.feed (h : c.Stuck ws) (n : Nat) : ∃ v, let d := c.feed ws n true
    d.Stuck v ∧ d.FedB ∧ d.behind = c.behind ∧ d.pageA = c.pageA ∧ d.table = c.table := by
  have hA : c.pageA.state ≠ .filling ∧ c.pageA.state ≠ .empty := by simp [h.waits]
  have horder := h.order
  unfold StoreController.feed
  dsimp only
  rw [if_neg hA.1]
  split
  · rename_i hB
    have hne : c.pageB.state ≠ .empty := by simp [hB]
    rw [if_neg hne] at horder
    obtain ⟨hstuck, hfed, hbehind⟩ := h.feedB hB rfl horder (if_neg hne).symm
    exact ⟨ws, hstuck, hfed, hbehind, rfl, rfl⟩
  rename_i hfilling
  split
  · rename_i hq
    exact ⟨ws, h, ⟨hfilling, fun _ => by simpa using hq⟩, rfl, rfl, rfl⟩
  rw [if_neg hA.2]
  split
  · rename_i hB
    rw [if_pos hB] at horder
    obtain ⟨hstuck, hfed, hbehind⟩ := h.feedB (p := .start n ws.nextStaging)
      (v := { ws with nextStaging := ws.nextStaging + 1 }) rfl rfl horder (if_pos hB).symm
    exact ⟨_, hstuck, hfed, hbehind, rfl, rfl⟩
  · rename_i hB
    exact ⟨ws, h, ⟨hfilling, fun he => absurd he hB⟩, rfl, rfl, rfl⟩

/-- A stuck store has no target for a page (R111, R114). -/
theorem StoreController.Stuck.target_none (h : s.store.Stuck ws) (p : StagingPage) : s.target p ws = none := by
  have hcurrent : s.store.currentTarget ws = none := by
    unfold StoreController.currentTarget
    split
    · rename_i e he
      refine if_neg fun hok => ?_
      simp only [Bool.and_eq_true, Option.any_eq_true, decide_eq_true_eq] at hok
      obtain ⟨⟨⟨x, hx, howned⟩, -⟩, -⟩ := hok
      exact h.lost e x he hx howned
    · rfl
  simp only [State.target, hcurrent, State.allocate, h.noFree]

/-- The stall leaves the store stuck. -/
theorem StoreController.Stuck.stalled (h : s.store.Stuck ws) : (s.stall ws).store.Stuck { ws with stalled := true } :=
  ⟨rfl, h.noFree, h.lost, h.waits, h.notBusy, h.order⟩

/-- Page A finds no extent, and the take is STALLED (R114). -/
theorem StoreController.Stuck.submitA (h : s.store.Stuck ws) : s.submitA = s.stall ws := by
  have hready : s.store.pageA.ready s.store.pageB = true := by
    have horder := h.order
    obtain ⟨hp, hv⟩ := not_or.mp h.notBusy
    have hnone : ¬ (s.store.pageB.state = .waiting ∧ s.store.pageB.pageSeq < s.store.pageA.pageSeq) := by
      rintro ⟨hw, hlt⟩
      rw [if_neg (by simp [hw])] at horder
      omega
    simp only [StagingPage.ready, h.waits, decide_true, Bool.true_and, Bool.and_eq_true, decide_eq_true_eq,
      Bool.not_eq_true', Bool.and_eq_false_iff, decide_eq_false_iff_not]
    exact ⟨⟨hp, hv⟩, not_and_or.mp hnone⟩
  simp only [State.submitA, h.writeState, hready, h.target_none, if_true]

/-- Page B finds none either, where it may be submitted at all. -/
theorem StoreController.Stuck.submitB (h : s.store.Stuck ws) (hstalled : ws.stalled = true) : s.submitB = s := by
  have hstall : s.stall ws = s := by
    have hws : some { ws with stalled := true } = s.store.writeState := by rw [h.writeState, ← hstalled]
    show ({ s with store := { s.store with writeState := some { ws with stalled := true } } } : State) = s
    rw [hws]
  unfold State.submitB
  rw [h.writeState]
  dsimp only
  split
  · rw [h.target_none]
    exact hstall
  · rfl

/-- A round of a stuck CLOSING take: it is STALLED, and the words stand as they stood (R114). -/
theorem State.stagingRound_stuck (h : s.store.Stuck ws) (hlive : s.liveTake = some k) (hclosing : k.state = .closing) :
    ∃ v, s.stagingRound.store.Stuck v ∧ v.stalled = true ∧ s.stagingRound.store.FedB
      ∧ s.stagingRound.store.behind = s.store.behind ∧ s.stagingRound.store.pageA = s.store.pageA
      ∧ s.stagingRound.store.table = s.store.table := by
  obtain ⟨v, hstuck, hfed, hbehind, hA, htable⟩ := h.feed k.number
  have hd : ({ s with store := s.store.feed ws k.number true } : State).store.Stuck v := hstuck
  have hround : s.stagingRound = ({ s with store := s.store.feed ws k.number true } : State).stall v := by
    rw [State.stagingRound_closing hlive hclosing h.writeState, hd.submitA, hd.stalled.submitB rfl]
  rw [hround]
  exact ⟨_, hd.stalled, rfl, hfed, hbehind, hA, htable⟩

theorem State.twoRounds_stuck (h : s.store.Stuck ws) (hlive : s.liveTake = some k) (hclosing : k.state = .closing) :
    ∃ v, s.twoRounds.store.Stuck v ∧ v.stalled = true ∧ s.twoRounds.store.FedB
      ∧ s.twoRounds.store.behind = s.store.behind ∧ s.twoRounds.store.pageA = s.store.pageA
      ∧ s.twoRounds.store.table = s.store.table := by
  obtain ⟨v, hv, -, -, hbehind, hA, htable⟩ := State.stagingRound_stuck h hlive hclosing
  have hlive' : s.stagingRound.liveTake = some k := s.stagingRound_roundSide.side.liveTake.trans hlive
  obtain ⟨w, hw, hstalled, hfed, hbehind', hA', htable'⟩ := State.stagingRound_stuck hv hlive' hclosing
  exact ⟨w, hw, hstalled, hfed, hbehind'.trans hbehind, hA'.trans hA, htable'.trans htable⟩

end Stuck

end Sys2Proof.Machine
end

section
/-!
The drain of a CLOSING take (R90, R115, R116): what a discard and a completed drain leave, whatever the catalog write
that the drain asks for does.
-/

namespace Sys2Proof.Machine

/-! ## The records of a drain -/

/-- A drain moves a record's state, to CLOSED at most, and its loss count (R90, R116). -/
structure TakeRecord.Drains (x y : TakeRecord) : Prop where
  number : y.number = x.number
  endIndex : y.endIndex = x.endIndex
  pauses : y.pauses = x.pauses
  state : y.state = x.state ∨ y.state = .closed

/-- What a drain leaves of the takes. -/
structure DrainSide (s t : State) : Prop where
  armed : t.takes.armed = s.takes.armed
  records : ∃ f, t.takes.records = s.takes.records.map f ∧ ∀ x : TakeRecord, x.Drains (f x)

namespace DrainSide

variable {s t u : State}

theorem of_eq (ha : t.takes.armed = s.takes.armed) (hr : t.takes.records = s.takes.records) : DrainSide s t :=
  ⟨ha, id, by rw [hr, List.map_id], fun _ => ⟨rfl, rfl, rfl, .inl rfl⟩⟩

theorem trans (h : DrainSide s t) (k : DrainSide t u) : DrainSide s u := by
  obtain ⟨f, hf, hdrainsF⟩ := h.records
  obtain ⟨g, hg, hdrainsG⟩ := k.records
  refine ⟨k.armed.trans h.armed, g ∘ f, by rw [hg, hf, List.map_map], fun x => ?_⟩
  have hx := hdrainsF x
  have hfx := hdrainsG (f x)
  exact ⟨hfx.number.trans hx.number, hfx.endIndex.trans hx.endIndex, hfx.pauses.trans hx.pauses,
    hfx.state.elim (fun h => hx.state.imp h.trans h.trans) .inr⟩

end DrainSide

/-! ## The discard -/

section Discard

variable {s : State} {n : Nat} {ws : WriteState}

/-- What a drain finds of queue and pages: all of it, or what a STALLED take keeps (R116). -/
def State.discarded (s : State) (n : Nat) (ws : WriteState) : State :=
  if ws.stalled then s.drainDiscard n ws else s

theorem State.discarded_stalled (h : ws.stalled = true) : s.discarded n ws = s.drainDiscard n ws := if_pos h

theorem State.discarded_going (h : ws.stalled = false) : s.discarded n ws = s := if_neg (by simp [h])

/-- A discard has no part in links, requests, readout and coder, nor in the store's state, modules and table. -/
theorem State.discarded_frame (s : State) (n : Nat) (ws : WriteState) : ∃ records queue a b w,
    s.discarded n ws = { s with
      takes := { s.takes with records := records }
      store := { s.store with queue := queue, pageA := a, pageB := b, writeState := w } } := by
  unfold State.discarded
  split <;> exact ⟨_, _, _, _, _, rfl⟩

theorem State.discarded_drainSide (s : State) (n : Nat) (ws : WriteState) : DrainSide s (s.discarded n ws) := by
  unfold State.discarded
  split
  · exact ⟨rfl, fun x => if x.number = n then x.addLoss (packetsIn s.store.discards) else x, rfl,
      fun x => by beta_reduce; split <;> exact ⟨rfl, rfl, rfl, .inl rfl⟩⟩
  · exact .of_eq rfl rfl

theorem State.discarded_busyA (h : s.store.pageA.Busy) : (s.discarded n ws).store.pageA = s.store.pageA := by
  unfold State.discarded
  split
  · exact if_neg (by rcases h with h | h <;> simp [h])
  · rfl

/-- A discard leaves the live take live (R116). -/
theorem State.discarded_liveTake (s : State) (n : Nat) (ws : WriteState) :
    (s.discarded n ws).liveTake.map TakeRecord.number = s.liveTake.map TakeRecord.number := by
  unfold State.discarded
  split
  · rw [State.liveTake_map (s := s) (t := s.drainDiscard n ws)
      (f := fun x => if x.number = n then x.addLoss (packetsIn s.store.discards) else x) rfl rfl
      fun x => by split <;> rfl, Option.map_map]
    congr 1
    funext x
    simp only [Function.comp_apply]
    split <;> rfl
  · rfl

end Discard

/-! ## The cases of a drain -/

/-- Nothing is left to be written. -/
def StoreController.Drained (c : StoreController) : Prop :=
  c.queue = [] ∧ c.pageA.state = .empty ∧ c.pageB.state = .empty

section Drain

variable {s : State} {k : TakeRecord} {ws : WriteState}

/-- A CLOSING take's drain goes on while something is left, and then is complete (R90, R116). -/
theorem State.drain_closing (hlive : s.liveTake = some k) (hclosing : k.state = .closing)
    (hws : s.store.writeState = some ws) :
    (¬ (s.discarded k.number ws).store.Drained ∧ s.drain = s.discarded k.number ws)
      ∨ ((s.discarded k.number ws).store.Drained
        ∧ s.drain = (s.discarded k.number ws).drainComplete k.number) := by
  have hdrained : ((s.discarded k.number ws).store.queue.isEmpty
      && (s.discarded k.number ws).store.pageA.state = .empty
      && (s.discarded k.number ws).store.pageB.state = .empty) = true
      ↔ (s.discarded k.number ws).store.Drained := by
    simp [StoreController.Drained, and_assoc]
  have hdrain : s.drain = if ((s.discarded k.number ws).store.queue.isEmpty
      && (s.discarded k.number ws).store.pageA.state = .empty
      && (s.discarded k.number ws).store.pageB.state = .empty) = true
      then (s.discarded k.number ws).drainComplete k.number else s.discarded k.number ws := by
    simp only [State.drain, hlive, hws, hclosing, if_true]
    rfl
  rw [hdrain]
  by_cases h : (s.discarded k.number ws).store.Drained
  · exact .inr ⟨h, if_pos (hdrained.mpr h)⟩
  · exact .inl ⟨h, if_neg (mt hdrained.mp h)⟩

theorem State.drain_idle (hws : s.store.writeState = none) : s.drain = s := by
  unfold State.drain
  rw [hws]
  split
  · cases ‹none = some _›
  · rfl

/-- What the store's moving on makes of a CLOSING take: the rounds, then its drain as it goes on or is complete. -/
theorem State.pump_closing (hlive : s.liveTake = some k) (hclosing : k.state = .closing) :
    (s.twoRounds.store.writeState = none ∧ s.pump = s.twoRounds)
      ∨ ∃ ws, s.twoRounds.store.writeState = some ws
        ∧ ((¬ (s.twoRounds.discarded k.number ws).store.Drained ∧ s.pump = s.twoRounds.discarded k.number ws)
          ∨ ((s.twoRounds.discarded k.number ws).store.Drained
            ∧ s.pump = (s.twoRounds.discarded k.number ws).drainComplete k.number)) := by
  have hlive' : s.twoRounds.liveTake = some k := s.twoRounds_roundSide.side.liveTake.trans hlive
  cases hws : s.twoRounds.store.writeState with
  | none => exact .inl ⟨rfl, State.drain_idle hws⟩
  | some ws => exact .inr ⟨ws, rfl, State.drain_closing hlive' hclosing hws⟩

end Drain

/-! ## A completed drain -/

/-- Whom the closing catalog write tells (R90, R91). -/
def RequestQueue.closingWaiter (q : RequestQueue) : Waiter :=
  match q.storeOp with
  | some ⟨.close, _⟩ => .storeOperation
  | _ => .exhaustionClose

theorem RequestQueue.closingWaiter_cases (q : RequestQueue) :
    (q.closingWaiter = .storeOperation ∧ ∃ a, q.storeOp = some ⟨.close, a⟩)
      ∨ (q.closingWaiter = .exhaustionClose ∧ ∀ op, q.storeOp = some op → op.kind ≠ .close) := by
  unfold RequestQueue.closingWaiter
  split
  · rename_i a hop
    exact .inl ⟨rfl, a, hop⟩
  · rename_i hother
    refine .inr ⟨rfl, fun op hop hkind => hother op.arrival ?_⟩
    rw [hop, ← hkind]

/-- A take that has become CLOSED, before the readout and the catalog hear of it (R90). -/
def State.closed (d : State) (n : Nat) : State :=
  { d with
    takes := { d.takes with
      records := d.takes.records.map fun x => if x.number = n then { x with state := .closed } else x }
    store := { d.store with writeState := none }
    coder := { d.coder with nextIndex := none } }

theorem State.drainComplete_eq (d : State) (n : Nat) : d.drainComplete n
    = ((d.closed n).readoutClosedNotice n).askCatalog
        ((d.closed n).readoutClosedNotice n).requests.closingWaiter := rfl

section Complete

variable {s d x : State} {n : Nat}

theorem State.askCatalog_closing (x : State) : AskedSide x (x.askCatalog x.requests.closingWaiter).settlePort := by
  rcases x.requests.closingWaiter_cases with ⟨hw, a, hop⟩ | ⟨hw, -⟩
  · rw [hw]
    refine State.askCatalog_askedSide fun op hop' => ?_
    rw [hop] at hop'
    cases hop'
    exact .inr (.inr rfl)
  · rw [hw]
    exact x.askCatalog_unanswered.askedSide

/-- What the end of a drain leaves of the CLOSED take's state, whatever the readout and the catalog make of it. -/
def AfterDrain (x t : State) : Prop :=
  ∃ link readout requests write asked seq next inFlight waiting, t = { x with
    link := link, readout := readout, requests := requests
    takes := { x.takes with write := write, waiting := asked, catSeq := seq, catNext := next }
    store := { x.store with inFlight := inFlight, waiting := waiting } }

theorem State.drainComplete_after (d : State) (n : Nat) : AfterDrain (d.closed n) (d.drainComplete n).settlePort := by
  have hnotice := (d.closed n).readoutClosedNotice_engineSide n
  have hasked := ((d.closed n).readoutClosedNotice n).askCatalog_closing
  rw [State.drainComplete_eq]
  obtain ⟨_, _, _, _, _, _, _, _, ht⟩ := hasked
  rw [ht]
  obtain ⟨_, _, _, _, _, _, hx⟩ := hnotice
  rw [hx]
  exact ⟨_, _, _, _, _, _, _, _, _, rfl⟩

theorem State.drainComplete_drainSide (d : State) (n : Nat) : DrainSide d (d.drainComplete n).settlePort := by
  obtain ⟨_, _, _, _, _, _, _, _, _, ht⟩ := d.drainComplete_after n
  rw [ht]
  exact ⟨rfl, _, rfl, fun x => by split <;> exact ⟨rfl, rfl, rfl, by simp⟩⟩

theorem PortSide.drainSide {t : State} (h : PortSide x t) : DrainSide x t := by
  rw [h.eq]
  exact .of_eq rfl rfl

theorem RoundSide.drainSide {t : State} (h : RoundSide x t) : DrainSide x t := by
  obtain ⟨_, _, _, _, _, _, _, rfl⟩ := h.side
  exact .of_eq rfl rfl

/-- What the store's moving on leaves of the records of a CLOSING take. -/
theorem State.pump_drainSide {k : TakeRecord} (hlive : s.liveTake = some k) (hclosing : k.state = .closing) :
    DrainSide s s.pump.settlePort := by
  have hrounds := s.twoRounds_roundSide.drainSide
  rcases State.pump_closing hlive hclosing with ⟨-, hpump⟩ | ⟨ws, -, ⟨-, hpump⟩ | ⟨-, hpump⟩⟩
  · rw [hpump]
    exact hrounds.trans (State.settlePort_portSide _).drainSide
  · rw [hpump]
    exact (hrounds.trans (State.discarded_drainSide _ _ _)).trans (State.settlePort_portSide _).drainSide
  · rw [hpump]
    exact (hrounds.trans (State.discarded_drainSide _ _ _)).trans (State.drainComplete_drainSide _ _)

/-- A page A that is being written keeps the drain from its end (R90). -/
theorem State.pump_busyA {k : TakeRecord} (hlive : s.liveTake = some k) (hclosing : k.state = .closing)
    (hbusy : s.store.pageA.Busy) : s.pump.settlePort.liveTake.map TakeRecord.number = some k.number := by
  have hA := s.twoRounds_roundSide.busyA hbusy
  have hlive' : s.twoRounds.liveTake.map TakeRecord.number = some k.number := by
    rw [s.twoRounds_roundSide.side.liveTake, hlive]
    rfl
  have hsettled : ∀ x : State, x.settlePort.liveTake = x.liveTake := fun x => by
    rw [x.settlePort_portSide.eq]
    rfl
  rcases State.pump_closing hlive hclosing with ⟨-, hpump⟩ | ⟨ws, -, ⟨-, hpump⟩ | ⟨hdrained, -⟩⟩
  · rw [hpump, hsettled, hlive']
  · rw [hpump, hsettled, State.discarded_liveTake, hlive']
  · have hbusy' : s.twoRounds.store.pageA.Busy := by rw [hA]; exact hbusy
    obtain ⟨-, hempty, -⟩ := hdrained
    rw [State.discarded_busyA hbusy'] at hempty
    rcases hbusy' with h | h <;> simp [hempty] at h

/-! ## Who hears of the close -/

/-- The store operation of a kind ends with STORE_FAULT on the way from the boundary of `s` to `t` (R98). -/
def State.FaultAnswered (s : State) (kind : StoreOpKind) (t : State) : Prop :=
  ∀ (op : StoreOp) (e : Entry), s.requests.storeOp = some op → op.kind = kind → s.requests.Lawful →
    e ∈ s.requests.entries → e.arrival = op.arrival →
    Answered s.mixBoundary.link { s.requests with storeOp := none } e .storeFault [] t

/-- The closing catalog write asked for on the way from the boundary of `s` to `t` (R90, R91, R97, R98). -/
def State.ClosingAsked (s t : State) : Prop :=
  (s.CatalogReady → CatalogWriteBegun s t s.requests.closingWaiter)
    ∧ (s.takes.write ≠ none → CatalogWriteJoined s t s.requests.closingWaiter)
    ∧ (s.CatalogStopped → CatalogWriteFailed s t ∧ (s.readout.state ≠ .following →
      s.FaultAnswered .close t
        ∧ (s.requests.closingWaiter = .exhaustionClose →
          t.link = s.mixBoundary.link ∧ t.requests = s.requests)))

/-- In `x` links and requests are as the mix part of the boundary left them. -/
structure AsMixed (s x : State) : Prop where
  link : x.link = s.mixBoundary.link
  requests : x.requests = s.requests

theorem AsMixed.faultAnswered {kind : StoreOpKind} (h : AsMixed s x) :
    s.FaultAnswered kind (x.completeStoreOp .storeFault []).settlePort := by
  intro op e hop _ hlawful he harrival
  rw [← h.requests] at hop hlawful he
  rw [← h.link, ← h.requests]
  exact (State.completeStoreOp_answered hop hlawful he harrival .storeFault []).portSide
    (State.settlePort_portSide _)

theorem EngineSide.catalogAs (h : EngineSide s x) : CatalogAs s x := by
  obtain ⟨_, _, _, _, _, _, rfl⟩ := h
  exact ⟨rfl, rfl, rfl, rfl, rfl, rfl⟩

theorem EngineSide.closingWaiter (h : EngineSide s x) : x.requests.closingWaiter = s.requests.closingWaiter := by
  obtain ⟨_, _, _, _, _, _, rfl⟩ := h
  rfl

/-- A completed drain asks for the closing catalog write (R90). -/
theorem State.drainComplete_asks (hcatalog : CatalogAs s d) (hmixed : AsMixed s d) (hreadout : d.readout = s.readout) :
    s.ClosingAsked (d.drainComplete n).settlePort := by
  have hnotice := (d.closed n).readoutClosedNotice_engineSide n
  have hunheeded : s.readout.state ≠ .following → (d.closed n).readoutClosedNotice n = d.closed n := fun h =>
    State.readoutClosedNotice_unheeded (by rw [← hreadout] at h; exact h) n
  have hclosed : CatalogAs s (d.closed n) := hcatalog.trans ⟨rfl, rfl, rfl, rfl, rfl, rfl⟩
  have hmixed' : AsMixed s (d.closed n) := ⟨hmixed.link, hmixed.requests⟩
  have hwaiter : ((d.closed n).readoutClosedNotice n).requests.closingWaiter = s.requests.closingWaiter :=
    hnotice.closingWaiter.trans (congrArg RequestQueue.closingWaiter hmixed'.requests)
  have hx := hclosed.trans hnotice.catalogAs
  have hcases := ((d.closed n).readoutClosedNotice n).requests.closingWaiter_cases
  rw [State.drainComplete_eq, hwaiter]
  rw [hwaiter] at hcases
  generalize (d.closed n).readoutClosedNotice n = y at hunheeded hx hcases ⊢
  refine ⟨fun h => hx.begun (State.askCatalog_begun (hx.ready.mpr h)).2,
    fun h => hx.joined (State.askCatalog_joined (by rwa [hx.write])).2, fun h => ?_⟩
  have hstopped := hx.stopped.mpr h
  have hwrite : y.takes.write = none := hstopped.1
  rcases hcases with ⟨hw, a, hop⟩ | ⟨hw, hother⟩
  · rw [hw, State.askCatalog_storeFault hstopped fun op hop' => by
      rw [hop] at hop'
      cases hop'
      exact .inr (.inr rfl)]
    refine ⟨hx.failed (State.completeStoreOp_catalogFailed hwrite _ _), fun hfollowing => ⟨?_, nofun⟩⟩
    rw [hunheeded hfollowing]
    exact hmixed'.faultAnswered
  · have hasks : y.askCatalog .exhaustionClose = y := State.askCatalog_stopped _ _ hstopped
    have hport := y.settlePort_portSide.eq
    rw [hw, hasks]
    refine ⟨hx.failed ?_, fun hfollowing => ?_⟩
    · rw [hport]
      exact ⟨hwrite, rfl, rfl, rfl, rfl⟩
    · rw [hunheeded hfollowing] at hother hport ⊢
      refine ⟨fun op e hop hkind => absurd hkind (hother op ?_), fun _ => ?_⟩
      · rwa [hmixed'.requests]
      · rw [hport]
        exact ⟨hmixed'.link, hmixed'.requests⟩

/-- A close that no request waits for leaves the slot free, and answers nobody unless a readout follows the take. -/
theorem State.drainComplete_unasked (hop : d.requests.storeOp = none) :
    (d.drainComplete n).settlePort.requests.storeOp = none
      ∧ (d.readout.state ≠ .following →
        (d.drainComplete n).settlePort.link = d.link ∧ (d.drainComplete n).settlePort.requests = d.requests) := by
  have hnotice := (d.closed n).readoutClosedNotice_engineSide n
  have hunheeded : d.readout.state ≠ .following → (d.closed n).readoutClosedNotice n = d.closed n := fun h =>
    State.readoutClosedNotice_unheeded (s := d.closed n) h n
  have hw : d.requests.closingWaiter = .exhaustionClose := by
    simp only [RequestQueue.closingWaiter, hop]
  have hwaiter : ((d.closed n).readoutClosedNotice n).requests.closingWaiter = .exhaustionClose :=
    hnotice.closingWaiter.trans hw
  rw [State.drainComplete_eq, hwaiter]
  have hslot : ((d.closed n).readoutClosedNotice n).requests.storeOp = none := by
    obtain ⟨_, _, _, _, _, _, hx⟩ := hnotice
    rw [hx]
    exact hop
  generalize (d.closed n).readoutClosedNotice n = y at hunheeded hslot ⊢
  obtain ⟨_, _, _, _, _, _, ht⟩ := y.askCatalog_unanswered
  rw [ht]
  refine ⟨hslot, fun hfollowing => ?_⟩
  rw [hunheeded hfollowing]
  exact ⟨rfl, rfl⟩

theorem State.pump_unasked {k : TakeRecord} (hlive : s.liveTake = some k) (hclosing : k.state = .closing)
    (hop : s.requests.storeOp = none) : s.pump.settlePort.requests.storeOp = none
      ∧ (s.readout.state ≠ .following →
        s.pump.settlePort.link = s.link ∧ s.pump.settlePort.requests = s.requests) := by
  obtain ⟨_, _, _, _, _, _, _, hrounds⟩ := s.twoRounds_roundSide.side
  rcases State.pump_closing hlive hclosing with ⟨-, hpump⟩ | ⟨ws, -, ⟨-, hpump⟩ | ⟨-, hpump⟩⟩
  · rw [hpump, (State.settlePort_portSide _).eq, hrounds]
    exact ⟨hop, fun _ => ⟨rfl, rfl⟩⟩
  · obtain ⟨_, _, _, _, _, hdiscarded⟩ := s.twoRounds.discarded_frame k.number ws
    rw [hpump, (State.settlePort_portSide _).eq, hdiscarded, hrounds]
    exact ⟨hop, fun _ => ⟨rfl, rfl⟩⟩
  · obtain ⟨_, _, _, _, _, hdiscarded⟩ := s.twoRounds.discarded_frame k.number ws
    have hd : ∃ takes store, s.twoRounds.discarded k.number ws = { s with takes := takes, store := store } := by
      rw [hdiscarded, hrounds]
      exact ⟨_, _, rfl⟩
    obtain ⟨_, _, hd⟩ := hd
    rw [hpump, hd]
    exact State.drainComplete_unasked hop

end Complete

end Sys2Proof.Machine
end

section
/-!
The transitions at an archive boundary (R59, R86, R87, R89 to R91): the boundary's coding and the index, then an armed
pause or resume, or the close of the take.
-/

namespace Sys2Proof.Machine

/-! ## The boundary, block by block -/

/-- The port is settled whatever the blocks and the route-change marks say. -/
theorem State.clearBlocks_settlePort (x : State) : x.clearBlocks.settlePort = x.settlePort.clearBlocks := by
  have heraser : x.clearBlocks.eraser = x.eraser.clearBlocks := by
    unfold State.eraser
    simp only [State.clearBlocks_store]
    split <;> rfl
  have hgrant : ∀ y : State, y.clearBlocks.grant = y.grant.clearBlocks := fun y => by
    unfold State.grant
    simp only [State.clearBlocks_store]
    split <;> rfl
  calc x.clearBlocks.settlePort = x.eraser.clearBlocks.grant := congrArg State.grant heraser
    _ = x.settlePort.clearBlocks := hgrant _

theorem State.archiveBoundary_eq (s : State) :
    s.archiveBoundary = s.mixBoundary.takeWork.settlePort.clearBlocks := State.clearBlocks_settlePort _

section EndBlock

variable {u : State} {k : TakeRecord} {i : Nat}

/-- Below the greatest index the armed transition takes hold (R59, R86, R87, R89). -/
theorem State.endBlock_armed (hi : i < 4294967295) :
    u.endBlock k i = ((u.codeEnded k i).disarm.raiseIndex i).takeHold k i u.takes.armed :=
  if_neg (Nat.not_le_of_lt hi)

/-- The greatest index closes the take (R91). -/
theorem State.endBlock_greatest (hi : 4294967295 ≤ i) :
    u.endBlock k i = (u.codeEnded k i).disarm.exhaust k.number i u.takes.armed := if_pos hi

end EndBlock

/-! ## What the coding leaves -/

/-- From the state `u`, the take `k` has had `p` packets taken and `l` lost; `x` is the state now (R75, R76, R92). -/
structure Offers (u : State) (k : TakeRecord) (p l : Nat) (x : State) : Prop where
  side : OfferSide u x
  takes : x.takes = u.takes.counted k.number p l
  busyA : u.store.pageA.Busy → x.store.pageA = u.store.pageA

namespace Offers

variable {u x : State} {k : TakeRecord} {p l : Nat}

theorem start (u : State) (k : TakeRecord) : Offers u k 0 0 u :=
  ⟨⟨_, _, .refl _⟩, (TakeController.counted_zero ..).symm, fun _ => rfl⟩

theorem stored (h : Offers u k p l x) : x.store.state = u.store.state := by
  obtain ⟨_, _, _, _, _, _, _, _, _, rfl⟩ := h.side
  rfl

theorem modules (h : Offers u k p l x) : x.store.modules = u.store.modules := by
  obtain ⟨_, _, _, _, _, _, _, _, _, rfl⟩ := h.side
  rfl

theorem link (h : Offers u k p l x) : x.link = u.link := by
  obtain ⟨_, _, _, _, _, _, _, _, _, rfl⟩ := h.side
  rfl

theorem requests (h : Offers u k p l x) : x.requests = u.requests := by
  obtain ⟨_, _, _, _, _, _, _, _, _, rfl⟩ := h.side
  rfl

theorem readout (h : Offers u k p l x) : x.readout = u.readout := by
  obtain ⟨_, _, _, _, _, _, _, _, _, rfl⟩ := h.side
  rfl

/-- A packet taken: it joins the queue, and words move on into the pages (R75, R110). -/
theorem take (h : Offers u k p l x) (hlive : u.liveTake = some k) (hopen : k.state = .opened) (n : Nat)
    (ws : List Word) : Offers u k (p + 1) l (x.appendPacket k.number n ws).pump := by
  have htakes : (x.appendPacket k.number n ws).takes = u.takes.counted k.number (p + 1) l := by
    show ({ x.takes with records := x.takes.records.map _ } : TakeController) = _
    rw [h.takes]
    exact TakeController.counted_map _ _ fun r => r.counted_packet _ _
  obtain ⟨k', hlive', hopen'⟩ : ∃ k', (x.appendPacket k.number n ws).liveTake = some k' ∧ k'.state = .opened := by
    rw [State.liveTake_map (s := u) (t := x.appendPacket k.number n ws) h.stored
      (congrArg TakeController.records htakes) fun r => by split <;> rfl, hlive]
    exact ⟨_, congrArg some (if_pos rfl), hopen⟩
  have hrounds := State.pump_roundSide hlive' hopen'
  have hkept := hrounds.side
  refine ⟨(h.side.trans (x.appendPacket_side k.number n ws)).trans ⟨_, _, hkept⟩, ?_, fun hb => ?_⟩
  · rw [← htakes]
    obtain ⟨_, _, _, _, _, _, _, heq⟩ := hkept
    rw [heq]
  · have hA : (x.appendPacket k.number n ws).store.pageA = u.store.pageA := h.busyA hb
    rw [hrounds.busyA (by rw [hA]; exact hb), hA]

/-- A packet lost (R76, R92). -/
theorem lose (h : Offers u k p l x) (n : Nat) : Offers u k p (l + 1)
    (({ x with coder := x.coder.setLoss n true } : State).mapTake k.number fun r => r.addLoss 1) := by
  refine ⟨h.side.trans ⟨_, _, .refl _⟩, ?_, h.busyA⟩
  show ({ x.takes with records := x.takes.records.map _ } : TakeController) = _
  rw [h.takes]
  exact TakeController.counted_map _ _ fun r => r.counted_loss _ _

/-- Each track of the set has a packet, taken or lost (R60, R75, R92). -/
theorem codeTracks (hlive : u.liveTake = some k) (hopen : k.state = .opened) (i : Nat) (ns : List Nat) :
    ∀ {x p l}, Offers u k p l x → ∃ p' l', p' + l' = p + l + ns.length
      ∧ Offers u k p' l' (x.codeTracks k.number i ns) := by
  induction ns with
  | nil => exact fun {x p l} h => ⟨p, l, rfl, h⟩
  | cons n ns ih =>
    intro x p l h
    rw [State.codeTracks]
    by_cases hroom : x.store.roomFor (x.packetOf n i) = true
    · have hoffer : x.offerPacket k.number n (x.packetOf n i)
          = (x.appendPacket k.number n (x.packetOf n i)).pump := if_pos hroom
      obtain ⟨p', l', hsum, hnext⟩ := ih (h.take hlive hopen n (x.packetOf n i))
      rw [hoffer]
      exact ⟨p', l', by rw [hsum, List.length_cons]; omega, hnext⟩
    · have hoffer : x.offerPacket k.number n (x.packetOf n i)
          = (({ x with coder := x.coder.setLoss n true } : State).mapTake k.number fun r => r.addLoss 1) :=
        if_neg hroom
      obtain ⟨p', l', hsum, hnext⟩ := ih (h.lose n)
      rw [hoffer]
      exact ⟨p', l', by rw [hsum, List.length_cons]; omega, hnext⟩

end Offers

/-- The coding of a block that ended OPEN: a packet for each track of the set (R60). -/
theorem State.codeEnded_opened {u : State} {k : TakeRecord} (hlive : u.liveTake = some k) (hopen : k.state = .opened)
    (i : Nat) : ∃ p l, p + l = k.trackSet.length ∧ Offers u k p l (u.codeEnded k i) := by
  have hcoded : u.codeEnded k i = u.codeTracks k.number i k.trackSet := if_pos hopen
  obtain ⟨p, l, hsum, h⟩ := (Offers.start u k).codeTracks hlive hopen i k.trackSet
  rw [hcoded]
  exact ⟨p, l, by simpa using hsum, h⟩

/-- A block that ended PAUSED is not coded (R58, R60). -/
theorem State.codeEnded_paused {u : State} {k : TakeRecord} (hpaused : k.state = .paused) (i : Nat) :
    u.codeEnded k i = u := if_neg (by simp [hpaused])

/-! ## A pause or a resume takes hold -/

theorem CatalogAs.of_records {s x : State} {records : List TakeRecord} {armed : Option Transition}
    (htakes : x.takes = { s.takes with records := records, armed := armed })
    (hmodules : x.store.modules = s.store.modules) : CatalogAs s x := by
  refine ⟨?_, ?_, ?_, ?_, ?_, hmodules⟩ <;> rw [htakes]

/-- `y` is a state in which a transition at the boundary of `s` asks for its catalog write: the next index is
`i + 1`, and no transition is armed any more. -/
structure TakesHold (s : State) (i : Nat) (y : State) : Prop where
  catalog : CatalogAs s y
  mixed : AsMixed s y
  armed : y.takes.armed = none
  next : y.coder.nextIndex = some (i + 1)

/-- Once a pause or a resume has taken hold, from `y` to `t` (R86, R87). -/
def HeldAs (i : Nat) (y t : State) : Prop :=
  t.coder.nextIndex = some (i + 1) ∧ t.takes.armed = none ∧ t.takes.records = y.takes.records

namespace TakesHold

variable {s u x y t : State} {k : TakeRecord} {i p l : Nat}

theorem of_offers (h : Offers s.mixBoundary k p l x) (n : Nat) (f : TakeRecord → TakeRecord) :
    TakesHold s i ((x.disarm.raiseIndex i).mapTake n f) where
  catalog :=
    have hx : CatalogAs s x := .of_records (armed := s.takes.armed) h.takes h.modules
    hx.trans ⟨rfl, rfl, rfl, rfl, rfl, rfl⟩
  mixed := ⟨h.link, h.requests⟩
  armed := rfl
  next := rfl

theorem heldAs (h : TakesHold s i y) (hside : AskedSide y t) : HeldAs i y t := by
  obtain ⟨_, _, _, _, _, _, _, _, rfl⟩ := hside
  exact ⟨h.next, h.armed, rfl⟩

theorem requests (h : TakesHold s i y) (hside : CatalogSide y t) : t.requests = s.requests := by
  obtain ⟨_, _, _, _, _, _, rfl⟩ := hside
  exact h.mixed.requests

/-- The catalog write of a pause or a resume starts (R97). -/
theorem begun (h : TakesHold s i y) (hready : s.CatalogReady) :
    let t := (y.askCatalog .storeOperation).settlePort
    HeldAs i y t ∧ t.requests = s.requests ∧ CatalogWriteBegun s t .storeOperation := by
  obtain ⟨hside, hbegun⟩ := State.askCatalog_begun (w := .storeOperation) (h.catalog.ready.mpr hready)
  exact ⟨h.heldAs hside.askedSide, h.requests hside, h.catalog.begun hbegun⟩

/-- It waits behind the one in flight (R97). -/
theorem joined (h : TakesHold s i y) (hbusy : s.takes.write ≠ none) :
    let t := (y.askCatalog .storeOperation).settlePort
    HeldAs i y t ∧ t.requests = s.requests ∧ CatalogWriteJoined s t .storeOperation := by
  obtain ⟨hside, hjoined⟩ :=
    State.askCatalog_joined (x := y) (w := .storeOperation) (by rwa [h.catalog.write])
  exact ⟨h.heldAs hside.askedSide, h.requests hside, h.catalog.joined hjoined⟩

/-- It fails at once, and its request ends with STORE_FAULT (R98). -/
theorem failed {kind : StoreOpKind} (h : TakesHold s i y) (hkind : kind = .pause ∨ kind = .resume)
    (hstopped : s.CatalogStopped) (hop : ∀ op, s.requests.storeOp = some op → op.kind = kind) :
    let t := (y.askCatalog .storeOperation).settlePort
    HeldAs i y t ∧ CatalogWriteFailed s t ∧ s.FaultAnswered kind t := by
  have hstopped' := h.catalog.stopped.mpr hstopped
  have hask : y.askCatalog .storeOperation = y.completeStoreOp .storeFault [] :=
    State.askCatalog_storeFault hstopped' fun op hop' => by
      rw [h.mixed.requests] at hop'
      rw [hop op hop']
      exact hkind.imp_right .inl
  intro t
  have ht : t = (y.completeStoreOp .storeFault []).settlePort := congrArg State.settlePort hask
  rw [ht]
  exact ⟨h.heldAs (y.completeStoreOp_settled _ _),
    h.catalog.failed (State.completeStoreOp_catalogFailed hstopped'.1 _ _), h.mixed.faultAnswered⟩

end TakesHold

end Sys2Proof.Machine
end

section
/-!
The close of a take at an archive boundary (R89 to R91, R115, R116): what it leaves of records, staging and store, by
the shape the store is in, and whom it tells.
-/

namespace Sys2Proof.Machine

/-! ## The record that closes -/

/-- A record as the close at index `i` leaves it (R89, R91). -/
def TakeRecord.closing (i : Nat) (x : TakeRecord) : TakeRecord :=
  { x with state := .closing, endIndex := some i, pauses := endInterval i x.pauses }

/-- The close of take `n` at index `i`, before the store moves on. -/
def State.markClosing (b : State) (n i : Nat) : State := b.mapTake n (TakeRecord.closing i)

theorem State.closeTake_eq (b : State) (n i : Nat) : b.closeTake n i = (b.markClosing n i).pump := rfl

/-- Two changes of one take's records, the first of which keeps the number. -/
theorem map_records_map {n : Nat} {f : TakeRecord → TakeRecord} (hf : ∀ x : TakeRecord, (f x).number = x.number)
    (g : TakeRecord → TakeRecord) (rs : List TakeRecord) :
    (rs.map fun x => if x.number = n then f x else x).map (fun x => if x.number = n then g x else x)
      = rs.map fun x => if x.number = n then g (f x) else x := by
  rw [List.map_map]
  congr 1
  funext x
  by_cases hx : x.number = n <;> simp [hx, hf]

/-- An interval that takes its end has one (R87, R89). -/
theorem endInterval_ends {i : Nat} {ps : List Interval} : ∀ q ∈ endInterval i ps, q.stop ≠ none := by
  intro q hq
  obtain ⟨p, -, rfl⟩ := List.mem_map.mp hq
  split
  · simp
  · simpa using ‹¬ p.stop.isNone = true›

theorem endInterval_eq (i : Nat) (ps : List Interval) :
    endInterval i ps = ps.map fun q => if q.stop = none then { q with stop := some i } else q := by
  simp [endInterval]

/-- Where `p` first holds of an element that meets `q`, so does "`p` or `q`" first hold of one. -/
theorem find?_or_of_find? {α : Type} {p q : α → Bool} {a : α} (ha : q a = true) :
    ∀ {l : List α}, l.find? p = some a → ∃ x, l.find? (fun y => q y || p y) = some x ∧ q x = true
  | y :: l, h => by
    rw [List.find?_cons] at h ⊢
    cases hq : q y with
    | true => exact ⟨y, rfl, hq⟩
    | false =>
      cases hp : p y with
      | true =>
        simp only [hp, Option.some.injEq] at h
        rw [h, ha] at hq
        cases hq
      | false =>
        simp only [hp] at h
        exact find?_or_of_find? ha h

/-! ## The state in which the close takes hold -/

/-- `b` is the state in which a close at the boundary of `s` takes hold of the take `k`: the block is coded, no
transition is armed, and unless a pause or a resume was, nobody has been answered. -/
structure BeforeClose (s : State) (k : TakeRecord) (b : State) : Prop where
  takes : ∃ p l, (k.state = .paused → p = 0 ∧ l = 0)
    ∧ b.takes = { s.takes.counted k.number p l with armed := none }
  paused : k.state = .paused → b.store = s.store
  busyA : s.store.pageA.Busy → b.store.pageA = s.store.pageA
  stored : b.store.state = s.store.state
  modules : b.store.modules = s.store.modules
  readout : b.readout = s.readout
  mixed : s.takes.armed = none ∨ s.takes.armed = some .close → AsMixed s b

/-- The coding of the ended block, which a PAUSED take has none of (R58, R60). -/
theorem State.codeEnded_offers {s : State} {k : TakeRecord} (hlive : s.liveTake = some k)
    (hstate : k.state = .opened ∨ k.state = .paused) (i : Nat) : ∃ p l, (k.state = .paused → p = 0 ∧ l = 0)
      ∧ (k.state = .paused → (s.mixBoundary.codeEnded k i).store = s.store)
      ∧ Offers s.mixBoundary k p l (s.mixBoundary.codeEnded k i) := by
  rcases hstate with hopen | hpaused
  · obtain ⟨p, l, -, h⟩ := State.codeEnded_opened (u := s.mixBoundary) hlive hopen i
    exact ⟨p, l, by simp [hopen], by simp [hopen], h⟩
  · rw [State.codeEnded_paused hpaused]
    exact ⟨0, 0, fun _ => ⟨rfl, rfl⟩, fun _ => rfl, .start _ k⟩

namespace BeforeClose

variable {s b d : State} {k : TakeRecord} {i : Nat} {ws : WriteState}

/-- The coding of the ended block leads to such a state (R60). -/
theorem of_coded (hlive : s.liveTake = some k) (hstate : k.state = .opened ∨ k.state = .paused) (i : Nat) :
    BeforeClose s k (s.mixBoundary.codeEnded k i).disarm := by
  obtain ⟨p, l, hpaused, hsame, h⟩ := State.codeEnded_offers hlive hstate i
  exact ⟨⟨p, l, hpaused, congrArg (fun c : TakeController => { c with armed := none }) h.takes⟩, hsame, h.busyA,
    h.stored, h.modules, h.readout, fun _ => ⟨h.link, h.requests⟩⟩

theorem raised (h : BeforeClose s k b) (i : Nat) : BeforeClose s k (b.raiseIndex i) :=
  ⟨h.takes, h.paused, h.busyA, h.stored, h.modules, h.readout, fun harmed => ⟨(h.mixed harmed).link,
    (h.mixed harmed).requests⟩⟩

/-- A pause or a resume that is answered before the close (R91). -/
theorem answered (h : BeforeClose s k b) (harmed : s.takes.armed = some .pause ∨ s.takes.armed = some .resume)
    (st : Status) : BeforeClose s k (b.completeStoreOp st []) := by
  rw [State.completeStoreOp_eq]
  exact ⟨h.takes, h.paused, h.busyA, h.stored, h.modules, h.readout,
    fun hnone => by rcases harmed with ha | ha <;> simp [ha] at hnone⟩

theorem catalogAs (h : BeforeClose s k b) : CatalogAs s b := by
  obtain ⟨p, l, -, htakes⟩ := h.takes
  exact .of_records htakes h.modules

/-- The records once the close has taken hold. -/
theorem records (h : BeforeClose s k b) (i : Nat) : ∃ p l, (k.state = .paused → p = 0 ∧ l = 0)
    ∧ (b.markClosing k.number i).takes.records
      = s.takes.records.map fun x => if x.number = k.number then (x.counted p l).closing i else x := by
  obtain ⟨p, l, hpaused, htakes⟩ := h.takes
  refine ⟨p, l, hpaused, ?_⟩
  show b.takes.records.map _ = _
  rw [htakes]
  exact map_records_map (f := TakeRecord.counted p l) (fun _ => rfl) _ _

theorem armed (h : BeforeClose s k b) (i : Nat) : (b.markClosing k.number i).takes.armed = none := by
  obtain ⟨p, l, -, htakes⟩ := h.takes
  exact congrArg TakeController.armed htakes

/-- The take that closes is the live one (R83). -/
theorem live (h : BeforeClose s k b) (hlive : s.liveTake = some k) (i : Nat) :
    ∃ k', (b.markClosing k.number i).liveTake = some k' ∧ k'.number = k.number ∧ k'.state = .closing := by
  obtain ⟨p, l, -, hrecords⟩ := h.records i
  have hstored : (b.markClosing k.number i).store.state = s.store.state := h.stored
  have hfirst : s.takes.records.find? (fun x => x.state.live) = some k
      ∧ (b.markClosing k.number i).liveTake
        = (b.markClosing k.number i).takes.records.find? fun x => x.state.live := by
    unfold State.liveTake at hlive ⊢
    rw [hstored]
    split at hlive
    · cases hlive
    · cases hlive
    all_goals exact ⟨hlive, rfl⟩
  obtain ⟨x, hx, hnumber⟩ := find?_or_of_find? (q := fun x : TakeRecord => decide (x.number = k.number))
    (decide_eq_true rfl) hfirst.1
  have hlives : ((fun x : TakeRecord => x.state.live)
      ∘ fun x => if x.number = k.number then (x.counted p l).closing i else x)
        = fun x => decide (x.number = k.number) || x.state.live := by
    funext y
    by_cases hy : y.number = k.number
    · simp only [Function.comp_apply, hy, decide_true, Bool.true_or]
      rfl
    · simp [hy]
  have hnumber' : x.number = k.number := of_decide_eq_true hnumber
  rw [hfirst.2, hrecords, List.find?_map, hlives, hx]
  exact ⟨_, congrArg some (if_pos hnumber'), hnumber', rfl⟩

/-! ## What every close leaves -/

/-- What the store's moving on leaves of the records that close. -/
theorem drainSide (h : BeforeClose s k b) (hlive : s.liveTake = some k) (i : Nat) :
    DrainSide (b.markClosing k.number i) (b.closeTake k.number i).settlePort := by
  obtain ⟨k', hlive', -, hclosing⟩ := h.live hlive i
  exact State.pump_drainSide hlive' hclosing

theorem disarmed (h : BeforeClose s k b) (hlive : s.liveTake = some k) (i : Nat) :
    (b.closeTake k.number i).settlePort.takes.armed = none := (h.drainSide hlive i).armed.trans (h.armed i)

/-- The records keep their numbers. -/
theorem numbers (h : BeforeClose s k b) (hlive : s.liveTake = some k) (i : Nat) :
    (b.closeTake k.number i).settlePort.takes.records.map TakeRecord.number
      = s.takes.records.map TakeRecord.number := by
  obtain ⟨f, hf, hdrains⟩ := (h.drainSide hlive i).records
  obtain ⟨p, l, -, hrecords⟩ := h.records i
  rw [hf, hrecords, List.map_map, List.map_map]
  congr 1
  funext x
  simp only [Function.comp_apply, (hdrains _).number]
  split <;> rfl

/-- The take ends at index `i` (R89, R91). -/
theorem ended (h : BeforeClose s k b) (hlive : s.liveTake = some k) (i : Nat) :
    ∀ x ∈ (b.closeTake k.number i).settlePort.takes.records, x.number = k.number →
      x.endIndex = some i ∧ (x.state = .closing ∨ x.state = .closed) ∧ ∀ q ∈ x.pauses, q.stop ≠ none := by
  obtain ⟨f, hf, hdrains⟩ := (h.drainSide hlive i).records
  obtain ⟨p, l, -, hrecords⟩ := h.records i
  rw [hf, hrecords, List.map_map]
  intro x hx hnumber
  obtain ⟨y, -, rfl⟩ := List.mem_map.mp hx
  have hd := hdrains (if y.number = k.number then (y.counted p l).closing i else y)
  have hy : y.number = k.number := by
    rw [Function.comp_apply, hd.number] at hnumber
    split at hnumber
    · assumption
    · exact hnumber
  rw [if_pos hy] at hd
  simp only [Function.comp_apply, if_pos hy]
  exact ⟨hd.endIndex, hd.state, by rw [hd.pauses]; exact endInterval_ends⟩

/-- A page A that is being written holds the drain up (R90). -/
theorem waitsForPageA (h : BeforeClose s k b) (hlive : s.liveTake = some k) (hbusy : s.store.pageA.Busy) (i : Nat) :
    (b.closeTake k.number i).settlePort.liveTake.map TakeRecord.number = some k.number := by
  obtain ⟨k', hlive', hnumber, hclosing⟩ := h.live hlive i
  have hA : (b.markClosing k.number i).store.pageA = s.store.pageA := h.busyA hbusy
  exact (State.pump_busyA hlive' hclosing (by rw [hA]; exact hbusy)).trans (congrArg some hnumber)

/-! ## A drain that is complete at the boundary -/

/-- The drain that the close begins is complete in `t`, from what the discard left, `d` (R90, R116). -/
structure Completed (s : State) (n : Nat) (d t : State) : Prop where
  next : t.coder.nextIndex = none
  writeState : t.store.writeState = none
  records : t.takes.records = d.takes.records.map fun x => if x.number = n then { x with state := .closed } else x
  table : t.store.table = d.store.table
  queue : t.store.queue = d.store.queue
  pageA : t.store.pageA = d.store.pageA
  pageB : t.store.pageB = d.store.pageB
  asks : s.takes.armed = none ∨ s.takes.armed = some .close → s.ClosingAsked t

/-- Rounds and discard leave catalog, requests, links and readout alone. -/
theorem catalog_discarded (h : BeforeClose s k b) (i : Nat) (ws : WriteState) :
    let d := (b.markClosing k.number i).twoRounds.discarded k.number ws
    CatalogAs s d ∧ d.link = b.link ∧ d.requests = b.requests ∧ d.readout = b.readout := by
  obtain ⟨_, _, _, _, _, _, _, hrounds⟩ := (b.markClosing k.number i).twoRounds_roundSide.side
  obtain ⟨_, _, _, _, _, hdiscarded⟩ := (b.markClosing k.number i).twoRounds.discarded_frame k.number ws
  intro d
  have hd : CatalogAs b d ∧ d.link = b.link ∧ d.requests = b.requests ∧ d.readout = b.readout := by
    show CatalogAs b ((b.markClosing k.number i).twoRounds.discarded k.number ws) ∧ _
    rw [show d = _ from hdiscarded, hdiscarded, hrounds]
    exact ⟨⟨rfl, rfl, rfl, rfl, rfl, rfl⟩, rfl, rfl, rfl⟩
  exact ⟨h.catalogAs.trans hd.1, hd.2⟩

theorem completed (h : BeforeClose s k b) (hlive : s.liveTake = some k)
    (hws : (b.markClosing k.number i).twoRounds.store.writeState = some ws)
    (hdrained : ((b.markClosing k.number i).twoRounds.discarded k.number ws).store.Drained) :
    Completed s k.number ((b.markClosing k.number i).twoRounds.discarded k.number ws)
      (b.closeTake k.number i).settlePort := by
  obtain ⟨k', hlive', hnumber, hclosing⟩ := h.live hlive i
  have hpump : (b.markClosing k.number i).pump
      = ((b.markClosing k.number i).twoRounds.discarded k.number ws).drainComplete k.number := by
    rcases State.pump_closing hlive' hclosing with ⟨hnone, -⟩ | ⟨v, hv, hcase⟩
    · rw [hws] at hnone
      cases hnone
    · rw [hws] at hv
      obtain rfl := Option.some.inj hv
      rw [hnumber] at hcase
      rcases hcase with ⟨hmore, -⟩ | ⟨-, hpump⟩
      · exact absurd hdrained hmore
      · exact hpump
  obtain ⟨hcatalog, hlink, hrequests, hreadout⟩ := h.catalog_discarded i ws
  rw [State.closeTake_eq, hpump]
  generalize (b.markClosing k.number i).twoRounds.discarded k.number ws = d at *
  have hafter := d.drainComplete_after k.number
  have hasks : s.takes.armed = none ∨ s.takes.armed = some .close →
      s.ClosingAsked (d.drainComplete k.number).settlePort := fun harmed =>
    State.drainComplete_asks hcatalog ⟨hlink.trans (h.mixed harmed).link, hrequests.trans (h.mixed harmed).requests⟩
      (hreadout.trans h.readout)
  generalize (d.drainComplete k.number).settlePort = t at hafter hasks
  obtain ⟨_, _, _, _, _, _, _, _, _, rfl⟩ := hafter
  exact ⟨rfl, rfl, rfl, rfl, rfl, rfl, rfl, hasks⟩

/-- Every record of the take is CLOSED then. -/
theorem Completed.closed {n : Nat} {t : State} (h : Completed s n d t) :
    ∀ x ∈ t.takes.records, x.number = n → x.state = .closed := by
  rw [h.records]
  intro x hx hnumber
  obtain ⟨y, -, rfl⟩ := List.mem_map.mp hx
  split
  · rfl
  · rename_i hy
    rw [if_neg hy] at hnumber
    exact absurd hnumber hy

/-! ## A PAUSED take with nothing to write -/

/-- With queue and pages empty the drain is complete at once (R90). -/
theorem empties (h : BeforeClose s k b) (hlive : s.liveTake = some k) (hpaused : k.state = .paused)
    (hq : s.store.queue = []) (hA : s.store.pageA.state = .empty) (hB : s.store.pageB.state = .empty)
    (hws : s.store.writeState ≠ none) (i : Nat) : ∃ d, Completed s k.number d (b.closeTake k.number i).settlePort := by
  obtain ⟨ws, hws⟩ := Option.ne_none_iff_exists'.mp hws
  have hstore : (b.markClosing k.number i).store = s.store := h.paused hpaused
  have hrounds : (b.markClosing k.number i).twoRounds = b.markClosing k.number i :=
    State.twoRounds_rests (by rw [hstore, hq]) (by simp [hstore, hA]) (by simp [hstore, hB])
  refine ⟨_, h.completed (ws := ws) hlive (by rw [hrounds, hstore, hws]) ?_⟩
  rw [hrounds]
  unfold State.discarded
  split
  · show _ ∧ (b.markClosing k.number i).store.pageA.afterDiscard.state = .empty
      ∧ (b.markClosing k.number i).store.pageB.afterDiscard.state = .empty
    rw [hstore]
    simp [StagingPage.afterDiscard, hA, hB, State.drainDiscard, State.mapTake]
  · rw [hstore]
    exact ⟨hq, hA, hB⟩


/-! ## A PAUSED take with a page to flush -/

/-- While page A holds words and the take is not STALLED, the rounds are all that the close does (R90, R115). -/
theorem goesOn (h : BeforeClose s k b) (hlive : s.liveTake = some k)
    (hws : (b.markClosing k.number i).twoRounds.store.writeState = some ws) (hgoing : ws.stalled = false)
    (hA : (b.markClosing k.number i).twoRounds.store.pageA.state ≠ .empty) :
    b.closeTake k.number i = (b.markClosing k.number i).twoRounds := by
  obtain ⟨k', hlive', -, hclosing⟩ := h.live hlive i
  rw [State.closeTake_eq]
  rcases State.pump_closing hlive' hclosing with ⟨hnone, -⟩ | ⟨v, hv, hcase⟩
  · rw [hws] at hnone
    cases hnone
  · rw [hws] at hv
    obtain rfl := Option.some.inj hv
    rw [State.discarded_going hgoing] at hcase
    rcases hcase with ⟨-, hpump⟩ | ⟨⟨-, hempty, -⟩, -⟩
    · exact hpump
    · exact absurd hempty hA

/-- A partly filled page A is flushed to the current extent, and the take goes on CLOSING (R111, R115). -/
theorem flushes {e : Nat} {x : Extent} (h : BeforeClose s k b) (hlive : s.liveTake = some k)
    (hpaused : k.state = .paused) (hq : s.store.queue = []) (hA : s.store.pageA.state = .filling)
    (hB : s.store.pageB.state = .empty) (hws : s.store.writeState = some ws) (hcurrent : ws.current = some e)
    (hextent : s.store.extent e = some x) (howned : x.state = .owned) (hanswers : s.store.answers e = true)
    (hpage : ws.writePage < 128) (i : Nat) :
    let t := (b.closeTake k.number i).settlePort
    (∀ y ∈ t.takes.records, y.number = k.number → y.state = .closing)
      ∧ t.store.pageA = { s.store.pageA with state := .programming, failedBefore := false }
      ∧ t.store.pageB = s.store.pageB ∧ t.store.queue = []
      ∧ ∃ img : PageImage, img.Holds s.store.pageA ((x.owner.map Owner.seq).getD 0)
        ∧ t.AtPort (.archiveProgram ⟨e, ws.writePage⟩ img) := by
  obtain ⟨k', hlive', -, hclosing⟩ := h.live hlive i
  obtain ⟨p, l, -, hrecords⟩ := h.records i
  have hstore : (b.markClosing k.number i).store = s.store := h.paused hpaused
  have hrounds : (b.markClosing k.number i).twoRounds
      = { b.markClosing k.number i with store := s.store.flushedA ws e } := by
    rw [← hstore] at hq hA hB hws hextent hanswers ⊢
    exact State.twoRounds_flush hlive' hclosing hws hq hA hB hcurrent hextent howned hanswers hpage
  have hclose : b.closeTake k.number i = { b.markClosing k.number i with store := s.store.flushedA ws e } := by
    rw [h.goesOn (ws := { ws with stalled := false }) hlive (by rw [hrounds]; rfl) rfl (by rw [hrounds]; nofun),
      hrounds]
  intro t
  have hport : t.AtPort (.archiveProgram ⟨e, ws.writePage⟩ ⟨s.store.pageA.data,
      spareOf s.store.pageA.take s.store.pageA.pageSeq (s.store.seqOf e) s.store.pageA.data⟩) := by
    refine State.AtPort.settlePort (.inl ?_)
    rw [hclose]
    exact List.mem_append_right _ (List.mem_singleton_self _)
  have hsettled : t = { b.closeTake k.number i with store := { (b.closeTake k.number i).store with
      inFlight := t.store.inFlight, waiting := t.store.waiting } } := (State.settlePort_portSide _).eq
  rw [hclose] at hsettled
  refine ⟨fun y hy hnumber => ?_, by rw [hsettled]; rfl, by rw [hsettled]; rfl, by rw [hsettled]; exact hq,
    _, ⟨s.store.pageA.data_eq, ?_⟩, hport⟩
  · have ht : t.takes.records = (b.markClosing k.number i).takes.records := by rw [hsettled]
    rw [ht, hrecords] at hy
    obtain ⟨z, -, rfl⟩ := List.mem_map.mp hy
    split
    · rfl
    · rename_i hz
      rw [if_neg hz] at hnumber
      exact absurd hnumber hz
  · have hseq : s.store.seqOf e = (x.owner.map Owner.seq).getD 0 := by
      simp only [StoreController.seqOf, hextent]
    rw [← hseq]
    rfl

end BeforeClose

/-! ## A PAUSED take that is STALLED -/

theorem packetsIn_eq (ws : List PacketWord) : packetsIn ws = ws.countP PacketWord.first + match ws with
    | w :: _ => (!w.first).toNat
    | [] => 0 := by
  cases ws with
  | nil => rfl
  | cons w ws => cases hw : w.first <;> simp [packetsIn, List.countP_eq_length_filter, hw]

namespace StoreController

variable {c : StoreController} {ws : WriteState}

/-- Page B of a stuck store that has been fed is EMPTY or WAITING. -/
theorem Stuck.pageB_cases (h : c.Stuck ws) (hfed : c.FedB) : c.pageB.state = .empty ∨ c.pageB.state = .waiting := by
  have hbusy := not_or.mp h.notBusy
  have hfilling := hfed.1
  cases hB : c.pageB.state with
  | empty => exact .inl rfl
  | waiting => exact .inr rfl
  | filling => exact absurd hB hfilling
  | programming => exact absurd hB hbusy.1
  | verifying => exact absurd hB hbusy.2

/-- What a stuck store discards: page A, and what stands behind it (R116). -/
theorem Stuck.discards_eq (h : c.Stuck ws) (hfed : c.FedB) : c.discards = c.pageA.words ++ c.behind := by
  have hA : c.pageA.discarded = c.pageA.words := by simp [StagingPage.discarded, h.waits]
  have horder := h.order
  rcases h.pageB_cases hfed with hB | hB
  · have hnone : c.pageB.discarded = [] := by simp [StagingPage.discarded, hB]
    simp [discards, behind, hA, hB, hnone]
  · have hlate : ¬ c.pageB.pageSeq < c.pageA.pageSeq := by
      rw [if_neg (by simp [hB])] at horder
      omega
    have hall : c.pageB.discarded = c.pageB.words := by simp [StagingPage.discarded, hB]
    simp [discards, behind, hA, hB, hlate, hall]

end StoreController

theorem BeforeClose.discards {s b : State} {k : TakeRecord} {ws : WriteState} (h : BeforeClose s k b)
    (hlive : s.liveTake = some k) (hpaused : k.state = .paused) (hstuck : s.store.Stuck ws) (i : Nat) :
    let t := (b.closeTake k.number i).settlePort
    t.store.queue = [] ∧ t.store.pageA = {} ∧ t.store.pageB.state = .empty ∧ t.store.writeState = none
      ∧ t.coder.nextIndex = none ∧ t.store.table = s.store.table
      ∧ (t.takes.records = s.takes.records.map fun y =>
        if y.number = k.number then { y with
          state := .closed, endIndex := some i, pauses := endInterval i y.pauses
          lossCount := min (y.lossCount + packetsIn (s.store.pageA.words ++ s.store.behind)) 65535 } else y)
      ∧ (s.takes.armed = none ∨ s.takes.armed = some .close → s.ClosingAsked t) := by
  obtain ⟨k', hlive', -, hclosing⟩ := h.live hlive i
  obtain ⟨p, l, hcounts, hrecords⟩ := h.records i
  obtain ⟨rfl, rfl⟩ := hcounts hpaused
  have hstore : (b.markClosing k.number i).store = s.store := h.paused hpaused
  obtain ⟨v, hv, hstalled, hfed, hbehind, hA, htable⟩ :=
    State.twoRounds_stuck (s := b.markClosing k.number i) (by rw [hstore]; exact hstuck) hlive' hclosing
  rw [hstore] at hbehind hA htable
  have hdiscards := hv.discards_eq hfed
  rw [hbehind, hA] at hdiscards
  have htakes : (b.markClosing k.number i).twoRounds.takes.records = (b.markClosing k.number i).takes.records := by
    obtain ⟨_, _, _, _, _, _, _, heq⟩ := (b.markClosing k.number i).twoRounds_roundSide.side
    rw [heq]
  have hemptyA : (b.markClosing k.number i).twoRounds.store.pageA.afterDiscard = {} := if_pos (by simp [hv.waits])
  have hemptyB : (b.markClosing k.number i).twoRounds.store.pageB.afterDiscard.state = .empty := by
    rcases hv.pageB_cases hfed with hB | hB <;> simp [StagingPage.afterDiscard, hB]
  have hdiscarded := State.discarded_stalled (s := (b.markClosing k.number i).twoRounds) (n := k.number) hstalled
  have hdone := h.completed hlive hv.writeState (by
    rw [hdiscarded]
    exact ⟨rfl, congrArg StagingPage.state hemptyA, hemptyB⟩)
  rw [hdiscarded] at hdone
  refine ⟨hdone.queue, hdone.pageA.trans hemptyA, ?_, hdone.writeState, hdone.next, hdone.table.trans htable, ?_,
    hdone.asks⟩
  · rw [hdone.pageB]
    exact hemptyB
  · have hlosses : ((b.markClosing k.number i).twoRounds.drainDiscard k.number v).takes.records
        = s.takes.records.map fun y => if y.number = k.number then
            ((y.counted 0 0).closing i).addLoss (packetsIn (s.store.pageA.words ++ s.store.behind)) else y := by
      show (b.markClosing k.number i).twoRounds.takes.records.map _ = _
      rw [htakes, hrecords, hdiscards]
      exact map_records_map (f := fun y => (y.counted 0 0).closing i) (fun _ => rfl) _ _
    rw [hdone.records, hlosses]
    exact map_records_map
      (f := fun y => ((y.counted 0 0).closing i).addLoss (packetsIn (s.store.pageA.words ++ s.store.behind)))
      (g := fun y => { y with state := .closed }) (fun _ => rfl) _

/-! ## The greatest index -/

section Greatest

variable {s : State} {k : TakeRecord} {i : Nat}

/-- INDEX_EXHAUSTION is the archive boundary that gives the greatest index (R59, R91; log 3). -/
theorem exec_indexExhaustion (hdue : s.sources.boundaryDue = true) (hrow : s.sources.rowCounter = 0)
    (hlive : s.liveTake = some k) (hcounts : k.counts = true) (hnext : s.coder.nextIndex = some i)
    (hi : 4294967295 ≤ i) : exec .indexExhaustion s = exec .archiveBoundary s := by
  have hindex : s.indexGiven = some (k, i) := by simp [State.indexGiven, hlive, hnext, hcounts]
  have hexhausted : s.exhaustionDue = true := by
    have hmax : Config.indexMax ≤ i := hi
    simp [State.exhaustionDue, State.archiveDue, hdue, hrow, hindex, hmax]
  exact (congrArg Host.Outcome.next (if_pos hexhausted)).trans (exec_archiveBoundary hdue hrow).symm

/-- An armed pause or resume is answered before the close, and the close answers it no more (R91, log 34). -/
theorem BeforeClose.refuses {y : State} {op : StoreOp} (h : BeforeClose s k (y.completeStoreOp .wrongState []))
    (hlive : s.liveTake = some k) (hreadout : y.readout = s.readout) (hop : y.requests.storeOp = some op) (i : Nat) :
    let t := ((y.completeStoreOp .wrongState []).closeTake k.number i).settlePort
    t.requests.storeOp = none ∧ (∀ e ∈ t.requests.entries, e.arrival ≠ op.arrival)
      ∧ ∀ e ∈ y.requests.entries, y.requests.Lawful → e.arrival = op.arrival → s.readout.state ≠ .following →
        AnsweredIn y y.link { y.requests with storeOp := none } e .wrongState [] t := by
  obtain ⟨k', hlive', -, hclosing⟩ := h.live hlive i
  obtain ⟨hslot, hgone⟩ := State.completeStoreOp_frees hop .wrongState []
  obtain ⟨hfree, hquiet⟩ := State.pump_unasked hlive' hclosing hslot
  have hentries := (State.pump_side ((y.completeStoreOp .wrongState []).markClosing k.number i)).trans
    (State.settlePort_side _)
  refine ⟨hfree, fun e he => hgone e (hentries.entries.subset he), fun e he hlawful harrival hfollowing => ?_⟩
  obtain ⟨hlink, hrequests⟩ := State.completeStoreOp_answered hop hlawful he harrival .wrongState []
  obtain ⟨hlink', hrequests'⟩ := hquiet (by
    show (y.completeStoreOp .wrongState []).readout.state ≠ .following
    rw [State.completeStoreOp_eq]
    rwa [hreadout])
  refine ⟨hlink'.trans (hlink.trans ?_), hrequests'.trans hrequests⟩
  rw [State.completeStoreOp_eq]
  rfl

end Greatest

end Sys2Proof.Machine
end

section
/-!
The transitions of an archive boundary, assembled: the pause and the resume that take hold, the close, and the greatest
index.
-/

namespace Sys2Proof.Machine

section TakeHold

variable {s : State} {k : TakeRecord} {i : Nat}

/-- The archive boundary of a take that has begun ends its block, settles the port and clears the blocks. -/
theorem exec_archiveBoundary_endBlock (hdue : s.sources.boundaryDue = true) (hrow : s.sources.rowCounter = 0)
    (hlive : s.liveTake = some k) (hcounts : k.counts = true) (hnext : s.coder.nextIndex = some i) :
    exec .archiveBoundary s = .next (s.mixBoundary.endBlock k i).settlePort.clearBlocks := by
  have hwork : s.mixBoundary.takeWork = s.mixBoundary.endBlock k i :=
    State.takeWork_counted (s := s.mixBoundary) hlive hcounts hnext
  rw [exec_archiveBoundary hdue hrow, State.archiveBoundary_eq, hwork]

/-- An armed pause takes hold: the record counts its packets, is PAUSED and has an interval from `i + 1` (R86). -/
theorem State.endBlock_pause (hlive : s.liveTake = some k) (hopen : k.state = .opened) (hi : i < 4294967295)
    (harmed : s.takes.armed = some .pause) : ∃ y, TakesHold s i y
      ∧ s.mixBoundary.endBlock k i = y.askCatalog .storeOperation
      ∧ ∃ p l, p + l = k.trackSet.length ∧ y.takes.records = s.takes.records.map fun x =>
        if x.number = k.number then { x.counted p l with
          state := .paused, pauses := x.pauses ++ [⟨i + 1, none⟩] } else x := by
  obtain ⟨p, l, hsum, h⟩ := State.codeEnded_opened (u := s.mixBoundary) hlive hopen i
  refine ⟨_, TakesHold.of_offers h k.number fun x => { x with
    state := .paused, pauses := x.pauses ++ [⟨i + 1, none⟩] }, ?_, p, l, hsum, ?_⟩
  · have harmed' : s.mixBoundary.takes.armed = some .pause := harmed
    rw [State.endBlock_armed hi, harmed']
    rfl
  · show (s.mixBoundary.codeEnded k i).takes.records.map _ = _
    rw [h.takes]
    exact map_records_map (f := TakeRecord.counted p l) (fun _ => rfl) _ _

/-- An armed resume takes hold: the record is OPEN and its open interval ends at `i` (R87). -/
theorem State.endBlock_resume (hpaused : k.state = .paused) (hi : i < 4294967295)
    (harmed : s.takes.armed = some .resume) : ∃ y, TakesHold s i y
      ∧ s.mixBoundary.endBlock k i = y.askCatalog .storeOperation
      ∧ y.takes.records = s.takes.records.map fun x =>
        if x.number = k.number then { x with state := .opened, pauses := endInterval i x.pauses } else x := by
  refine ⟨_, TakesHold.of_offers (.start s.mixBoundary k) k.number fun x => { x with
    state := .opened, pauses := endInterval i x.pauses }, ?_, rfl⟩
  have harmed' : s.mixBoundary.takes.armed = some .resume := harmed
  rw [State.endBlock_armed hi, State.codeEnded_paused hpaused, harmed']
  rfl

/-- An armed close takes hold (R89). -/
theorem State.endBlock_close (hi : i < 4294967295) (harmed : s.takes.armed = some .close) :
    s.mixBoundary.endBlock k i
      = ((s.mixBoundary.codeEnded k i).disarm.raiseIndex i).closeTake k.number i := by
  have harmed' : s.mixBoundary.takes.armed = some .close := harmed
  rw [State.endBlock_armed hi, harmed']
  rfl

/-- The greatest index with a pause or a resume armed (R91). -/
theorem State.endBlock_refused (hi : 4294967295 ≤ i)
    (harmed : s.takes.armed = some .pause ∨ s.takes.armed = some .resume) : s.mixBoundary.endBlock k i
      = ((s.mixBoundary.codeEnded k i).disarm.completeStoreOp .wrongState []).closeTake k.number i := by
  have harmed' : s.mixBoundary.takes.armed = some .pause ∨ s.mixBoundary.takes.armed = some .resume := harmed
  rw [State.endBlock_greatest hi]
  rcases harmed' with ha | ha <;> rw [ha] <;> rfl

/-- The greatest index with neither armed (R91). -/
theorem State.endBlock_exhausted (hi : 4294967295 ≤ i)
    (harmed : ¬ (s.takes.armed = some .pause ∨ s.takes.armed = some .resume)) : s.mixBoundary.endBlock k i
      = (s.mixBoundary.codeEnded k i).disarm.closeTake k.number i := by
  have harmed' : ¬ (s.mixBoundary.takes.armed = some .pause ∨ s.mixBoundary.takes.armed = some .resume) := harmed
  rw [State.endBlock_greatest hi]
  cases ha : s.mixBoundary.takes.armed with
  | none => rfl
  | some a => cases a with
    | close => rfl
    | pause => exact absurd (.inl ha) harmed'
    | resume => exact absurd (.inr ha) harmed'

/-- The request of that pause or resume ends with WRONG_STATE and the alerts before the close (R91, log 34). -/
theorem State.refused_answered {op : StoreOp} (hlive : s.liveTake = some k)
    (hstate : k.state = .opened ∨ k.state = .paused)
    (harmed : s.takes.armed = some .pause ∨ s.takes.armed = some .resume) (hop : s.requests.storeOp = some op)
    (i : Nat) :
    let t := (((s.mixBoundary.codeEnded k i).disarm.completeStoreOp .wrongState []).closeTake k.number i).settlePort
    t.requests.storeOp = none ∧ (∀ e ∈ t.requests.entries, e.arrival ≠ op.arrival)
      ∧ ∀ e ∈ s.requests.entries, s.requests.Lawful → e.arrival = op.arrival → s.readout.state ≠ .following →
        AnsweredIn (s.mixBoundary.codeEnded k i) s.mixBoundary.link { s.requests with storeOp := none } e
          .wrongState [] t := by
  obtain ⟨_, _, -, -, h⟩ := State.codeEnded_offers hlive hstate i
  have hlink : (s.mixBoundary.codeEnded k i).disarm.link = s.mixBoundary.link := h.link
  have hrequests : (s.mixBoundary.codeEnded k i).disarm.requests = s.requests := h.requests
  have hrefuses := ((BeforeClose.of_coded hlive hstate i).answered harmed .wrongState).refuses hlive h.readout
    (by rw [hrequests, hop]) i
  rw [hlink, hrequests] at hrefuses
  exact hrefuses

end TakeHold

/-- Settles O51: the pause, the resume, the close and the greatest index, each from the block's end. -/
theorem transitionsTakeHold : Obligations.TransitionsTakeHold := by
  intro s k i hdue hrow hlive hbegun hnext c ended answered asks holds closes
  have hcounted : k.state = .opened ∨ k.state = .paused → k.counts = true := fun h => by
    rcases h with h | h <;> simp [TakeRecord.counts, hbegun, h]
  have hexec : (k.state = .opened ∨ k.state = .paused) →
      exec .archiveBoundary s = .next (s.mixBoundary.endBlock k i).settlePort.clearBlocks := fun h =>
    exec_archiveBoundary_endBlock hdue hrow hlive (hcounted h) hnext
  have hholds : ∀ (kind : StoreOpKind) (changed : State → Prop) (y : State), kind = .pause ∨ kind = .resume →
      exec .archiveBoundary s = .next (y.askCatalog .storeOperation).settlePort.clearBlocks → TakesHold s i y →
      (∀ t : State, t.takes.records = y.takes.records → changed t) → holds kind changed := by
    intro kind changed y hkind hend hy hchanged
    have hheld : ∀ t : State, HeldAs i y t →
        t.clearBlocks.coder.nextIndex = some (i + 1) ∧ t.clearBlocks.takes.armed = none ∧ changed t.clearBlocks :=
      fun t ⟨hindex, harmed, hrecords⟩ => ⟨hindex, harmed, hchanged t.clearBlocks hrecords⟩
    refine ⟨fun h => ⟨_, hend, ?_⟩, fun h => ⟨_, hend, ?_⟩, fun h hop => ⟨_, hend, ?_⟩⟩
    · obtain ⟨hkept, hrequests, hbegins⟩ := hy.begun h
      exact ⟨hheld _ hkept, hrequests, hbegins⟩
    · obtain ⟨hkept, hrequests, hjoins⟩ := hy.joined h
      exact ⟨hheld _ hkept, hrequests, hjoins⟩
    · obtain ⟨hkept, hfails, hanswers⟩ := hy.failed hkind h hop
      exact ⟨hheld _ hkept, hfails, hanswers⟩
  have hcloses : ∀ b, BeforeClose s k b → closes (b.closeTake k.number i).settlePort.clearBlocks := by
    intro b hb
    refine ⟨hb.disarmed hlive i, hb.numbers hlive i, hb.ended hlive i, fun hbusy => hb.waitsForPageA hlive hbusy i,
      fun hpaused hq hA hB hws => ?_, fun ws e x hpaused hq hA hB hws hcurrent hextent howned hanswers hpage =>
        hb.flushes hlive hpaused hq hA hB hws hcurrent hextent howned hanswers hpage i,
      fun ws hpaused hws hfree hlost hA hB hB' horder => ?_⟩
    · obtain ⟨d, hd⟩ := hb.empties hlive hpaused hq hA hB hws i
      exact ⟨hd.next, hd.writeState, hd.closed, hd.asks⟩
    · have h := hb.discards hlive hpaused ⟨hws, hfree, hlost, hA, not_or.mpr ⟨hB, hB'⟩, horder⟩ i
      simp only [packetsIn_eq, endInterval_eq, StoreController.behind, ← List.append_assoc] at h
      exact h
  refine ⟨fun hi harmed hopen => ?_, fun hi harmed hpaused => ?_, fun hi harmed hstate => ?_, fun hi hstate => ?_⟩
  · obtain ⟨y, hy, hend, p, l, hsum, hrecords⟩ := State.endBlock_pause hlive hopen hi harmed
    exact hholds _ _ y (.inl rfl) (by rw [hexec (.inl hopen), hend]) hy
      fun t ht => ⟨p, l, hsum, ht.trans hrecords⟩
  · obtain ⟨y, hy, hend, hrecords⟩ := State.endBlock_resume hpaused hi harmed
    rw [funext (endInterval_eq i)] at hrecords
    exact hholds _ _ y (.inr rfl) (by rw [hexec (.inr hpaused), hend]) hy fun t ht => ht.trans hrecords
  · exact ⟨_, by rw [hexec hstate, State.endBlock_close hi harmed],
      hcloses _ ((BeforeClose.of_coded hlive hstate i).raised i)⟩
  · have hsame := exec_indexExhaustion hdue hrow hlive (hcounted hstate) hnext hi
    have hcoded := BeforeClose.of_coded hlive hstate i
    refine ⟨hsame, ?_⟩
    rw [hsame, hexec hstate]
    by_cases harmed : s.takes.armed = some .pause ∨ s.takes.armed = some .resume
    · have hb := hcoded.answered harmed .wrongState
      rw [State.endBlock_refused hi harmed]
      exact ⟨_, rfl, hcloses _ hb, fun op hop _ => State.refused_answered hlive hstate harmed hop i⟩
    · rw [State.endBlock_exhausted hi harmed]
      exact ⟨_, rfl, hcloses _ hcoded, fun op _ h => absurd h harmed⟩

end Sys2Proof.Machine
end

section
/-!
TAKE_PAUSE, TAKE_RESUME and TAKE_CLOSE (R83, R86, R87, R89): refused, or armed for the next archive boundary.
-/

namespace Sys2Proof.Machine

section Transitions

variable {s : State} {e : Entry} {k : TakeRecord}

/-- A service that arms a transition holds the store operation slot and changes nothing else. -/
theorem Served.completes_armed {c : RequestCode} {block : Entry → State → State} (h : Served s c e) (a : Transition)
    (kind : StoreOpKind) (hb : block e (s.activate e.arrival) = (s.activate e.arrival).arm e a kind) :
    Completes (.next (s.serve c block)) fun t =>
      t = { s with takes := { s.takes with armed := some a }, requests := t.requests } ∧ HoldsSlot s e kind t :=
  ⟨(s.activate e.arrival).arm e a kind, by rw [exec_serve block h, hb], rfl, rfl⟩

/-- A pause outside MOUNTED or without a live take (R83). -/
theorem serveTakePause_idle (h : s.store.state ≠ .mounted ∨ s.liveTake = none) :
    serveTakePause e s = s.refuse e .wrongState := by
  unfold serveTakePause
  split
  · rename_i hmounted hlive
    simp [hmounted, hlive] at h
  · rfl

theorem serveTakePause_live (hmounted : s.store.state = .mounted) (hlive : s.liveTake = some k) :
    serveTakePause e s = if k.state ≠ .opened then s.refuse e .wrongState
      else if 16 ≤ k.pauses.length then s.refuse e .noSpace else s.arm e .pause .pause := by
  simp only [serveTakePause, hmounted, hlive]
  rfl

/-- A resume outside MOUNTED or without a live take (R83). -/
theorem serveTakeResume_idle (h : s.store.state ≠ .mounted ∨ s.liveTake = none) :
    serveTakeResume e s = s.refuse e .wrongState := by
  unfold serveTakeResume
  split
  · rename_i hmounted hlive
    simp [hmounted, hlive] at h
  · rfl

theorem serveTakeResume_live (hmounted : s.store.state = .mounted) (hlive : s.liveTake = some k) :
    serveTakeResume e s = if k.state ≠ .paused then s.refuse e .wrongState else s.arm e .resume .resume := by
  simp only [serveTakeResume, hmounted, hlive]

/-- A close outside MOUNTED and FAULT or without a live take (R83, R89). -/
theorem serveTakeClose_idle (h : (s.store.state ≠ .mounted ∧ s.store.state ≠ .fault) ∨ s.liveTake = none) :
    serveTakeClose e s = s.refuse e .wrongState := by
  unfold serveTakeClose
  split
  · rename_i k hlive
    refine if_pos ?_
    have hstate := h.resolve_right (by simp [hlive])
    simp [hstate]
  · rfl

theorem serveTakeClose_live (hstate : s.store.state = .mounted ∨ s.store.state = .fault)
    (hlive : s.liveTake = some k) : serveTakeClose e s
      = if k.state ≠ .opened ∧ k.state ≠ .paused then s.refuse e .wrongState else s.arm e .close .close := by
  rcases hstate with hs | hs <;> simp [serveTakeClose, hs, hlive]

end Transitions

/-- Settles O48: each request by its tests, and the accepted one armed. -/
theorem transitionsAreArmed : Obligations.TransitionsAreArmed := by
  intro s e arms refused
  refine ⟨fun h => ⟨fun hidle => h.completes_refused _ (serveTakePause_idle hidle), fun k hmounted hlive => ?_⟩,
    fun h => ⟨fun hidle => h.completes_refused _ (serveTakeResume_idle hidle), fun k hmounted hlive => ?_⟩,
    fun h => ⟨fun hidle => h.completes_refused _ (serveTakeClose_idle hidle), fun k hstate hlive => ?_⟩⟩
  · have hserve := serveTakePause_live (s := s.activate e.arrival) (e := e) hmounted hlive
    refine ⟨fun hk => h.completes_refused _ (hserve.trans (if_pos hk)), fun hk hfull => ?_, fun hk hroom => ?_⟩
    all_goals replace hserve := hserve.trans (if_neg (not_not.mpr hk))
    · exact h.completes_refused _ (hserve.trans (if_pos hfull))
    · exact h.completes_armed _ _ (hserve.trans (if_neg (Nat.not_le.mpr hroom)))
  · have hserve := serveTakeResume_live (s := s.activate e.arrival) (e := e) hmounted hlive
    exact ⟨fun hk => h.completes_refused _ (hserve.trans (if_pos hk)),
      fun hk => h.completes_armed _ _ (hserve.trans (if_neg (not_not.mpr hk)))⟩
  · have hserve := serveTakeClose_live (s := s.activate e.arrival) (e := e) hstate hlive
    refine ⟨fun hk => h.completes_refused _ (hserve.trans (if_pos (by simp [hk]))),
      fun hk => h.completes_armed _ _ (hserve.trans (if_neg ?_))⟩
    rintro ⟨hopened, hpaused⟩
    exact hk.elim hopened hpaused

end Sys2Proof.Machine
end

section
/-!
TAKE_PROTECT, TAKE_UNPROTECT and TAKE_DELETE (R83, R93, R94, R97, R98): the order of their tests, and the catalog write
an accepted one asks for.
-/

namespace Sys2Proof.Machine

section Asks

variable {s : State} {e : Entry} {k : TakeRecord} {n : Nat} {kind : StoreOpKind} {f back : TakeRecord → TakeRecord}

/-! ## The take a request names -/

/-- A take's record as a request with one operand word finds it (R83, R187). -/
theorem Entry.named_eq (hr : e.required = 1) (c : TakeController) :
    (if e.short = true then none else c.record e.takeNumber)
      = if e.operands = [] then none else c.record (field (e.op 0) 15 0) := by
  refine if_congr (Entry.short_of_required hr) rfl rfl

theorem TakeController.record_number {c : TakeController} (h : c.record n = some k) : k.number = n := by
  simpa using List.find?_some h

/-- The take found bears the number the request names. -/
theorem Entry.named_number {c : TakeController}
    (h : (if e.operands = [] then none else c.record n) = some k) : k.number = n := by
  split at h
  · cases h
  · exact TakeController.record_number h

/-! ## The catalog write of a changed record -/

/-- The state in which a request that has changed a take's record asks for its catalog write (R93, R94). -/
def State.recordHeld (s : State) (e : Entry) (n : Nat) (f : TakeRecord → TakeRecord) (kind : StoreOpKind) : State :=
  ((s.activate e.arrival).mapTake n f).holdSlot e kind

/-- What a request that has changed a take's record leaves while its catalog write is under way. -/
def RecordAsked (s : State) (e : Entry) (n : Nat) (f : TakeRecord → TakeRecord) (kind : StoreOpKind) (t : State) :
    Prop :=
  t = { s with takes := t.takes, store := t.store, requests := t.requests } ∧ HoldsSlot s e kind t
    ∧ t.takes.records = (s.takes.records.map fun x => if x.number = n then f x else x)
    ∧ t.takes.nextTake = s.takes.nextTake ∧ t.takes.armed = s.takes.armed ∧ t.takes.openReady = s.takes.openReady
    ∧ t.store = { s.store with inFlight := t.store.inFlight, waiting := t.store.waiting }

theorem CatalogSide.recordAsked {t : State} (h : CatalogSide (s.recordHeld e n f kind) t) :
    RecordAsked s e n f kind t := by
  obtain ⟨_, _, _, _, _, _, rfl⟩ := h
  exact ⟨rfl, rfl, rfl, rfl, rfl, rfl, rfl⟩

/-- What is left of a request whose catalog write has failed at once: the record has its former value (R93, R94). -/
def RecordGivenBack (s : State) (e : Entry) (n : Nat) (back : TakeRecord → TakeRecord) (t : State) : Prop :=
  t = { s with takes := t.takes, store := t.store, link := t.link, requests := t.requests }
    ∧ t.takes = { s.takes with records := s.takes.records.map fun x => if x.number = n then back x else x }
    ∧ t.store = { s.store with inFlight := t.store.inFlight, waiting := t.store.waiting }
    ∧ Answered s.link s.requests e .storeFault [] t

/-- A store operation that undoes its change of a take's record where its catalog write fails. -/
def StoreOpKind.Undoes (kind : StoreOpKind) (n : Nat) (back : TakeRecord → TakeRecord) : Prop :=
  ∀ (x : State) (a : Nat), x.requests.storeOp = some ⟨kind, a⟩ →
    x.storeOpWritten false = (x.mapTake n back).completeStoreOp .storeFault []

theorem StoreOpKind.protect_undoes (n : Nat) (former : Bool) :
    (StoreOpKind.protect n former).Undoes n fun x => { x with isProtected := former } := fun x a h => by
  simp only [State.storeOpWritten, h, Bool.false_eq_true, if_false]

theorem StoreOpKind.delete_undoes (n : Nat) :
    (StoreOpKind.delete n).Undoes n fun x => { x with deleting := false } := fun x a h => by
  simp only [State.storeOpWritten, h, State.deleteEnd, Bool.false_eq_true, if_false]

/-- A catalog write that fails at once gives the record back and ends the request with STORE_FAULT (R93, R94, R98). -/
theorem Served.record_givenBack {c : RequestCode} (h : Served s c e) (hc : c.storeOperation = true)
    (hnumber : ∀ x : TakeRecord, (f x).number = x.number) (hback : ∀ x, back (f x) = back x)
    (hundoes : kind.Undoes n back) (hstopped : s.CatalogStopped) :
    RecordGivenBack s e n back ((s.recordHeld e n f kind).askCatalog .storeOperation).settlePort := by
  have hrecords : ((s.recordHeld e n f kind).mapTake n back).takes = (s.mapTake n back).takes := by
    show ({ s.takes with records := (s.takes.records.map _).map _ } : TakeController) = _
    rw [map_records_map hnumber back]
    simp only [hback, State.mapTake_takes]
  have hends : Ends (s.mapTake n back) e .storeFault []
      (((s.recordHeld e n f kind).mapTake n back).completeStoreOp .storeFault []) := by
    refine h.complete_ends (u := s.mapTake n back) (v := { s.recordHeld e n f kind with
      takes := ((s.recordHeld e n f kind).mapTake n back).takes
      requests := { (s.recordHeld e n f kind).requests with storeOp := none } }) ?_ rfl .storeFault []
    rw [hrecords, ← h.slot_free hc]
    rfl
  rw [State.askCatalog_stopped (s.recordHeld e n f kind) .storeOperation hstopped]
  show RecordGivenBack s e n back ((s.recordHeld e n f kind).storeOpWritten false).settlePort
  rw [hundoes _ e.arrival rfl]
  obtain ⟨hrest, hanswered⟩ := hends
  generalize ((s.recordHeld e n f kind).mapTake n back).completeStoreOp .storeFault [] = y at hrest hanswered ⊢
  have hport := y.settlePort_portSide
  have htakes : y.takes = (s.mapTake n back).takes := by rw [hrest]
  have hstore : y.store = s.store := by rw [hrest, State.mapTake_store]
  refine ⟨?_, ?_, ?_, hanswered.portSide hport⟩
  · rw [hport.eq, hrest]
    rfl
  · rw [hport.eq]
    exact htakes
  · rw [← hstore]
    exact congrArg State.store hport.eq

/-- A request that has changed a take's record asks for its catalog write, which starts, waits or fails. -/
theorem Served.completes_asked {c : RequestCode} {block : Entry → State → State} (h : Served s c e)
    (hc : c.storeOperation = true) (hnumber : ∀ x : TakeRecord, (f x).number = x.number)
    (hback : ∀ x, back (f x) = back x) (hundoes : kind.Undoes n back)
    (hb : block e (s.activate e.arrival) = ((s.recordHeld e n f kind).askCatalog .storeOperation).settlePort) :
    (s.CatalogReady → Completes (.next (s.serve c block)) fun t =>
      RecordAsked s e n f kind t ∧ CatalogWriteBegun s t .storeOperation)
    ∧ (s.takes.write ≠ none → Completes (.next (s.serve c block)) fun t =>
      RecordAsked s e n f kind t ∧ CatalogWriteJoined s t .storeOperation)
    ∧ (s.CatalogStopped → Completes (.next (s.serve c block)) (RecordGivenBack s e n back)) := by
  have hserve := exec_serve block h
  rw [hb] at hserve
  refine ⟨fun hready => ⟨_, hserve, ?_⟩, fun hbusy => ⟨_, hserve, ?_⟩, fun hstopped => ⟨_, hserve, ?_⟩⟩
  · obtain ⟨hside, hbegun⟩ :=
      State.askCatalog_begun (x := s.recordHeld e n f kind) (w := .storeOperation) hready
    exact ⟨hside.recordAsked, hbegun⟩
  · obtain ⟨hside, hjoined⟩ :=
      State.askCatalog_joined (x := s.recordHeld e n f kind) (w := .storeOperation) hbusy
    exact ⟨hside.recordAsked, hjoined⟩
  · exact h.record_givenBack hc hnumber hback hundoes hstopped

end Asks

/-! ## The tests -/

section Tests

variable {s : State} {e : Entry} {k : TakeRecord} {v : Bool}

theorem serveProtect_unmounted (h : s.store.state ≠ .mounted) : serveProtect v e s = s.refuse e .wrongState := if_pos h

theorem serveProtect_unknown (hr : e.required = 1) (hmounted : s.store.state = .mounted)
    (h : (if e.operands = [] then none else s.takes.record (field (e.op 0) 15 0)) = none) :
    serveProtect v e s = s.refuse e .badOperand := by
  rw [← Entry.named_eq hr] at h
  simp only [serveProtect, hmounted, h, ne_eq, not_true, if_false]

/-- The tests of TAKE_PROTECT and TAKE_UNPROTECT on a known take, in their order (R93). -/
theorem serveProtect_known (hr : e.required = 1) (hmounted : s.store.state = .mounted)
    (h : (if e.operands = [] then none else s.takes.record (field (e.op 0) 15 0)) = some k) :
    serveProtect v e s = if k.state.live = true then s.refuse e .wrongState
      else if k.isProtected = v then s.done e []
      else (((s.mapTake k.number fun x => { x with isProtected := v }).holdSlot e
        (.protect k.number k.isProtected)).askCatalog .storeOperation).settlePort := by
  rw [← Entry.named_eq hr] at h
  simp only [serveProtect, hmounted, h, ne_eq, not_true, if_false]

theorem serveTakeDelete_unmounted (h : s.store.state ≠ .mounted) : serveTakeDelete e s = s.refuse e .wrongState :=
  if_pos h

theorem serveTakeDelete_unknown (hr : e.required = 1) (hmounted : s.store.state = .mounted)
    (h : (if e.operands = [] then none else s.takes.record (field (e.op 0) 15 0)) = none) :
    serveTakeDelete e s = s.refuse e .badOperand := by
  rw [← Entry.named_eq hr] at h
  simp only [serveTakeDelete, hmounted, h, ne_eq, not_true, if_false]

/-- The tests of TAKE_DELETE on a known take, in their order (R94). -/
theorem serveTakeDelete_known (hr : e.required = 1) (hmounted : s.store.state = .mounted)
    (h : (if e.operands = [] then none else s.takes.record (field (e.op 0) 15 0)) = some k) :
    serveTakeDelete e s = if k.isProtected = true then s.refuse e .isProtected
      else if k.state.live = true ∨ (s.readout.state ≠ .idle ∧ s.readout.take = k.number) then
        s.refuse e .wrongState
      else (((s.mapTake k.number fun x => { x with deleting := true }).holdSlot e
        (.delete k.number)).askCatalog .storeOperation).settlePort := by
  rw [← Entry.named_eq hr] at h
  simp only [serveTakeDelete, hmounted, h, ne_eq, not_true, if_false]
  refine if_congr Iff.rfl rfl (if_congr ?_ rfl rfl)
  simp [ReadoutEngine.busy]

end Tests

/-- TAKE_PROTECT and TAKE_UNPROTECT, by the value they set (R93). -/
theorem Served.protects {s : State} {e : Entry} {c : RequestCode} (v : Bool) (h : Served s c e)
    (hr : e.required = 1) (hc : c.storeOperation = true) :
    let n := field (e.op 0) 15 0
    let known := if e.operands = [] then none else s.takes.record n
    let served := Completes (.next (s.serve c (serveProtect v)))
    (s.store.state ≠ .mounted → served (Ends s e .wrongState []))
    ∧ (s.store.state = .mounted → known = none → served (Ends s e .badOperand []))
    ∧ ∀ k, s.store.state = .mounted → known = some k →
      (k.state.live = true → served (Ends s e .wrongState []))
      ∧ (k.state.live = false → k.isProtected = v → served (Ends s e .done []))
      ∧ (k.state.live = false → k.isProtected ≠ v →
        (s.CatalogReady → served fun t => RecordAsked s e n (fun x => { x with isProtected := v })
          (.protect n k.isProtected) t ∧ CatalogWriteBegun s t .storeOperation)
        ∧ (s.takes.write ≠ none → served fun t => RecordAsked s e n (fun x => { x with isProtected := v })
          (.protect n k.isProtected) t ∧ CatalogWriteJoined s t .storeOperation)
        ∧ (s.CatalogStopped → served
          (RecordGivenBack s e n fun x => { x with isProtected := k.isProtected }))) := by
  intro n known served
  refine ⟨fun hstate => h.completes_refused _ (serveProtect_unmounted hstate),
    fun hmounted hknown => h.completes_refused _ (serveProtect_unknown (s := s.activate e.arrival) hr hmounted hknown),
    fun k hmounted hknown => ?_⟩
  have hnumber : k.number = n := Entry.named_number hknown
  have hserve := serveProtect_known (s := s.activate e.arrival) (v := v) hr hmounted hknown
  refine ⟨fun hlive => h.completes_refused _ (hserve.trans (if_pos hlive)), fun hlive hv => ?_, fun hlive hv => ?_⟩
  all_goals replace hserve := hserve.trans (if_neg (by simp [hlive]))
  · exact h.completes_done (hserve.trans (if_pos hv)) rfl rfl
  · replace hserve := hserve.trans (if_neg hv)
    rw [hnumber] at hserve
    exact h.completes_asked hc (fun _ => rfl) (fun _ => rfl) (StoreOpKind.protect_undoes n k.isProtected) hserve

/-- Settles O49: each request by its tests, then the catalog write as it starts, waits or fails. -/
theorem protectAndDeleteAskTheCatalog : Obligations.ProtectAndDeleteAskTheCatalog := by
  intro s e n known refused records ports asks protects
  have hrequired : e.code = .takeProtect ∨ e.code = .takeUnprotect ∨ e.code = .takeDelete → e.required = 1 :=
    fun hc => by rcases hc with hc | hc | hc <;> simp [Entry.required, hc]
  refine ⟨fun h => h.protects true (hrequired (.inl h.2.1)) rfl,
    fun h => h.protects false (hrequired (.inr (.inl h.2.1))) rfl, fun h => ?_⟩
  have hr := hrequired (.inr (.inr h.2.1))
  refine ⟨fun hstate => h.completes_refused _ (serveTakeDelete_unmounted hstate),
    fun hmounted hknown => h.completes_refused _ (serveTakeDelete_unknown (s := s.activate e.arrival) hr hmounted hknown),
    fun k hmounted hknown => ?_⟩
  have hnumber : k.number = n := Entry.named_number hknown
  have hserve := serveTakeDelete_known (s := s.activate e.arrival) hr hmounted hknown
  rw [hnumber] at hserve
  intro inUse
  refine ⟨fun hprotected => h.completes_refused _ (hserve.trans (if_pos hprotected)), fun hprotected hused => ?_,
    fun hprotected hfree => ?_⟩
  all_goals replace hserve := hserve.trans (if_neg (by simp [hprotected]))
  · exact h.completes_refused _ (hserve.trans (if_pos hused))
  · exact h.completes_asked rfl (fun _ => rfl) (fun _ => rfl) (StoreOpKind.delete_undoes n)
      (hserve.trans (if_neg hfree))

end Sys2Proof.Machine
end

section
/-!
The words of a take record's slot (R199, R200): each field read back, and the record loaded from its own slot.
-/

namespace Sys2Proof.Machine

/-! ## Words read back -/

section Words

theorem bitSet_natWord {n i : Nat} (h : n < 2 ^ 32) : bitSet (natWord n) i = n.testBit i := by
  rw [bitSet, natWord_toNat h]

/-- A bit of a number, as a digit. -/
theorem testBit_eq_digit (n i : Nat) : n.testBit i = decide (n / 2 ^ i % 2 = 1) := Nat.testBit_eq_decide_div_mod_eq

/-- The four bytes of a word are read back. -/
theorem byteWord_fields {a b c d : Nat} (ha : a < 256) (hb : b < 256) (hc : c < 256) (hd : d < 256) :
    field (byteWord a b c d) 31 24 = a ∧ field (byteWord a b c d) 23 16 = b ∧ field (byteWord a b c d) 15 8 = c
      ∧ field (byteWord a b c d) 7 0 = d := by
  have hlt : a * 2 ^ 24 + b * 2 ^ 16 + c * 2 ^ 8 + d < 2 ^ 32 := by omega
  simp only [byteWord, field_natWord hlt]
  omega

/-- A sum of distinct powers of two has the bits it names. -/
theorem testBit_sum_range (p : Nat → Bool) (n : Nat) :
    ((List.range n).map fun i => if p i then 2 ^ i else 0).sum < 2 ^ n
      ∧ ∀ j, ((List.range n).map fun i => if p i then 2 ^ i else 0).sum.testBit j = (decide (j < n) && p j) := by
  induction n with
  | zero => simp
  | succ n ih =>
    obtain ⟨hlt, hbits⟩ := ih
    have hsum : ((List.range (n + 1)).map fun i => if p i then 2 ^ i else 0).sum
        = 2 ^ n * (p n).toNat + ((List.range n).map fun i => if p i then 2 ^ i else 0).sum := by
      rw [List.range_succ, List.map_append, List.sum_append, Nat.add_comm]
      cases hp : p n <;> simp [hp]
    refine ⟨?_, fun j => ?_⟩
    · have hle : (p n).toNat ≤ 1 := Bool.toNat_le _
      have := Nat.mul_le_mul_left (2 ^ n) hle
      rw [hsum, Nat.pow_succ]
      omega
    · rw [hsum, Nat.testBit_two_pow_mul_add _ hlt, hbits]
      by_cases hj : j < n
      · simp [hj, Nat.lt_succ_of_lt hj]
      · rcases Nat.lt_or_eq_of_le (Nat.not_lt.mp hj) with hgt | rfl
        · have hbig : (p n).toNat < 2 ^ (j - n) :=
            (Bool.toNat_lt _).trans_le (Nat.le_self_pow (by omega) 2)
          simp [hj, Nat.testBit_lt_two_pow hbig, show ¬ j < n + 1 by omega]
        · cases p n <;> simp

end Words

/-! ## The parts of a slot -/

section Parts

theorem labelWords_length (n : Nat) : ∀ cs : List Nat, (labelWords n cs).length = n := by
  induction n with
  | zero => exact fun _ => rfl
  | succ n ih => exact fun cs => congrArg Nat.succ (ih _)

theorem labelWords_getD (n : Nat) : ∀ (cs : List Nat) (j : Nat), j < n → (labelWords n cs).getD j 0
    = byteWord (cs.getD (4 * j) 0) (cs.getD (4 * j + 1) 0) (cs.getD (4 * j + 2) 0) (cs.getD (4 * j + 3) 0) := by
  induction n with
  | zero => exact fun _ _ h => absurd h (Nat.not_lt_zero _)
  | succ n ih =>
    intro cs j hj
    cases j with
    | zero => rfl
    | succ j =>
      rw [labelWords, List.getD_cons_succ, ih _ _ (Nat.lt_of_succ_lt_succ hj)]
      simp only [List.getD_eq_getElem?_getD, List.getElem?_drop]
      congr 3 <;> omega

theorem pauseWords_length (n : Nat) : ∀ ps : List Interval, (pauseWords n ps).length = 2 * n := by
  induction n with
  | zero => exact fun _ => rfl
  | succ n ih =>
    intro ps
    cases ps <;> simp only [pauseWords, List.length_cons, ih] <;> omega

/-- The two words of a pause, 0 where there is none. -/
theorem pauseWords_getD (n : Nat) : ∀ (ps : List Interval) (i : Nat), i < n →
    (pauseWords n ps).getD (2 * i) 0 = natWord (((ps[i]?).map Interval.start).getD 0)
      ∧ (pauseWords n ps).getD (2 * i + 1) 0 = natWord (((ps[i]?).bind Interval.stop).getD 0) := by
  induction n with
  | zero => exact fun _ _ h => absurd h (Nat.not_lt_zero _)
  | succ n ih =>
    intro ps i hi
    cases i with
    | zero => cases ps <;> exact ⟨rfl, rfl⟩
    | succ i =>
      have hnext := fun qs => ih qs i (Nat.lt_of_succ_lt_succ hi)
      cases ps with
      | nil => exact hnext []
      | cons p ps => exact hnext ps

/-- A label's characters are read back, up to the first byte of 0 (R200). -/
theorem wordCodes_labelWords (n : Nat) : ∀ cs : List Nat, cs.length ≤ 4 * n → (∀ c ∈ cs, c ≠ 0 ∧ c < 256) →
    (wordCodes (labelWords n cs)).takeWhile (· ≠ 0) = cs := by
  induction n with
  | zero =>
    intro cs hlen _
    rw [List.eq_nil_of_length_eq_zero (Nat.le_zero.mp hlen)]
    rfl
  | succ n ih =>
    intro cs hlen hcs
    have hbyte : ∀ i, cs.getD i 0 < 256 := fun i => by
      rw [List.getD_eq_getElem?_getD]
      cases hi : cs[i]? with
      | none => exact Nat.zero_lt_succ _
      | some c => exact (hcs c (List.mem_of_getElem? hi)).2
    obtain ⟨h0, h1, h2, h3⟩ := byteWord_fields (hbyte 0) (hbyte 1) (hbyte 2) (hbyte 3)
    rw [labelWords, wordCodes, h0, h1, h2, h3]
    clear h0 h1 h2 h3 hbyte
    obtain - | ⟨a, - | ⟨b, - | ⟨c, - | ⟨d, rest⟩⟩⟩⟩ := cs
    · simp
    · simp [(hcs a (by simp)).1]
    · simp [(hcs a (by simp)).1, (hcs b (by simp)).1]
    · simp [(hcs a (by simp)).1, (hcs b (by simp)).1, (hcs c (by simp)).1]
    · have hrest := ih rest (by simp only [List.length_cons] at hlen; omega) fun x hx => hcs x (by simp [hx])
      simpa [(hcs a (by simp)).1, (hcs b (by simp)).1, (hcs c (by simp)).1, (hcs d (by simp)).1] using hrest

/-- A pause list is read back, up to the first pair whose start is 0 (R200). -/
theorem pausesOf_pauseWords (n : Nat) : ∀ ps : List Interval, ps.length ≤ n →
    (∀ i ∈ ps, 1 ≤ i.start ∧ i.start < 2 ^ 32 ∧ ∀ e ∈ i.stop, 1 ≤ e ∧ e < 2 ^ 32) →
    pausesOf (pauseWords n ps) = ps := by
  have hword : ∀ m : Nat, 1 ≤ m → m < 2 ^ 32 → natWord m ≠ 0 := fun m h1 hlt h0 => by
    have hm := congrArg BitVec.toNat h0
    rw [natWord_toNat hlt] at hm
    exact absurd hm (by simp; omega)
  induction n with
  | zero =>
    intro ps hlen _
    rw [List.eq_nil_of_length_eq_zero (Nat.le_zero.mp hlen)]
    rfl
  | succ n ih =>
    intro ps hlen hps
    cases ps with
    | nil => rfl
    | cons p ps =>
      obtain ⟨hs1, hs, hstop⟩ := hps p (by simp)
      rw [pauseWords, pausesOf, if_neg (hword _ hs1 hs), ih ps (Nat.le_of_succ_le_succ hlen) fun i hi => hps i (by simp [hi]),
        natWord_toNat hs]
      congr 1
      obtain ⟨start, stop⟩ := p
      cases stop with
      | none => rfl
      | some e =>
        obtain ⟨he1, he⟩ := hstop e rfl
        simp only [Option.getD_some, if_neg (hword e he1 he), natWord_toNat he]

theorem trackWord_bits (set : List Nat) (j : Nat) {i : Nat} (hi : i < 32) :
    bitSet (trackWord set j) i = set.contains (32 * j + i) := by
  obtain ⟨hlt, hbits⟩ := testBit_sum_range (fun i => set.contains (32 * j + i)) 32
  rw [trackWord, bitSet_natWord hlt, hbits, decide_eq_true hi, Bool.true_and]

/-- A track set in ascending order is read back from its four words (R199). -/
theorem trackSetOf_trackWords {set : List Nat} (hsorted : set.Pairwise (· < ·)) (hset : ∀ n ∈ set, n < 128) :
    trackSetOf (trackWord set 0) (trackWord set 1) (trackWord set 2) (trackWord set 3) = set := by
  refine List.Pairwise.eq_of_mem_iff (r := (· < ·)) (List.Pairwise.filter _ List.pairwise_lt_range) hsorted fun n => ?_
  have hbit : n < 128 →
      bitSet ([trackWord set 0, trackWord set 1, trackWord set 2, trackWord set 3].getD (n / 32) 0) (n % 32)
        = set.contains n := fun hn => by
    have hword : ∀ q, q < 4 → [trackWord set 0, trackWord set 1, trackWord set 2, trackWord set 3].getD q 0
        = trackWord set q := fun q hq => by interval_cases q <;> rfl
    rw [hword _ (by omega), trackWord_bits set _ (by omega), Nat.div_add_mod]
  simp only [trackSetOf, List.mem_filter, List.mem_range]
  refine ⟨fun ⟨hn, hb⟩ => ?_, fun hn => ⟨hset n hn, ?_⟩⟩
  · rw [hbit hn] at hb
    simpa using hb
  · rw [hbit (hset n hn)]
    simpa using hn

end Parts

end Sys2Proof.Machine
end

section
/-!
TAKE_LIST, STORE_STATUS, UNIT_STATUS and QUERY (R95, R126, R191, R192, R197), and a take record's slot as a whole (R199,
R200).
-/

namespace Sys2Proof.Machine

/-! ## A slot -/

section Slot

variable {k : TakeRecord}

theorem TakeState.code_lt (x : TakeState) : x.code < 5 := by cases x <;> decide

theorem TakeState.ofCode_code (x : TakeState) : TakeState.ofCode x.code = x := by cases x <;> rfl

theorem TakeRecord.slotWords_length (k : TakeRecord) : k.slotWords.length = 48 := by
  simp [TakeRecord.slotWords, TakeRecord.summaryWords, labelWords_length, pauseWords_length, Config.pauseCap]

theorem TakeRecord.slotWords_drop (k : TakeRecord) :
    k.slotWords.drop 8 = labelWords 8 (k.label.getD []) ++ pauseWords 16 k.pauses := rfl

theorem TakeRecord.slotWords_drop_pauses (k : TakeRecord) : k.slotWords.drop 16 = pauseWords 16 k.pauses := rfl

theorem TakeRecord.slotWords_track (k : TakeRecord) {j : Nat} (hj : j < 4) :
    k.slotWords.getD (4 + j) 0 = trackWord k.trackSet j := by
  interval_cases j <;> rfl

theorem TakeRecord.slotWords_label (k : TakeRecord) {j : Nat} (hj : j < 8) :
    k.slotWords.getD (8 + j) 0 = (labelWords 8 (k.label.getD [])).getD j 0 := by
  have hdrop : k.slotWords.getD (8 + j) 0 = (k.slotWords.drop 8).getD j 0 := by
    simp only [List.getD_eq_getElem?_getD, List.getElem?_drop]
  rw [hdrop, k.slotWords_drop, List.getD_append _ _ _ _ (by rwa [labelWords_length])]

theorem TakeRecord.slotWords_pause (k : TakeRecord) (j : Nat) :
    k.slotWords.getD (16 + j) 0 = (pauseWords 16 k.pauses).getD j 0 := by
  rw [← k.slotWords_drop_pauses]
  simp only [List.getD_eq_getElem?_getD, List.getElem?_drop]

/-- The flags, state and page count of slot word 1 (R199). -/
theorem TakeRecord.flagWord_fields (h : k.pageCount ≤ 16777216) :
    let w := k.slotWords.getD 1 0
    bitSet w 31 = false ∧ bitSet w 30 = k.endIndex.isSome ∧ bitSet w 29 = decide (k.rate = .k96)
      ∧ bitSet w 28 = k.isProtected ∧ field w 27 25 = k.state.code ∧ field w 24 0 = k.pageCount := by
  intro w
  have hstate := k.state.code_lt
  have hend : k.endIndex.isSome.toNat ≤ 1 := Bool.toNat_le _
  have hprotected : k.isProtected.toNat ≤ 1 := Bool.toNat_le _
  have hrate : k.rate.code = (decide (k.rate = .k96)).toNat := by cases k.rate <;> rfl
  have hrate' : (decide (k.rate = .k96)).toNat ≤ 1 := Bool.toNat_le _
  have hw : w = natWord (k.endIndex.isSome.toNat * 2 ^ 30 + (decide (k.rate = .k96)).toNat * 2 ^ 29
      + k.isProtected.toNat * 2 ^ 28 + k.state.code * 2 ^ 25 + k.pageCount) := by
    rw [← hrate]
    rfl
  have hlt : k.endIndex.isSome.toNat * 2 ^ 30 + (decide (k.rate = .k96)).toNat * 2 ^ 29
      + k.isProtected.toNat * 2 ^ 28 + k.state.code * 2 ^ 25 + k.pageCount < 2 ^ 32 := by omega
  have hflag : ∀ (b : Bool) (n : Nat), n = b.toNat → decide (n = 1) = b := by rintro (_ | _) _ rfl <;> rfl
  rw [hw]
  simp only [bitSet_natWord hlt, field_natWord hlt, testBit_eq_digit]
  refine ⟨hflag false _ ?_, hflag _ _ ?_, hflag _ _ ?_, hflag _ _ ?_, ?_, ?_⟩
  · show _ = 0
    omega
  all_goals omega

/-- The number and the loss count of slot word 0 (R199). -/
theorem TakeRecord.numberWord_fields (hnumber : k.number < 65536) (hloss : k.lossCount < 65536) :
    field (k.slotWords.getD 0 0) 31 16 = k.number ∧ field (k.slotWords.getD 0 0) 15 0 = k.lossCount := by
  have hw : k.slotWords.getD 0 0 = natWord (k.number * 2 ^ 16 + k.lossCount) := rfl
  have hlt : k.number * 2 ^ 16 + k.lossCount < 2 ^ 32 := by omega
  rw [hw, field_natWord hlt, field_natWord hlt]
  omega

theorem TakeRecord.packetWord_toNat (h : k.packetCount < 2 ^ 32) : (k.slotWords.getD 2 0).toNat = k.packetCount :=
  natWord_toNat h

theorem TakeRecord.endWord_toNat (h : ∀ i ∈ k.endIndex, i < 2 ^ 32) :
    (k.slotWords.getD 3 0).toNat = k.endIndex.getD 0 := by
  refine natWord_toNat ?_
  cases hi : k.endIndex with
  | none => exact Nat.two_pow_pos _
  | some i => exact h i hi

/-- A label's characters, four to a word (R200). -/
theorem TakeRecord.labelWord_fields (h : ∀ c ∈ k.label.getD [], c < 256) {i : Nat} (hi : i < 32) :
    field (k.slotWords.getD (8 + i / 4) 0) (31 - 8 * (i % 4)) (24 - 8 * (i % 4)) = (k.label.getD []).getD i 0 := by
  have hbyte : ∀ j, (k.label.getD []).getD j 0 < 256 := fun j => by
    rw [List.getD_eq_getElem?_getD]
    cases hj : (k.label.getD [])[j]? with
    | none => exact Nat.zero_lt_succ _
    | some c => exact h c (List.mem_of_getElem? hj)
  rw [k.slotWords_label (by omega), labelWords_getD _ _ _ (by omega)]
  obtain ⟨h0, h1, h2, h3⟩ := byteWord_fields (hbyte (4 * (i / 4))) (hbyte (4 * (i / 4) + 1)) (hbyte (4 * (i / 4) + 2))
    (hbyte (4 * (i / 4) + 3))
  have hsplit := Nat.div_add_mod i 4
  have hr : i % 4 < 4 := Nat.mod_lt _ (by decide)
  generalize i / 4 = q at *
  generalize i % 4 = r at *
  subst hsplit
  interval_cases r
  · exact h0
  · exact h1
  · exact h2
  · exact h3

theorem labelOf_of_codes {ws : List Word} {label : Option (List Nat)}
    (h : (wordCodes ws).takeWhile (· ≠ 0) = label.getD []) (hne : label ≠ some []) : labelOf ws = label := by
  unfold labelOf
  rw [h]
  obtain - | - | ⟨c, cs⟩ := label
  · rfl
  · exact absurd rfl hne
  · rfl

/-- The label of a record that a slot can hold is read back (R200). -/
theorem labelOf_labelWords {label : Option (List Nat)}
    (h : ∀ l ∈ label, l ≠ [] ∧ l.length ≤ 32 ∧ ∀ c ∈ l, 32 ≤ c ∧ c ≤ 126) :
    labelOf (labelWords 8 (label.getD [])) = label := by
  have hprintable : ∀ c ∈ label.getD [], c ≠ 0 ∧ c < 256 := fun c hc => by
    cases label with
    | none => cases hc
    | some l =>
      obtain ⟨h32, h126⟩ := (h l rfl).2.2 c hc
      omega
  have hfits : (label.getD []).length ≤ 4 * 8 := by
    cases label with
    | none => exact Nat.zero_le _
    | some l => exact (h l rfl).2.1
  exact labelOf_of_codes (wordCodes_labelWords 8 _ hfits hprintable) fun hnil => (h [] hnil).1 rfl

/-- A record loads from its own slot (R81, R199, R200). -/
theorem TakeRecord.ofSlot_slotWords (h : k.Storable) :
    TakeRecord.ofSlot k.slotWords = { k with begun := true, firstExtent := none, deleting := false } := by
  obtain ⟨hnumber, hloss, hpages, hpackets, hend, hsorted, hset, hlabel, hcap, hpauses⟩ := h
  obtain ⟨hn, hl⟩ := TakeRecord.numberWord_fields hnumber hloss
  obtain ⟨-, h30, h29, h28, hstate, hcount⟩ := TakeRecord.flagWord_fields hpages
  have hlabels : (k.slotWords.drop 8).take 8 = labelWords 8 (k.label.getD []) := by
    rw [k.slotWords_drop, List.take_append_of_le_length (by rw [labelWords_length]),
      List.take_of_length_le (by rw [labelWords_length])]
  have hpausesWords : (k.slotWords.drop 16).take 32 = pauseWords 16 k.pauses := by
    rw [k.slotWords_drop_pauses, List.take_of_length_le (by rw [pauseWords_length])]
  have hset' : trackSetOf (k.slotWords.getD 4 0) (k.slotWords.getD 5 0) (k.slotWords.getD 6 0) (k.slotWords.getD 7 0)
      = k.trackSet := trackSetOf_trackWords hsorted hset
  unfold TakeRecord.ofSlot
  dsimp only
  rw [hn, hl, h30, h29, h28, hstate, hcount, hlabels, hpausesWords, hset', k.state.ofCode_code,
    TakeRecord.packetWord_toNat hpackets, TakeRecord.endWord_toNat hend, labelOf_labelWords hlabel,
    pausesOf_pauseWords 16 k.pauses hcap hpauses]
  congr 1
  · cases k.rate <;> rfl
  · cases k.endIndex <;> rfl

end Slot

/-! ## The presence states in one word -/

theorem Presence.code_lt (p : Presence) : p.code < 4 := by cases p <;> decide

theorem presence_digit (n : Nat) : ∀ (rs : List SourceRecord) (r : SourceRecord), rs[n]? = some r →
    (rs.foldr (fun r n => 4 * n + r.presence.code) 0) / 4 ^ n % 4 = r.presence.code := by
  induction n with
  | zero =>
    intro rs r hr
    obtain - | ⟨x, rs⟩ := rs
    · cases hr
    · obtain rfl := Option.some.inj hr
      have := x.presence.code_lt
      simp only [List.foldr_cons, Nat.pow_zero, Nat.div_one]
      omega
  | succ n ih =>
    intro rs r hr
    obtain - | ⟨x, rs⟩ := rs
    · cases hr
    · have hx := x.presence.code_lt
      have hstep : (4 * (rs.foldr (fun r n => 4 * n + r.presence.code) 0) + x.presence.code) / 4 ^ (n + 1)
          = (rs.foldr (fun r n => 4 * n + r.presence.code) 0) / 4 ^ n := by
        rw [Nat.pow_succ', ← Nat.div_div_eq_div_mul]
        congr 1
        omega
      rw [List.foldr_cons, hstep]
      exact ih rs r hr

/-- Each of the first sixteen sources has its presence state in two bits (R192, R197). -/
theorem SourceMonitor.presenceWord_field {m : SourceMonitor} {n : Nat} {r : SourceRecord} (hn : n < 16)
    (hr : m.records[n]? = some r) : field m.presenceWord (2 * n + 1) (2 * n) = r.presence.code := by
  rw [← presence_digit n m.records r hr]
  generalize hv : m.records.foldr (fun r n => 4 * n + r.presence.code) 0 = v
  have hw : m.presenceWord.toNat = v % 2 ^ 32 := by
    rw [SourceMonitor.presenceWord, hv, natWord, BitVec.toNat_ofNat]
  have hfour : 4 ^ n = 2 ^ (2 * n) := by rw [Nat.pow_mul]
  rw [field, hw, hfour, show 2 * n + 1 + 1 - 2 * n = 2 by omega]
  interval_cases n <;> omega

/-! ## TAKE_LIST -/

section TakeList

variable {s : State} {e : Entry} {k : TakeRecord}

theorem serveTakeList_eq (hr : e.required = 1) : serveTakeList e s
    = if s.store.state ≠ .mounted then s.refuse e .wrongState
      else if e.operands = [] then s.refuse e .badOperand
      else if bitSet (e.op 0) 16 = true then
        match s.takes.known e.takeNumber with
        | some t => s.done e (s.detailWords t)
        | none => s.refuse e .badOperand
      else s.done e (s.listWords e.takeNumber) :=
  if_congr Iff.rfl rfl (if_congr (Entry.short_of_required hr) rfl rfl)

/-- A take that is known is one of those that are not being deleted (R94, R95). -/
theorem TakeController.known_eq (c : TakeController) (n : Nat) :
    c.known n = (c.records.filter fun t => !t.deleting).find? fun t => t.number = n := by
  rw [List.find?_filter, TakeController.known]
  congr 1
  funext t
  cases t.deleting <;> simp

theorem State.listWords_eq (s : State) (n : Nat) :
    let kept := s.takes.records.filter fun k => !k.deleting
    let named := kept.filter fun k => decide (n ≤ k.number)
    s.listWords n = [natWord kept.length, natWord s.takes.nextTake]
      ++ (named.take 8).flatMap (fun k => k.slotWords.take 4
        ++ [natWord (s.store.extentCount k.number * 256 + k.pauses.length)])
      ++ [if 8 < named.length then 1 else 0] := by
  intro kept named
  have hmore : boolWord (decide (8 < named.length)) = if 8 < named.length then 1 else 0 := by simp [boolWord]
  rw [← hmore]
  rfl

theorem State.detailWords_eq (s : State) (k : TakeRecord) : s.detailWords k = k.slotWords ++ [match k.firstExtent with
      | some x => natWord (x / 32768 * 65536 + x % 32768)
      | none => 0xFFFFFFFF, natWord (s.store.extentCount k.number)] := by
  unfold State.detailWords
  cases k.firstExtent <;> rfl

end TakeList

/-! ## STORE_STATUS -/

section StoreStatus

theorem StagingPage.statusWords_eq (p : StagingPage) : p.statusWords = natWord p.state.code
    :: if p.state = .empty then [0xFFFFFFFF, 0xFFFFFFFF] else [natWord p.pageSeq, natWord (4 + p.words.length)] := by
  unfold StagingPage.statusWords
  split <;> rfl

theorem StoreController.countState_eq (c : StoreController) (x : ExtentState) :
    c.countState x = c.table.countP fun y => y.2.state = x := List.countP_eq_length_filter.symm

/-- The erase in flight as STORE_STATUS names it (R126, log 20). -/
theorem StoreController.eraseWord_eq (c : StoreController) : c.eraseWord = match c.inFlight.map PortJob.op with
    | some (.catalogErase x) | some (.eraserErase x) | some (.formatErase x) =>
      natWord (x / 32768 * 65536 + x % 32768)
    | _ => 0xFFFFFFFF := by
  unfold StoreController.eraseWord
  cases hj : c.inFlight with
  | none => rfl
  | some j =>
    obtain ⟨op, rows⟩ := j
    cases op <;> rfl

theorem State.storeWords_eq (s : State) :
    let c := s.store
    let states := fun x : ExtentState => natWord (c.table.countP fun y => y.2.state = x)
    let page := fun p : StagingPage => natWord p.state.code
      :: if p.state = .empty then [0xFFFFFFFF, 0xFFFFFFFF] else [natWord p.pageSeq, natWord (4 + p.words.length)]
    s.storeWords = [natWord c.state.code, if s.liveTake = none then 0xFFFFFFFF else boolWord c.stalled]
      ++ c.modules.map (fun m => natWord m.code)
      ++ [states .free, states .owned, states .dirty, states .bad, states .catalog, states .fault,
        natWord c.freeList.length, natWord c.queue.length]
      ++ page c.pageA ++ page c.pageB
      ++ [boolWord c.verify, natWord c.backlog, natWord c.holdTime, natWord c.lowMark,
        natWord s.takes.catCurrent, natWord s.takes.catNext, natWord s.takes.catSeq, c.eraseWord,
        natWord c.programFailures, natWord c.verifyMismatches, natWord c.relocations,
        natWord c.eraseFailures, natWord c.expiries] := by
  have hstalled : (if s.liveTake.isSome = true then boolWord s.store.stalled else Word.ones)
      = if s.liveTake = none then 0xFFFFFFFF else boolWord s.store.stalled := by
    cases s.liveTake <;> rfl
  simp only [State.storeWords, hstalled, StagingPage.statusWords_eq, StoreController.countState_eq, Settings.words,
    List.map_cons, List.map_nil, List.append_assoc, List.cons_append, List.nil_append]

theorem serveStoreStatus_good {s : State} {e : Entry} (h : ¬ e.short = true) : serveStoreStatus e s
    = State.done (if bitSet (e.op 0) 0 then { s with store := s.store.clearCounts } else s) e s.storeWords := if_neg h

end StoreStatus

/-! ## UNIT_STATUS -/

section UnitStatus

theorem holderWord_eq (h : Option Station) : holderWord h = match h with
    | some h => natWord ((if h.origin = .stage then 1 else 2) * 256 + h.station)
    | none => (0xFFFFFFFF : Word) := by
  cases h with
  | none => rfl
  | some h =>
    obtain ⟨origin, station⟩ := h
    cases origin <;> rfl

/-- The requests ACTIVE at a service: those that were, and the one being served (R191, log 21). -/
theorem State.activate_active (s : State) (a : Nat) :
    ((s.activate a).requests.entries.filter Entry.active).length
      = s.requests.entries.countP fun x => x.active || x.arrival = a := by
  rw [← List.countP_eq_length_filter, State.activate_requests, List.countP_map]
  congr 1
  funext x
  by_cases hx : x.arrival = a <;> simp [hx]

theorem State.unitWords_activate (s : State) (a : Nat) :
    let l := s.link
    let per := fun c : RxCounts => [natWord c.stage, natWord c.through, natWord c.program]
    (s.activate a).unitWords = [natWord s.unit, if s.rate = .k48 then 0 else 1, natWord s.store.state.code,
        (s.liveTake.map fun k => natWord k.number).getD 0xFFFFFFFF,
        boolWord l.stageUp, boolWord l.throughUp, boolWord l.programUp]
      ++ per l.accepted ++ per l.stray ++ per l.framing ++ per l.abandoned ++ per l.checkFailures
      ++ [natWord l.wrongKindThrough, natWord l.wrongKindProgram, natWord l.misaddressed,
        natWord l.repeatDrops, natWord l.relayDrops, natWord l.stageReplyDrops,
        natWord l.programReplyDrops, s.sources.presenceWord]
      ++ s.stream.map (fun b => natWord b.drops)
      ++ [natWord s.requests.entries.length,
        natWord (s.requests.entries.countP fun x => x.active || x.arrival = a),
        holderWord s.requests.reserveConfig, holderWord s.requests.reserveStore,
        boolWord s.requests.storeOp.isSome, boolWord s.readout.busy,
        natWord s.requests.broadcastRefused] := by
  have hlength : (s.activate a).requests.entries.length = s.requests.entries.length := by
    simp [State.activate_requests]
  have hrate : natWord s.rate.code = if s.rate = .k48 then 0 else 1 := by cases s.rate <;> rfl
  have hlive : optWord (s.liveTake.map TakeRecord.number)
      = (s.liveTake.map fun k => natWord k.number).getD 0xFFFFFFFF := by cases s.liveTake <;> rfl
  intro l per
  rw [← hlength, ← s.activate_active a, ← hrate, ← hlive]
  simp only [State.unitWords, LinkUnit.countWords, RxCounts.words, List.append_assoc, List.cons_append,
    List.nil_append]
  rfl

theorem serveUnitStatus_good {s : State} {e : Entry} (h : ¬ e.short = true) : serveUnitStatus e s
    = State.done (if bitSet (e.op 0) 0 then s.clearUnitCounts else s) e s.unitWords := if_neg h

end UnitStatus

/-! ## QUERY -/

section Query

variable {s : State} {e : Entry}

theorem serveQuery_bad (hr : e.required = 1) (hbad : e.operands = []
      ∨ (field (e.op 0) 31 24 ≠ 1 ∧ field (e.op 0) 31 24 ≠ 2) ∨ 7 < field (e.op 0) 23 16) :
    serveQuery e s = s.refuse e .badOperand := by
  unfold serveQuery
  dsimp only
  split
  · rfl
  · rename_i o ho
    refine if_pos ?_
    by_contra hstation
    split at ho
    · cases ho
    · rename_i hshort
      rcases hbad with hempty | ⟨h1, h2⟩ | h7
      · exact hshort ((Entry.short_of_required hr).mpr hempty)
      · unfold Origin.ofCode at ho
        split at ho
        · exact h1 ‹_›
        · exact h2 ‹_›
        · cases ho
      · exact hstation h7

theorem serveQuery_good (hr : e.required = 1) (hgood : ¬ (e.operands = []
      ∨ (field (e.op 0) 31 24 ≠ 1 ∧ field (e.op 0) 31 24 ≠ 2) ∨ 7 < field (e.op 0) 23 16)) :
    serveQuery e s = s.done e [natWord (s.queryValue (if field (e.op 0) 31 24 = 1 then .stage else .program)
      (field (e.op 0) 23 16) (field (e.op 0) 15 8))] := by
  obtain ⟨hne, hgood⟩ := not_or.mp hgood
  obtain ⟨horigin, hstation⟩ := not_or.mp hgood
  have hshort : ¬ e.short = true := by rwa [Entry.short_of_required hr]
  have ho : Origin.ofCode (field (e.op 0) 31 24)
      = some (if field (e.op 0) 31 24 = 1 then .stage else .program) := by
    by_cases h1 : field (e.op 0) 31 24 = 1
    · rw [h1]
      rfl
    · have h2 : field (e.op 0) 31 24 = 2 := by
        by_contra h2
        exact horigin ⟨h1, h2⟩
      rw [h2]
      rfl
  unfold serveQuery
  dsimp only
  rw [if_neg hshort, ho]
  exact if_neg hstation

/-- QUERY at its service counts itself ACTIVE (R191, log 21). -/
theorem State.queryValue_activate (s : State) (a : Nat) (o : Origin) (station number : Nat) :
    natWord ((s.activate a).queryValue o station number)
      = match s.requests.entries.find? fun x => x.is o station number with
        | none => 2
        | some x => if x.active || x.arrival = a then 1 else 0 := by
  have his : ((fun x : Entry => x.is o station number)
      ∘ fun x : Entry => if x.arrival = a then { x with active := true } else x) = fun x => x.is o station number := by
    funext x
    rw [Function.comp_apply]
    split <;> rfl
  unfold State.queryValue
  rw [State.activate_requests, List.find?_map, his]
  cases s.requests.entries.find? fun x => x.is o station number with
  | none => rfl
  | some x => by_cases hx : x.arrival = a <;> cases hactive : x.active <;> simp [hx, hactive, natWord]

end Query

/-- Settles O46: each read by its tests, its words and what it clears; the presence states and the slot field by
field. -/
theorem storeAndUnitReads : Obligations.StoreAndUnitReads := by
  intro s e
  have hrequired : ∀ c, Served s c e → c = .takeList ∨ c = .storeStatus ∨ c = .unitStatus ∨ c = .query →
      e.required = 1 := fun c h hc => by rcases hc with rfl | rfl | rfl | rfl <;> simp [Entry.required, h.2.1]
  refine ⟨fun h => ?_, fun h => ?_, fun h => ?_, fun h => ?_, fun n r hn hr => ?_, fun k hk => ?_⟩
  · have hserve := serveTakeList_eq (s := s.activate e.arrival) (hrequired _ h (.inl rfl))
    intro n kept named
    refine ⟨fun hstate => h.completes_refused _ (hserve.trans (if_pos hstate)), fun hmounted hop => ?_,
      fun hmounted hop hbit => ?_, fun hmounted hop hbit => ?_⟩
    all_goals replace hserve := hserve.trans (if_neg (not_not.mpr hmounted))
    · exact h.completes_refused _ (hserve.trans (if_pos hop))
    all_goals replace hserve := hserve.trans (if_neg hop)
    · rw [← s.listWords_eq n]
      exact h.completes_done (hserve.trans (if_neg (by simp [hbit]))) rfl rfl
    · replace hserve := hserve.trans (if_pos hbit)
      have hknown : (s.activate e.arrival).takes.known e.takeNumber = kept.find? fun k => k.number = n :=
        s.takes.known_eq n
      rw [hknown] at hserve
      refine ⟨fun hnone => ?_, fun k hk => ?_⟩
      · have hfind : (kept.find? fun k => k.number = n) = none :=
          List.find?_eq_none.mpr fun k hk hkn => hnone ⟨k, hk, by simpa using hkn⟩
        rw [hfind] at hserve
        exact h.completes_refused _ hserve
      · rw [hk] at hserve
        replace hserve := hserve.trans (congrArg (State.done (s.activate e.arrival) e) (s.detailWords_eq k))
        exact h.completes_done hserve rfl rfl
  · have hshort := Entry.short_of_required (hrequired _ h (.inr (.inl rfl)))
    intro c states erase page
    refine ⟨fun hop => h.completes_refused _ (if_pos (hshort.mpr hop)), fun hop => ?_⟩
    have hserve := serveStoreStatus_good (s := s.activate e.arrival) (mt hshort.mp hop)
    have hwords : (s.activate e.arrival).storeWords = s.storeWords := rfl
    have herase : erase = c.eraseWord := c.eraseWord_eq.symm
    rw [hwords, s.storeWords_eq] at hserve
    rw [herase]
    refine h.completes_done hserve ?_ ?_
    · split <;> rfl
    · split <;> rfl
  · have hshort := Entry.short_of_required (hrequired _ h (.inr (.inr (.inl rfl))))
    intro l per holder
    refine ⟨fun hop => h.completes_refused _ (if_pos (hshort.mpr hop)), fun hop => ?_⟩
    have hserve := serveUnitStatus_good (s := s.activate e.arrival) (mt hshort.mp hop)
    rw [s.unitWords_activate, holderWord_eq, holderWord_eq] at hserve
    refine h.completes_done hserve ?_ ?_
    · split <;> rfl
    · split <;> rfl
  · have hr := hrequired _ h (.inr (.inr (.inr rfl)))
    intro origin station number bad o
    refine ⟨fun hbad => h.completes_refused _ (serveQuery_bad hr hbad), fun hgood => ?_⟩
    have hserve := serveQuery_good (s := s.activate e.arrival) hr hgood
    rw [s.queryValue_activate] at hserve
    exact h.completes_done hserve rfl rfl
  · rw [SourceMonitor.presenceWord_field hn hr]
    cases r.presence <;> rfl
  · obtain ⟨hnumber, hloss, hpages, hpackets, hend, -, -, hlabel, -, hpauses⟩ := id hk
    obtain ⟨h31, h30, h29, h28, hstate, hcount⟩ := TakeRecord.flagWord_fields hpages
    obtain ⟨hn, hl⟩ := TakeRecord.numberWord_fields hnumber hloss
    intro w
    have hlabels : ∀ c ∈ k.label.getD [], c < 256 := fun c hc => by
      cases hlab : k.label with
      | none => simp [hlab] at hc
      | some l =>
        rw [hlab] at hc
        obtain ⟨-, -, hcs⟩ := hlabel l hlab
        have := (hcs c hc).2
        omega
    refine ⟨k.slotWords_length, hn, hl, h31, h30, h29, h28, ?_, hcount, TakeRecord.packetWord_toNat hpackets,
      TakeRecord.endWord_toNat hend, fun n hn => ?_, fun i hi => TakeRecord.labelWord_fields hlabels hi,
      fun i hi => ?_, TakeRecord.ofSlot_slotWords hk⟩
    · rw [hstate]
      cases k.state <;> rfl
    · show bitSet (k.slotWords.getD (4 + n / 32) 0) (n % 32) = _
      rw [k.slotWords_track (by omega), trackWord_bits _ _ (by omega), Nat.div_add_mod]
    · obtain ⟨hstart, hstop⟩ := pauseWords_getD 16 k.pauses i hi
      have hw : k.slotWords.getD (17 + 2 * i) 0 = (pauseWords 16 k.pauses).getD (2 * i + 1) 0 := by
        rw [← k.slotWords_pause]
        congr 1
        omega
      show (k.slotWords.getD (16 + 2 * i) 0).toNat = _ ∧ (k.slotWords.getD (17 + 2 * i) 0).toNat = _
      rw [k.slotWords_pause, hw, hstart, hstop]
      cases hp : k.pauses[i]? with
      | none => exact ⟨rfl, rfl⟩
      | some p =>
        obtain ⟨-, hlt, hstop⟩ := hpauses p (List.mem_of_getElem? hp)
        refine ⟨natWord_toNat hlt, ?_⟩
        cases hpstop : p.stop with
        | none => simp [hpstop, natWord]
        | some e => simpa [hpstop] using natWord_toNat (hstop e hpstop).2

end Sys2Proof.Machine
end

section
/-!
The ends of module operations at the store (R103, R107, R111, R114): what the end and the freed port leave, an entry of
the extent table replaced, the chain of a take, and a page that goes to a new extent.
-/

namespace Sys2Proof.Machine

/-! ## An operation has ended -/

/-- `x` differs from `s` at most in the modules' contents and in the operations at the store port. -/
def EndedSide (s x : State) : Prop :=
  ∃ freeCount flash inFlight waiting, x = { s with
    freeCount := freeCount, flash := flash, store := { s.store with inFlight := inFlight, waiting := waiting } }

section Ended

variable {s t x : State} {op : PortOp} {ok g : Bool}

theorem FlashSide.eq (h : FlashSide s x) : x = { s with freeCount := x.freeCount, flash := x.flash } := by
  cases s
  cases x
  obtain ⟨h1, h2, h3, h4, h5, h6, h7, h8, h9, h10, h11, h12, h13, h14⟩ := h
  dsimp only at h1 h2 h3 h4 h5 h6 h7 h8 h9 h10 h11 h12 h13 h14
  subst h1 h2 h3 h4 h5 h6 h7 h8 h9 h10 h11 h12 h13 h14
  rfl

theorem PortSide.flash (h : PortSide s t) : t.flash = s.flash := by
  obtain ⟨_, _, rfl⟩ := h
  rfl

/-- The end of an operation, and the port given on (R103, R118). -/
def State.freed (s : State) (op : PortOp) (ok g : Bool) : State := (s.operationEnds op ok).freePort g

theorem State.freed_side (s : State) (op : PortOp) (ok g : Bool) : EndedSide s (s.freed op ok g) := by
  unfold State.freed
  obtain ⟨_, _, hport⟩ := (s.operationEnds op ok).freePort_portSide g
  rw [hport, (s.operationEnds_side op ok).eq]
  exact ⟨_, _, _, _, rfl⟩

theorem State.freed_flash (s : State) (op : PortOp) (ok g : Bool) :
    (s.freed op ok g).flash = (s.operationEnds op ok).flash :=
  ((s.operationEnds op ok).freePort_portSide g).flash

/-- A success takes no free values (R103). -/
theorem State.freed_done (s : State) (op : PortOp) (g : Bool) : ∃ inFlight waiting, s.freed op true g
    = { s with flash := (s.operationDone op).flash
               store := { s.store with inFlight := inFlight, waiting := waiting } } := by
  have hcount : (s.operationDone op).freeCount = s.freeCount := by
    unfold State.operationDone
    split <;> rfl
  obtain ⟨i, w, hport⟩ := (s.operationDone op).freePort_portSide g
  refine ⟨i, w, ?_⟩
  show (s.operationDone op).freePort g = _
  rw [hport, (s.operationDone_side op).eq, hcount]

theorem State.AtPort.submit {other : PortOp} (h : s.AtPort op) : (s.submit other).AtPort op :=
  h.imp_left (List.mem_append_left _)

end Ended

/-! ## The extent table -/

section Table

variable {table : List (Nat × Extent)}

theorem lookup_map_keyed (f : Nat → Extent → Extent) (j : Nat) :
    (table.map fun y => (y.1, f y.1 y.2)).lookup j = (table.lookup j).map (f j) := by
  induction table with
  | nil => rfl
  | cons y ys ih =>
    rw [List.map_cons, List.lookup_cons, List.lookup_cons, ih]
    cases hj : j == y.1 with
    | false => rfl
    | true => rw [eq_of_beq hj]; rfl

theorem setExtent_eq_map (e : Nat) (x : Extent) :
    setExtent table e x = table.map fun y => (y.1, if y.1 = e then x else y.2) := by
  refine List.map_congr_left fun y _ => ?_
  split
  · rename_i h
    rw [h]
  · rfl

theorem lookup_setExtent_eq (e : Nat) (x : Extent) (j : Nat) :
    (setExtent table e x).lookup j = (table.lookup j).map fun y => if j = e then x else y := by
  rw [setExtent_eq_map]
  exact lookup_map_keyed (fun k y => if k = e then x else y) j

theorem mem_of_lookup {j : Nat} {x : Extent} (h : table.lookup j = some x) : ∃ y ∈ table, y.1 = j := by
  induction table with
  | nil => cases h
  | cons y ys ih =>
    rw [List.lookup_cons] at h
    cases hj : j == y.1 with
    | true => exact ⟨y, List.mem_cons_self, (eq_of_beq hj).symm⟩
    | false =>
      rw [hj] at h
      obtain ⟨z, hz, hzj⟩ := ih h
      exact ⟨z, List.mem_cons_of_mem _ hz, hzj⟩

variable {c : StoreController} {e : Nat}

theorem StoreController.freeList_eq (h : c.state ≠ .unmounted ∧ c.state ≠ .mounting) :
    c.freeList = (c.table.filter fun x => x.2.state = .free).map Prod.fst := by
  unfold StoreController.freeList
  split
  · exact absurd ‹c.state = .unmounted› h.1
  · exact absurd ‹c.state = .mounting› h.2
  all_goals rfl

theorem State.liveTake_formed {s : State} {k : TakeRecord} (h : s.liveTake = some k) :
    s.store.state ≠ .unmounted ∧ s.store.state ≠ .mounting := by
  refine ⟨fun hs => ?_, fun hs => ?_⟩ <;> simp [State.liveTake, hs] at h

/-- An extent that is freed where none was FREE is the head of the free list (R106). -/
theorem StoreController.freeList_freed (hformed : c.state ≠ .unmounted ∧ c.state ≠ .mounting)
    (hnone : c.freeList = []) (he : c.extent e ≠ none) : ∃ es,
      ({ c with table := setExtent c.table e ⟨.free, none⟩ } : StoreController).freeList = e :: es := by
  rw [StoreController.freeList_eq hformed, List.map_eq_nil_iff] at hnone
  rw [StoreController.freeList_eq (c := { c with table := setExtent c.table e ⟨.free, none⟩ }) hformed]
  obtain ⟨x, hx⟩ := Option.ne_none_iff_exists'.mp he
  obtain ⟨y, hy, hye⟩ := mem_of_lookup hx
  have hall : ∀ z ∈ (setExtent c.table e ⟨.free, none⟩).filter (fun x => x.2.state = .free), z.1 = e := by
    intro z hz
    obtain ⟨hmem, hfree⟩ := List.mem_filter.mp hz
    rw [setExtent_eq_map] at hmem
    obtain ⟨w, hw, rfl⟩ := List.mem_map.mp hmem
    by_contra hne
    have hw' : w ∈ c.table.filter fun x => x.2.state = .free :=
      List.mem_filter.mpr ⟨hw, by simpa [show w.1 ≠ e from hne] using hfree⟩
    rw [hnone] at hw'
    cases hw'
  have hin : (e, (⟨.free, none⟩ : Extent)) ∈ (setExtent c.table e ⟨.free, none⟩).filter fun x => x.2.state = .free :=
    List.mem_filter.mpr ⟨List.mem_map.mpr ⟨y, hy, if_pos hye⟩, by simp⟩
  show ∃ es, ((setExtent c.table e ⟨.free, none⟩).filter fun x => x.2.state = .free).map Prod.fst = e :: es
  generalize (setExtent c.table e ⟨.free, none⟩).filter (fun x => x.2.state = .free) = zs at hall hin
  obtain - | ⟨z, zs⟩ := zs
  · cases hin
  · exact ⟨zs.map Prod.fst, by rw [List.map_cons, hall z List.mem_cons_self]⟩

end Table

/-! ## The chain of a take -/

/-- One above the extent sequence of the extent found so far, and 0 where none is. -/
def nextAfter : Option (Nat × Owner) → Nat
  | some (_, o) => o.seq + 1
  | none => 0

theorem nextAfter_chainStep (take : Nat) (acc : Option (Nat × Owner)) (y : Nat × Extent) :
    nextAfter (chainStep take (fun _ => true) acc y) = max (nextAfter acc)
      ((((y.2.owner.toList).filter fun o => o.take = take).map fun o => o.seq + 1).foldr max 0) := by
  obtain ⟨n, st, - | o⟩ := y
  · simp [chainStep]
  by_cases htake : o.take = take
  · obtain - | ⟨m, q⟩ := acc
    · simp [chainStep, htake, nextAfter]
    · by_cases hlt : q.seq < o.seq
      · simp only [chainStep, htake, hlt, Option.all_some, decide_true, Bool.and_self, if_true, nextAfter,
          Option.toList_some, List.filter_singleton, cond_true, List.map_cons, List.map_nil, List.foldr_cons,
          List.foldr_nil]
        omega
      · simp only [chainStep, htake, hlt, Option.all_some, decide_true, decide_false, Bool.and_false,
          Bool.false_eq_true, if_false, nextAfter, Option.toList_some, List.filter_singleton, cond_true, List.map_cons,
          List.map_nil, List.foldr_cons, List.foldr_nil]
        omega
  · simp [chainStep, htake]

theorem foldr_max_append (as bs : List Nat) : (as ++ bs).foldr max 0 = max (as.foldr max 0) (bs.foldr max 0) := by
  induction as with
  | nil => simp
  | cons a as ih => rw [List.cons_append, List.foldr_cons, List.foldr_cons, ih, max_assoc]

theorem nextAfter_foldl (take : Nat) (ys : List (Nat × Extent)) : ∀ acc,
    nextAfter (ys.foldl (chainStep take fun _ => true) acc) = max (nextAfter acc)
      ((((ys.filterMap fun y => y.2.owner).filter fun o => o.take = take).map fun o => o.seq + 1).foldr max 0) := by
  induction ys with
  | nil => simp
  | cons y ys ih =>
    intro acc
    have hhead : (y :: ys).filterMap (fun y => y.2.owner)
        = y.2.owner.toList ++ ys.filterMap fun y => y.2.owner := by
      cases ho : y.2.owner <;> simp [ho]
    rw [List.foldl_cons, ih, nextAfter_chainStep, hhead, List.filter_append, List.map_append, foldr_max_append,
      max_assoc]

/-- A new extent's sequence is one above the highest of the take's chain (R107, R111). -/
theorem StoreController.nextSeq_eq_chainNext (c : StoreController) (take : Nat) : c.nextSeq take = c.chainNext take := by
  have hnext : c.nextSeq take = nextAfter (c.table.foldl (chainStep take fun _ => true) none) := by
    unfold StoreController.nextSeq StoreController.highest
    cases c.table.foldl (chainStep take fun _ => true) none <;> rfl
  rw [hnext, nextAfter_foldl]
  exact Nat.zero_max _

/-! ## A page that is submitted -/

/-- The image of a page in an extent of a given sequence (R104). -/
def StagingPage.imageIn (p : StagingPage) (seq : Nat) : PageImage :=
  { data := p.data, spare := spareOf p.take p.pageSeq seq p.data }

theorem StagingPage.imageIn_holds (p : StagingPage) (seq : Nat) : (p.imageIn seq).Holds p seq := ⟨p.data_eq, rfl⟩

section Submit

variable {s : State} {p : StagingPage} {ws : WriteState} {k : TakeRecord} {e : Nat} {es : List Nat}

/-- The store once a page has had the extent `e` allocated; after a failure of the page this is a relocation (R106,
R111, R126). -/
def StoreController.allocated (c : StoreController) (p : StagingPage) (ws : WriteState) (e : Nat) : StoreController :=
  { c with
    table := setExtent c.table e ⟨.owned, some ⟨p.take, c.nextSeq p.take, p.pageSeq⟩⟩
    writeState := some { ws with current := some e, writePage := 0, stalled := false }
    relocations := if p.failedBefore then countUp c.relocations 1 else c.relocations }

theorem StoreController.currentTarget_none {c : StoreController} (h : ∀ e x, ws.current = some e →
    c.extent e = some x → c.answers e = true → ws.writePage < 128 → x.state ≠ .owned) : c.currentTarget ws = none := by
  unfold StoreController.currentTarget
  split
  · rename_i e he
    refine if_neg fun hok => ?_
    simp only [Bool.and_eq_true, Option.any_eq_true, decide_eq_true_eq] at hok
    obtain ⟨⟨⟨x, hx, howned⟩, hanswers⟩, hpage⟩ := hok
    exact h e x he hx hanswers hpage howned
  · rfl

theorem StoreController.currentTarget_current {c : StoreController} {x : Extent} (he : ws.current = some e)
    (hx : c.extent e = some x) (howned : x.state = .owned) (hanswers : c.answers e = true) (hpage : ws.writePage < 128) :
    c.currentTarget ws = some ⟨e, ws.writePage⟩ := by
  have hp : ws.writePage < Config.extentPages := hpage
  simp only [StoreController.currentTarget, he, hx, hanswers, howned, hp, Option.any_some, decide_true,
    Bool.and_self, if_true]

theorem State.target_allocates (hcurrent : s.store.currentTarget ws = none) (hfree : s.store.freeList = e :: es) :
    s.target p ws = some (⟨e, 0⟩, { s with store := s.store.allocated p ws e }) := by
  simp only [State.target, hcurrent, State.allocate, hfree]
  cases hp : p.failedBefore <;> simp [StoreController.allocated, hp]

theorem StoreController.seqOf_allocated {c : StoreController} (hfree : c.freeList = e :: es) :
    (c.allocated p ws e).seqOf e = c.nextSeq p.take := by
  have hin : ∃ y ∈ c.table, y.1 = e := StoreController.mem_freeList (by rw [hfree]; exact List.mem_cons_self)
  have hextent : (c.allocated p ws e).extent e = some ⟨.owned, some ⟨p.take, c.nextSeq p.take, p.pageSeq⟩⟩ :=
    lookup_setExtent _ hin
  simp [StoreController.seqOf, hextent]

theorem State.submitA_goes {a : PageAddress} {t : State} (hws : s.store.writeState = some ws)
    (hA : s.store.pageA.state = .waiting) (hB : s.store.pageB.state = .empty)
    (ht : s.target s.store.pageA ws = some (a, t)) : s.submitA = ({ t with store := { t.store with
      pageA := { t.store.pageA with state := .programming, failedBefore := false } } }).submitPage
      s.store.pageA a := by
  have hready : s.store.pageA.ready s.store.pageB = true := by simp [StagingPage.ready, hA, hB]
  simp only [State.submitA, hws, hready, ht, if_true]

/-- A round with nothing to feed (R110). -/
theorem State.stagingRound_unfed (hlive : s.liveTake = some k) (hws : s.store.writeState = some ws)
    (hq : s.store.queue = []) (hA : s.store.pageA.state ≠ .filling) (hB : s.store.pageB.state ≠ .filling) :
    s.stagingRound = s.submitA.submitB := by
  simp only [State.stagingRound, hlive, hws, StoreController.feed_rests hq hA hB]

/-- Page A goes to a new extent, with nothing else to move (R111). -/
theorem State.twoRounds_allocatesA (hlive : s.liveTake = some k) (hws : s.store.writeState = some ws)
    (hq : s.store.queue = []) (hA : s.store.pageA.state = .waiting) (hB : s.store.pageB.state = .empty)
    (hcurrent : s.store.currentTarget ws = none) (hfree : s.store.freeList = e :: es) :
    s.twoRounds = { s with store := { s.store.allocated s.store.pageA ws e with
      pageA := { s.store.pageA with state := .programming, failedBefore := false }
      waiting := s.store.waiting
        ++ [.archiveProgram ⟨e, 0⟩ (s.store.pageA.imageIn (s.store.nextSeq s.store.pageA.take))] } } := by
  have hseq := StoreController.seqOf_allocated (p := s.store.pageA) (ws := ws) hfree
  have hround : s.stagingRound = { s with store := { s.store.allocated s.store.pageA ws e with
      pageA := { s.store.pageA with state := .programming, failedBefore := false }
      waiting := s.store.waiting
        ++ [.archiveProgram ⟨e, 0⟩ (s.store.pageA.imageIn (s.store.nextSeq s.store.pageA.take))] } } := by
    rw [State.stagingRound_unfed hlive hws hq (by simp [hA]) (by simp [hB]),
      State.submitA_goes hws hA hB (State.target_allocates hcurrent hfree), ← hseq]
    exact State.submitB_rests (s := State.submitPage _ _ _) (by
      show s.store.pageB.state ≠ .waiting
      simp [hB])
  rw [State.twoRounds, hround]
  exact State.stagingRound_rests hq ⟨nofun, nofun⟩ (by simp [StoreController.allocated, hB])

/-- The store of a take that is not CLOSING moves on by its two rounds (R110, R115). -/
theorem State.pump_rounds (hlive : s.liveTake = some k) (hopen : k.state ≠ .closing) : s.pump = s.twoRounds := by
  have hlive' : s.twoRounds.liveTake = some k := s.twoRounds_roundSide.side.liveTake.trans hlive
  show s.twoRounds.drain = s.twoRounds
  unfold State.drain
  split
  · obtain rfl : k = _ := Option.some.inj (hlive'.symm.trans ‹_›)
    exact if_neg hopen
  · rfl

end Submit

end Sys2Proof.Machine
end

section
/-!
The ends of an erase of the eraser and of a STORE_FORMAT (R105, R111, R114, R117, R124, R126).
-/

namespace Sys2Proof.Machine

section Erase

variable {s : State} {e n : Nat} {ok g : Bool}

/-! ## The eraser -/

theorem exec_eraseEnd (h : s.store.inFlight = some ⟨.eraserErase e, n⟩) : exec (.eraseEnd ok g) s
    = .next (if ok then ((s.freed (.eraserErase e) ok g).setExtent e { state := .free }).pump
        else ((s.freed (.eraserErase e) ok g).countEraseFailure.extentBad e false).submit
          (.eraserBadMark e)).settlePort := by
  show execEraseEnd ok g s = _
  simp only [execEraseEnd, h, State.freed]

/-- The pages of an extent that has been erased (R103). -/
theorem eraseExtent_erased (f : FlashMemory) {k : Nat} (hk : k / 128 = e) : (f.eraseExtent e).read k = erasedPage := by
  rw [FlashMemory.read_eraseExtent]
  exact if_pos hk

/-- What a STALLED take's page A does with the extent that has become FREE (R111, R114). -/
theorem State.pump_freed {k : TakeRecord} {ws : WriteState} (hlive : s.liveTake = some k) (hopen : k.state = .opened)
    (hws : s.store.writeState = some ws) (hq : s.store.queue = [])
    (hlost : ∀ c x, ws.current = some c → s.store.extent c = some x → x.state ≠ .owned)
    (hA : s.store.pageA.state = .waiting) (hB : s.store.pageB.state = .empty) (hnone : s.store.freeList = [])
    (he : s.store.extent e ≠ none) :
    let A := s.store.pageA
    let next := { s.store with table := Machine.setExtent s.store.table e ⟨.free, none⟩ }.chainNext A.take
    let t := (s.setExtent e { state := .free }).pump.settlePort
    t.store.stalled = false ∧ t.takes = s.takes
      ∧ t.store.pageA = { A with state := .programming, failedBefore := false }
      ∧ t.store.extent e = some ⟨.owned, some ⟨A.take, next, A.pageSeq⟩⟩
      ∧ ∃ p : PageImage, p.Holds A next ∧ t.AtPort (.archiveProgram ⟨e, 0⟩ p) := by
  intro A next t
  obtain ⟨es, hfree⟩ := StoreController.freeList_freed (State.liveTake_formed hlive) hnone he
  have hcurrent : (s.setExtent e { state := .free }).store.currentTarget ws = none := by
    refine StoreController.currentTarget_none fun c x hc hx _ _ => ?_
    have hlookup : (Machine.setExtent s.store.table e ⟨.free, none⟩).lookup c = some x := hx
    rw [lookup_setExtent_eq] at hlookup
    obtain ⟨y, hy, rfl⟩ := Option.map_eq_some_iff.mp hlookup
    split
    · exact nofun
    · exact hlost c y hc hy
  have hin : ∃ y ∈ Machine.setExtent s.store.table e ⟨.free, none⟩, y.1 = e :=
    StoreController.mem_freeList (c := { s.store with table := Machine.setExtent s.store.table e ⟨.free, none⟩ })
      (by rw [hfree]; exact List.mem_cons_self)
  have hnext : (s.setExtent e { state := .free }).store.nextSeq A.take = next :=
    StoreController.nextSeq_eq_chainNext _ _
  have hpump := (State.pump_rounds (s := s.setExtent e { state := .free }) hlive (by simp [hopen])).trans
    (State.twoRounds_allocatesA hlive hws hq hA hB hcurrent hfree)
  have hport : t.AtPort (.archiveProgram ⟨e, 0⟩ (A.imageIn next)) := by
    refine State.AtPort.settlePort (.inl ?_)
    rw [hpump, ← hnext]
    exact List.mem_append_right _ (List.mem_singleton_self _)
  have hextent : (Machine.setExtent (Machine.setExtent s.store.table e ⟨.free, none⟩) e
      ⟨.owned, some ⟨A.take, (s.setExtent e { state := .free }).store.nextSeq A.take, A.pageSeq⟩⟩).lookup e
        = some ⟨.owned, some ⟨A.take, next, A.pageSeq⟩⟩ := by
    rw [lookup_setExtent _ hin, hnext]
  have hsettled : PortSide (s.setExtent e { state := .free }).pump t := State.settlePort_portSide _
  rw [hpump] at hsettled
  clear_value t
  obtain ⟨_, _, rfl⟩ := hsettled
  exact ⟨rfl, rfl, rfl, hextent, _, A.imageIn_holds next, hport⟩

/-! ## A format's erase has ended -/

/-- The flags of the catalog extents erased so far, after an erase of extent `e` (R124). -/
def Format.after (f : Format) (e : Nat) (ok : Bool) : Format :=
  ⟨f.erased0 || (ok && e = 0), f.erased1 || (ok && e = 1)⟩

/-- The entry an erase of a STORE_FORMAT leaves of its extent's (R124). -/
def Extent.formatted (ok : Bool) (x : Extent) : Extent :=
  if x.state = .catalog then x else if ok then ⟨.free, none⟩ else ⟨.bad, none⟩

/-- `y` is `s` once the erase of extent `e` has ended in a format and the extent has been marked (R124, R126). -/
structure FormatLeft (s : State) (e : Nat) (ok : Bool) (f : Format) (y : State) : Prop where
  side : ∃ freeCount flash table eraseFailures inFlight waiting, y = { s with
    freeCount := freeCount, flash := flash
    store := { s.store with
      table := table, eraseFailures := eraseFailures, format := some f, inFlight := inFlight, waiting := waiting } }
  failures : y.store.eraseFailures = if ok then s.store.eraseFailures else countUp s.store.eraseFailures 1
  erased : ok = true → y.flash = s.flash.eraseExtent e
  extent : ∀ j, y.store.extent j = (s.store.extent j).map fun v => if j = e then v.formatted ok else v
  marks : ∀ x, s.store.extent e = some x → x.state ≠ .catalog → x.state ≠ .bad → ok = false →
    y.AtPort (.eraserBadMark e)

theorem map_if_ne {o : Option Extent} {j : Nat} {f : Extent → Extent} (h : ∀ v, o = some v → j = e → f v = v) :
    o.map (fun v => if j = e then f v else v) = o := by
  cases ho : o with
  | none => rfl
  | some v =>
    by_cases hj : j = e
    · simp [hj, h v ho hj]
    · simp [hj]

/-- An extent's entry after the marks, and the bad mark that is asked for (R124). -/
theorem State.formatMarks_eq (s : State) (e : Nat) (ok : Bool) : ∃ table waiting,
    s.formatMarks e ok = { s with store := { s.store with table := table, waiting := waiting } }
    ∧ (∀ j, table.lookup j = (s.store.extent j).map fun v => if j = e then v.formatted ok else v)
    ∧ ∀ x, s.store.extent e = some x → x.state ≠ .catalog → x.state ≠ .bad → ok = false →
      (s.formatMarks e ok).AtPort (.eraserBadMark e) := by
  have hmapped : ∀ x y, s.store.extent e = some x → y = x.formatted ok → ∀ j,
      (Machine.setExtent s.store.table e y).lookup j
        = (s.store.extent j).map fun v => if j = e then v.formatted ok else v := by
    intro x y hx hy j
    rw [lookup_setExtent_eq]
    by_cases hj : j = e
    · subst hj
      have hlookup : s.store.table.lookup j = some x := hx
      rw [hlookup, show s.store.extent j = some x from hx, hy]
      simp
    · simp only [hj, if_false]
      rfl
  have hkept : (∀ x, s.store.extent e = some x → x.formatted ok = x) → ∀ j, s.store.table.lookup j
      = (s.store.extent j).map fun v => if j = e then v.formatted ok else v := fun h j =>
    (map_if_ne (o := s.store.extent j) fun v hv (hj : j = e) => h v (hj ▸ hv)).symm
  unfold State.formatMarks
  split
  case h_2 hnone => exact ⟨_, _, rfl, hkept (by simp [hnone]), by simp [hnone]⟩
  case h_1 x hx =>
    split
    · rename_i hcatalog
      exact ⟨_, _, rfl, hkept (by simp [hx, Extent.formatted, hcatalog]), by simp [hx, hcatalog]⟩
    rename_i hcatalog
    split
    · rename_i hok
      exact ⟨_, _, rfl, hmapped x _ hx (by simp [Extent.formatted, hcatalog, hok]), fun y _ _ _ hno => by simp [hok] at hno⟩
    · rename_i hok
      have hbad := hmapped x ⟨.bad, none⟩ hx (by simp [Extent.formatted, hcatalog, hok])
      dsimp only
      split
      · rename_i hstate
        exact ⟨_, _, rfl, hbad, by simp [hx, hstate]⟩
      · exact ⟨_, _, rfl, hbad, fun _ _ _ _ _ => State.AtPort.submitted _ _⟩

/-- An erase of a STORE_FORMAT has ended, and a failed one is counted (R103, R126). -/
def State.formatEnded (s : State) (e : Nat) (ok g : Bool) : State :=
  if ok then s.freed (.formatErase e) ok g else (s.freed (.formatErase e) ok g).countEraseFailure

theorem State.formatEnded_eq (s : State) (e : Nat) (ok g : Bool) : ∃ freeCount flash inFlight waiting,
    s.formatEnded e ok g = { s with
      freeCount := freeCount, flash := flash
      store := { s.store with
        eraseFailures := if ok then s.store.eraseFailures else countUp s.store.eraseFailures 1
        inFlight := inFlight, waiting := waiting } }
    ∧ (ok = true → flash = s.flash.eraseExtent e) := by
  obtain ⟨_, _, _, _, hfreed⟩ := s.freed_side (.formatErase e) ok g
  have hflash := s.freed_flash (.formatErase e) ok g
  unfold State.formatEnded
  rw [hfreed] at hflash ⊢
  cases ok
  · exact ⟨_, _, _, _, rfl, nofun⟩
  · exact ⟨_, _, _, _, rfl, fun _ => hflash⟩

/-- The state a format goes on from after an erase (R124). -/
def State.formatMarked (s : State) (e : Nat) (ok g : Bool) (f : Format) : State :=
  { (s.formatEnded e ok g).formatMarks e ok with
    store := { ((s.formatEnded e ok g).formatMarks e ok).store with format := some f } }

theorem State.formatMarked_left (s : State) (e : Nat) (ok g : Bool) (f : Format) :
    FormatLeft s e ok f (s.formatMarked e ok g f) := by
  obtain ⟨n, m, i, w, hended, hflash⟩ := s.formatEnded_eq e ok g
  obtain ⟨table, waiting, hmarks, hlookup, hbad⟩ := (s.formatEnded e ok g).formatMarks_eq e ok
  unfold State.formatMarked
  rw [hmarks] at hbad ⊢
  rw [hended] at hlookup hbad ⊢
  exact ⟨⟨_, _, _, _, _, _, rfl⟩, rfl, hflash, hlookup, hbad⟩

theorem exec_formatEraseEnd {f : Format} (h : s.store.inFlight = some ⟨.formatErase e, n⟩)
    (hf : s.store.format = some f) : exec (.formatEraseEnd ok g) s
    = .next (((s.formatMarked e ok g (f.after e ok)).formatFrom (f.after e ok) scanFuel (e + 1)).settlePort) := by
  have hformat : (s.formatEnded e ok g).store.format = some f := by
    obtain ⟨_, _, _, _, hended, -⟩ := s.formatEnded_eq e ok g
    rw [hended]
    exact hf
  have hexec : exec (.formatEraseEnd ok g) s = .next ((s.formatEnded e ok g).formatErasedOne e ok).settlePort := by
    show execFormatEraseEnd ok g s = _
    simp only [execFormatEraseEnd, h]
    rfl
  rw [hexec, State.formatErasedOne, hformat]
  rfl

/-! ## The extent a format goes on to -/

theorem StoreController.answers_of_module {c : StoreController} {a b : Nat} (h : moduleOf a = moduleOf b) :
    c.answers a = c.answers b := by
  unfold StoreController.answers
  rw [h]

theorem State.formatFrom_answering {y : State} (f : Format) {m a : Nat} (ha : a < 131072)
    (hans : y.store.answers a = true) : y.formatFrom f (m + 1) a = y.formatSubmit a := by
  have hmodule : y.store.module (moduleOf a) = .answering := by simpa [StoreController.answers] using hans
  simp only [State.formatFrom, hmodule]
  exact if_neg (Nat.not_le.mpr ha)

theorem State.formatFrom_skips {y : State} (f : Format) {m a : Nat} (ha : a < 131072)
    (hans : y.store.answers a = false) :
    y.formatFrom f (m + 1) a = y.formatFrom f m ((moduleOf a + 1) * Config.moduleExtents) := by
  have hmodule : y.store.module (moduleOf a) ≠ .answering := by simpa [StoreController.answers] using hans
  have hin : ¬ Config.modulePorts * Config.moduleExtents ≤ a := Nat.not_le.mpr ha
  rw [State.formatFrom, if_neg hin]
  split
  · exact absurd ‹_› hmodule
  all_goals rfl

theorem moduleOf_eq (a : Nat) : moduleOf a = a / 32768 := rfl

/-- A format goes on at the next extent of a module that answers (R124). -/
theorem State.formatFrom_next {y : State} (f : Format) {next : Nat} (hnext : next < 131072)
    (hans : y.store.answers next = true) : ∀ m a, a ≤ next → 4 ≤ m + moduleOf a → 0 < m →
    (∀ x, a ≤ x → x < next → y.store.answers x = false) → y.formatFrom f m a = y.formatSubmit next := by
  intro m
  induction m with
  | zero => exact fun _ _ _ h => absurd h (Nat.lt_irrefl 0)
  | succ m ih =>
    intro a ha hfuel _ hskipped
    by_cases hsame : moduleOf a = moduleOf next
    · have heq : a = next := by
        by_contra hne
        have hlt := hskipped a le_rfl (by omega)
        rw [StoreController.answers_of_module hsame, hans] at hlt
        cases hlt
      rw [heq, State.formatFrom_answering f hnext hans]
    · have hlt : a < next := by
        by_contra hge
        exact hsame (by rw [show a = next by omega])
      rw [State.formatFrom_skips f (by omega) (hskipped a le_rfl hlt)]
      rw [moduleOf_eq, moduleOf_eq] at hsame
      rw [moduleOf_eq] at hfuel
      have hmodules : (moduleOf a + 1) * Config.moduleExtents = (a / 32768 + 1) * 32768 := rfl
      rw [hmodules]
      exact ih _ (by omega) (by rw [moduleOf_eq]; omega) (by omega) fun x hx => hskipped x (by omega)

/-- With no further extent of a module that answers the erases of a format are over (R124). -/
theorem State.formatFrom_last {y : State} (f : Format) : ∀ m a, 4 < m + moduleOf a → 0 < m →
    (∀ x, a ≤ x → x < 131072 → y.store.answers x = false) → y.formatFrom f m a = y.formatErased f := by
  intro m
  induction m with
  | zero => exact fun _ _ h => absurd h (Nat.lt_irrefl 0)
  | succ m ih =>
    intro a hfuel _ hskipped
    by_cases hend : 131072 ≤ a
    · rw [State.formatFrom]
      exact if_pos hend
    · rw [State.formatFrom_skips f (by omega) (hskipped a le_rfl (by omega))]
      rw [moduleOf_eq] at hfuel
      have hmodules : (moduleOf a + 1) * Config.moduleExtents = (a / 32768 + 1) * 32768 := rfl
      rw [hmodules]
      exact ih _ (by rw [moduleOf_eq]; omega) (by omega) fun x hx => hskipped x (by omega)

/-- The submission of a format's erase, before which a FREE extent becomes DIRTY (R124). -/
theorem State.formatSubmit_eq (y : State) (next : Nat) : ∃ table waiting,
    y.formatSubmit next = { y with store := { y.store with table := table, waiting := waiting } }
    ∧ (∀ j, table.lookup j = (y.store.extent j).map fun v =>
      if j = next then if v.state = .free then ⟨.dirty, none⟩ else v else v)
    ∧ (y.formatSubmit next).AtPort (.formatErase next)
    ∧ ∀ op, y.AtPort op → (y.formatSubmit next).AtPort op := by
  have hkept : (∀ x, y.store.extent next = some x → x.state ≠ .free) → ∀ j, y.store.table.lookup j
      = (y.store.extent j).map fun v => if j = next then if v.state = .free then ⟨.dirty, none⟩ else v else v :=
    fun h j => (map_if_ne (o := y.store.extent j) (f := fun v => if v.state = .free then ⟨.dirty, none⟩ else v)
      fun v hv (hj : j = next) => if_neg (h v (hj ▸ hv))).symm
  unfold State.formatSubmit
  split
  case h_2 hnone => exact ⟨_, _, rfl, hkept (by simp [hnone]), .submitted _ _, fun _ h => h.submit⟩
  case h_1 x hx =>
    split
    · rename_i hfree
      refine ⟨_, _, rfl, fun j => ?_, .submitted _ _, fun _ h => State.AtPort.submit h⟩
      have hlookup := lookup_setExtent_eq (table := y.store.table) next ⟨.dirty, none⟩ j
      refine hlookup.trans ?_
      by_cases hj : j = next
      · rw [hj, show y.store.table.lookup next = some x from hx, hx]
        simp [hfree]
      · simp only [hj, if_false]
        rfl
    · rename_i hbusy
      exact ⟨_, _, rfl, hkept (by simp [hx, hbusy]), .submitted _ _, fun _ h => h.submit⟩

/-! ## Every erase of a format has ended -/

/-- The take table is empty and no extent has an owner (R124). -/
def State.formatEmptied (y : State) : State :=
  { y with
    takes := { y.takes with records := [], nextTake := 1 }
    store := { y.store with table := y.store.table.map fun z => (z.1, { z.2 with owner := none }) } }

/-- The catalog position a format sets before its catalog write (R124). -/
def State.formatPosition (y : State) (f : Format) : State :=
  y.setTakes { y.takes with catCurrent := if f.erased0 then 0 else 1, catNext := 0 }

theorem State.formatErased_asks {y : State} {f : Format} (hf : f.erased0 = true ∨ f.erased1 = true)
    (hans : y.store.answers 0 = true) :
    y.formatErased f = (y.formatEmptied.formatPosition f).askCatalog .storeOperation :=
  if_pos (by
    rw [Bool.and_eq_true, Bool.or_eq_true]
    exact ⟨hf, hans⟩)

theorem State.formatErased_stops {y : State} {f : Format}
    (h : (f.erased0 = false ∧ f.erased1 = false) ∨ y.store.answers 0 = false) :
    y.formatErased f = y.formatEmptied.formatStopped :=
  if_neg (by
    rw [Bool.and_eq_true, Bool.or_eq_true]
    rintro ⟨hf, hans⟩
    rcases h with ⟨h0, h1⟩ | h
    · simp [h0, h1] at hf
    · exact absurd (hans.symm.trans h) (by decide))

/-- What asking for a catalog write leaves at the store port. -/
theorem State.AtPort.askCatalog {x : State} {op : PortOp} (h : x.AtPort op) {w : Waiter}
    (hgoes : x.CatalogReady ∨ x.takes.write ≠ none) : (x.askCatalog w).AtPort op := by
  rcases hgoes with hready | hbusy
  · rw [State.askCatalog_starts x w hready]
    split <;> exact State.AtPort.submit h
  · rw [State.askCatalog_joins x w hbusy]
    exact h

/-- A STORE_FORMAT that waits for a catalog write that fails at once ends with STORE_FAULT (R98, R124). -/
theorem State.askCatalog_formatStopped {z : State} (h : z.CatalogStopped)
    (hkind : ∀ op, z.requests.storeOp = some op → op.kind = .format) (hop : z.requests.storeOp ≠ none) :
    z.askCatalog .storeOperation = z.formatStopped := by
  obtain ⟨op, hop⟩ := Option.ne_none_iff_exists'.mp hop
  rw [State.askCatalog_stopped z _ h]
  show z.storeOpWritten false = _
  simp only [State.storeOpWritten, hop, hkind op hop, State.formatWritten]
  rfl

/-- A STORE_FORMAT is under way no longer, its erases having left `y` (R124). -/
def State.formatOver (y : State) (takes : TakeController) : State :=
  { y.formatEmptied with takes := takes, store := { y.formatEmptied.store with format := none } }

namespace FormatLeft

variable {f : Format} {y t : State}

theorem answers (h : FormatLeft s e ok f y) (j : Nat) : y.store.answers j = s.store.answers j := by
  obtain ⟨_, _, _, _, _, _, rfl⟩ := h.side
  rfl

/-- What the erase left, once all erases are over (R103, R124, R126). -/
theorem ended (h : FormatLeft s e ok f y) (hfailures : t.store.eraseFailures = y.store.eraseFailures)
    (hflash : t.flash = y.flash) (htable : t.store.table = y.formatEmptied.store.table)
    (hport : ∀ op, y.AtPort op → t.AtPort op) :
    (t.store.eraseFailures = (if ok then s.store.eraseFailures else countUp s.store.eraseFailures 1)
      ∧ (ok = true → t.flash = s.flash.eraseExtent e ∧ ∀ k, k / 128 = e → t.flash.read k = erasedPage))
    ∧ (∀ x, s.store.extent e = some x → x.state ≠ .catalog → x.state ≠ .bad → ok = false →
      t.AtPort (.eraserBadMark e))
    ∧ ∀ x v, s.store.extent x = some v →
      t.store.extent x = some { (if x = e then v.formatted ok else v) with owner := none } := by
  refine ⟨⟨hfailures.trans h.failures, fun hok => ?_⟩, fun x hx hc hb hok => hport _ (h.marks x hx hc hb hok),
    fun x v hv => ?_⟩
  · rw [hflash, h.erased hok]
    exact ⟨rfl, fun k hk => eraseExtent_erased _ hk⟩
  · have hlookup : t.store.extent x = (y.store.extent x).map fun v => { v with owner := none } := by
      unfold StoreController.extent
      rw [htable]
      exact lookup_mapExtents fun v => { v with owner := none }
    rw [hlookup, h.extent, hv]
    rfl

/-- The format goes on at the next extent of a module that answers (R124). -/
theorem goesOn (h : FormatLeft s e ok f y) {next : Nat} (hnext : e < next) :
    let t := (y.formatSubmit next).settlePort
    t = { s with freeCount := t.freeCount, flash := t.flash, store := t.store }
      ∧ (t.store.eraseFailures = (if ok then s.store.eraseFailures else countUp s.store.eraseFailures 1)
        ∧ (ok = true → t.flash = s.flash.eraseExtent e ∧ ∀ k, k / 128 = e → t.flash.read k = erasedPage))
      ∧ (∀ x, s.store.extent e = some x → x.state ≠ .catalog → x.state ≠ .bad → ok = false →
        t.AtPort (.eraserBadMark e))
      ∧ t.store.format = some f ∧ t.AtPort (.formatErase next)
      ∧ (∀ x, s.store.extent e = some x → t.store.extent e = some (x.formatted ok))
      ∧ (∀ x, s.store.extent next = some x →
        t.store.extent next = some (if x.state = .free then ⟨.dirty, none⟩ else x))
      ∧ ∀ x, x ≠ e → x ≠ next → t.store.extent x = s.store.extent x := by
  intro t
  obtain ⟨table, waiting, hsubmit, hlookup, hat, hkeeps⟩ := y.formatSubmit_eq next
  have hport : t.AtPort (.formatErase next) := hat.settlePort
  have hmarks : ∀ x, s.store.extent e = some x → x.state ≠ .catalog → x.state ≠ .bad → ok = false →
      t.AtPort (.eraserBadMark e) := fun x hx hc hb hok => (hkeeps _ (h.marks x hx hc hb hok)).settlePort
  have hside : PortSide (y.formatSubmit next) t := State.settlePort_portSide _
  rw [hsubmit] at hside
  have hextent : ∀ x, t.store.extent x = ((s.store.extent x).map fun v => if x = e then v.formatted ok else v).map
      fun v => if x = next then if v.state = .free then ⟨.dirty, none⟩ else v else v := by
    intro x
    obtain ⟨_, _, ht⟩ := hside
    rw [← h.extent, ht]
    exact hlookup x
  have hfailures := h.failures
  have herased := h.erased
  obtain ⟨_, _, _, _, _, _, hy⟩ := h.side
  clear_value t
  rw [hy] at hside hfailures herased
  refine ⟨?_, ⟨?_, fun hok => ?_⟩, hmarks, ?_, hport, fun x hx => ?_, fun x hx => ?_, fun x hxe hxn => ?_⟩
  · obtain ⟨_, _, rfl⟩ := hside
    rfl
  · obtain ⟨_, _, rfl⟩ := hside
    exact hfailures
  · have hflash : t.flash = s.flash.eraseExtent e := hside.flash.trans (herased hok)
    rw [hflash]
    exact ⟨rfl, fun k hk => eraseExtent_erased _ hk⟩
  · obtain ⟨_, _, rfl⟩ := hside
    rfl
  · rw [hextent, hx]
    simp [hnext.ne]
  · rw [hextent, hx]
    simp [hnext.ne']
  · rw [hextent]
    simp [hxe, hxn]

/-- The catalog write of a format has been asked for, and starts or waits (R97, R124). -/
theorem asked (h : FormatLeft s e ok f y) (hside : CatalogSide (y.formatEmptied.formatPosition f) t) :
    t = { s with freeCount := t.freeCount, flash := t.flash, takes := t.takes, store := t.store }
      ∧ t.takes.records = [] ∧ t.takes.nextTake = 1 ∧ t.store.eraseFailures = y.store.eraseFailures
      ∧ t.flash = y.flash ∧ t.store.table = y.formatEmptied.store.table := by
  obtain ⟨_, _, _, _, _, _, rfl⟩ := h.side
  obtain ⟨_, _, _, _, _, _, rfl⟩ := hside
  exact ⟨rfl, rfl, rfl, rfl, rfl, rfl⟩

theorem catalogAs (h : FormatLeft s e ok f y) : CatalogAs (s.formatPosition f) (y.formatEmptied.formatPosition f) := by
  obtain ⟨_, _, _, _, _, _, rfl⟩ := h.side
  exact ⟨rfl, rfl, rfl, rfl, rfl, rfl⟩

theorem link (h : FormatLeft s e ok f y) : y.link = s.link := by
  obtain ⟨_, _, _, _, _, _, rfl⟩ := h.side
  rfl

theorem requests (h : FormatLeft s e ok f y) : y.requests = s.requests := by
  obtain ⟨_, _, _, _, _, _, rfl⟩ := h.side
  rfl

theorem takes (h : FormatLeft s e ok f y) : y.takes = s.takes := by
  obtain ⟨_, _, _, _, _, _, rfl⟩ := h.side
  rfl

/-- A format that ends without a catalog write is answered STORE_FAULT (R124). -/
theorem stops (h : FormatLeft s e ok f y) (takes : TakeController) :
    let t := (State.formatStopped { y.formatEmptied with takes := takes }).settlePort
    t.store.eraseFailures = y.store.eraseFailures ∧ t.flash = y.flash
      ∧ t.store.table = y.formatEmptied.store.table ∧ (∀ op, y.AtPort op → t.AtPort op)
      ∧ t.store.format = none ∧ t.store.state = s.store.state
      ∧ (∀ (op : StoreOp) (x : Entry), s.requests.storeOp = some op → s.requests.Lawful →
        x ∈ s.requests.entries → x.arrival = op.arrival →
        Answered s.link { s.requests with storeOp := none } x .storeFault [] t)
      ∧ t.takes = takes := by
  intro t
  have hstopped : State.formatStopped { y.formatEmptied with takes := takes }
      = (y.formatOver takes).completeStoreOp .storeFault [] := rfl
  have hside : PortSide ((y.formatOver takes).completeStoreOp .storeFault []) t := State.settlePort_portSide _
  have hkeeps : ∀ op, y.AtPort op → t.AtPort op := fun op hop => by
    refine State.AtPort.settlePort ?_
    rw [hstopped, State.completeStoreOp_eq]
    exact hop
  have hanswered : ∀ (op : StoreOp) (x : Entry), s.requests.storeOp = some op → s.requests.Lawful →
      x ∈ s.requests.entries → x.arrival = op.arrival →
      Answered s.link { s.requests with storeOp := none } x .storeFault [] t := by
    rw [← h.link, ← h.requests]
    exact fun op x hop hlawful hx harrival => Answered.portSide
      (State.completeStoreOp_answered (x := y.formatOver takes) hop hlawful hx harrival .storeFault []) hside
  have hstate : y.store.state = s.store.state := by
    obtain ⟨_, _, _, _, _, _, rfl⟩ := h.side
    rfl
  clear_value t
  rw [State.completeStoreOp_eq] at hside
  obtain ⟨_, _, rfl⟩ := hside
  exact ⟨rfl, rfl, rfl, hkeeps, rfl, hstate, hanswered, rfl⟩

end FormatLeft

end Erase

/-- Settles O58: an extent that is freed is the head of a free list that was empty, so a STALLED page goes there; a
format's erases go on over whole modules at a time. -/
theorem erasesEnd : Obligations.ErasesEnd := by
  intro s e n g
  refine ⟨fun hflight => ⟨⟨_, exec_eraseEnd hflight, ?_⟩, ⟨_, exec_eraseEnd hflight, ?_⟩⟩,
    fun f ok hflight hformat => ?_⟩
  · rw [if_pos rfl]
    obtain ⟨i, w, hfreed⟩ := s.freed_done (.eraserErase e) g
    have herased : ((s.freed (.eraserErase e) true g).setExtent e { state := .free }).pump.settlePort.flash
        = s.flash.eraseExtent e :=
      ((State.settlePort_side _).flash.trans (State.pump_side _).flash).trans (s.freed_flash _ _ _)
    refine ⟨herased, fun k hk => ?_, fun hidle => ?_, fun k ws hlive hopen hws hq hlost hA hB hnone he => ?_⟩
    · rw [herased]
      exact eraseExtent_erased _ hk
    · have hidle' : ((s.freed (.eraserErase e) true g).setExtent e { state := .free }).store.writeState = none := by
        rw [hfreed]
        exact hidle
      have hport := State.settlePort_portSide ((s.freed (.eraserErase e) true g).setExtent e { state := .free })
      rw [State.pump_idle hidle']
      rw [hfreed] at hport ⊢
      obtain ⟨_, _, hsettled⟩ := hport
      rw [hsettled]
      rfl
    · rw [hfreed]
      exact State.pump_freed hlive hopen hws hq hlost hA hB hnone he
  · obtain ⟨_, _, _, _, hfreed⟩ := s.freed_side (.eraserErase e) false g
    rw [if_neg (by decide), hfreed]
    obtain ⟨hport, hat⟩ := State.submit_settled (State.extentBad (State.countEraseFailure _) e false) (.eraserBadMark e)
    refine ⟨hat, ?_⟩
    obtain ⟨_, _, hsettled⟩ := hport
    rw [hsettled]
    rfl
  · have hleft := s.formatMarked_left e ok g (f.after e ok)
    have hexec := exec_formatEraseEnd (ok := ok) (g := g) hflight hformat
    generalize s.formatMarked e ok g (f.after e ok) = y at hleft hexec
    have hlast : (∀ x, e < x → x < 131072 → s.store.answers x = false) →
        y.formatFrom (f.after e ok) scanFuel (e + 1) = y.formatErased (f.after e ok) := fun h =>
      State.formatFrom_last _ _ _ (Nat.lt_of_lt_of_le (by decide : 4 < scanFuel) (Nat.le_add_right _ _)) (by decide)
        fun x hx hlt => (hleft.answers x).trans (h x hx hlt)
    refine ⟨fun next hlt hend hans hskipped => ⟨_, hexec, ?_⟩, fun last hf hans => ?_, fun last hstop => ⟨_, hexec, ?_⟩⟩
    · rw [State.formatFrom_next (f.after e ok) hend ((hleft.answers next).trans hans) scanFuel (e + 1) hlt
        (Nat.le_trans (by decide : 4 ≤ scanFuel) (Nat.le_add_right _ _)) (by decide)
        fun x hx hxn => (hleft.answers x).trans (hskipped x hx hxn)]
      exact hleft.goesOn hlt
    · rw [hlast last, State.formatErased_asks (f := f.after e ok) hf ((hleft.answers 0).trans hans)] at hexec
      have hkeeps : ∀ op, y.AtPort op → (y.formatEmptied.formatPosition (f.after e ok)).AtPort op := fun _ h => h
      refine ⟨fun hready => ⟨_, hexec, ?_⟩, fun hbusy => ⟨_, hexec, ?_⟩, fun hstopped hkind hop => ⟨_, hexec, ?_⟩⟩
      · have hready' := (hleft.catalogAs).ready.mpr hready
        obtain ⟨hside, hbegun⟩ := State.askCatalog_begun (w := .storeOperation) hready'
        obtain ⟨hrest, hrecords, hnext, hfailures, hflash, htable⟩ := hleft.asked hside
        obtain ⟨hdone, hmarks, hbare⟩ := hleft.ended hfailures hflash htable
          fun op h => ((hkeeps op h).askCatalog (.inl hready')).settlePort
        exact ⟨⟨hrest, hdone, hmarks, hbare, hrecords, hnext⟩, hleft.catalogAs.begun hbegun⟩
      · have hbusy' : (y.formatEmptied.formatPosition (f.after e ok)).takes.write ≠ none := by
          rw [hleft.catalogAs.write]
          exact hbusy
        obtain ⟨hside, hjoined⟩ := State.askCatalog_joined (w := .storeOperation) hbusy'
        obtain ⟨hrest, hrecords, hnext, hfailures, hflash, htable⟩ := hleft.asked hside
        obtain ⟨hdone, hmarks, hbare⟩ := hleft.ended hfailures hflash htable
          fun op h => ((hkeeps op h).askCatalog (.inr hbusy')).settlePort
        exact ⟨⟨hrest, hdone, hmarks, hbare, hrecords, hnext⟩, hleft.catalogAs.joined hjoined⟩
      · rw [State.askCatalog_formatStopped (hleft.catalogAs.stopped.mpr hstopped)
          (by rwa [← hleft.requests] at hkind) (by rwa [← hleft.requests] at hop)]
        obtain ⟨hfailures, hflash, htable, hport, hnone, hstate, hanswered, htakes⟩ :=
          hleft.stops (y.formatEmptied.formatPosition (f.after e ok)).takes
        obtain ⟨hdone, hmarks, hbare⟩ := hleft.ended hfailures hflash htable hport
        refine ⟨⟨hdone, hmarks, hbare, hnone, hstate, hanswered⟩, htakes.trans ?_⟩
        rw [← hleft.takes]
        rfl
    · rw [hlast last, State.formatErased_stops (f := f.after e ok) (hstop.imp_right (hleft.answers 0).trans)]
      obtain ⟨hfailures, hflash, htable, hport, hnone, hstate, hanswered, htakes⟩ := hleft.stops y.formatEmptied.takes
      obtain ⟨hdone, hmarks, hbare⟩ := hleft.ended hfailures hflash htable hport
      refine ⟨⟨hdone, hmarks, hbare, hnone, hstate, hanswered⟩, htakes.trans ?_⟩
      rw [← hleft.takes]
      rfl

end Sys2Proof.Machine
end

section
/-!
The end of a catalog write (R84, R86, R87, R90, R91, R93, R94, R97 to R99, R121, R124): what it may touch, what its outcome
does to the store operation or the mount that waits on it, and the write that waits behind it.
-/

namespace Sys2Proof.Machine

/-! ## What the end of a catalog write may touch -/

/-- `t` differs from `x` at most in the takes, the Link Unit, the Request Queue, and of the store in the extent table, the
write state, the store state, the format, the mount and the port. -/
def WrittenSide (x t : State) : Prop :=
  ∃ takes link requests table ws state format mount inFlight waiting, t = { x with
    takes := takes, link := link, requests := requests
    store := { x.store with
      table := table, writeState := ws, state := state, format := format, mount := mount
      inFlight := inFlight, waiting := waiting } }

namespace WrittenSide

variable {x y t : State}

theorem refl (x : State) : WrittenSide x x := ⟨_, _, _, _, _, _, _, _, _, _, rfl⟩

theorem trans (h : WrittenSide x y) (k : WrittenSide y t) : WrittenSide x t := by
  obtain ⟨_, _, _, _, _, _, _, _, _, _, rfl⟩ := h
  obtain ⟨_, _, _, _, _, _, _, _, _, _, rfl⟩ := k
  exact ⟨_, _, _, _, _, _, _, _, _, _, rfl⟩

theorem port (h : PortSide x t) : WrittenSide x t := by
  obtain ⟨_, _, rfl⟩ := h
  exact ⟨_, _, _, _, _, _, _, _, _, _, rfl⟩

theorem takes (x : State) (c : TakeController) : WrittenSide x (x.setTakes c) := ⟨_, _, _, _, _, _, _, _, _, _, rfl⟩

end WrittenSide

section Sides

variable {x : State} {ok : Bool}

/-- `t` differs from `x` at most in what a store operation may do at its end: the catalog, the port and the readout are as
they were (R84, R86, R87, R90, R93, R94, R124). -/
def OutcomeSide (x t : State) : Prop :=
  ∃ records openReady link requests table ws state format, t = { x with
    takes := { x.takes with records := records, openReady := openReady }, link := link, requests := requests
    store := { x.store with table := table, writeState := ws, state := state, format := format } }

theorem OutcomeSide.writtenSide {t : State} (h : OutcomeSide x t) : WrittenSide x t := by
  obtain ⟨_, _, _, _, _, _, _, _, rfl⟩ := h
  exact ⟨_, _, _, _, _, _, _, _, _, _, rfl⟩

theorem OutcomeSide.catalogAs {t : State} (h : OutcomeSide x t) : CatalogAs x t := by
  obtain ⟨_, _, _, _, _, _, _, _, rfl⟩ := h
  exact ⟨rfl, rfl, rfl, rfl, rfl, rfl⟩

theorem OutcomeSide.completes {t : State} (h : OutcomeSide x t) (st : Status) : OutcomeSide x (t.completeStoreOp st []) := by
  rw [State.completeStoreOp_eq]
  obtain ⟨_, _, _, _, _, _, _, _, rfl⟩ := h
  exact ⟨_, _, _, _, _, _, _, _, rfl⟩

theorem State.storeOpWritten_outcomeSide (x : State) (ok : Bool) : OutcomeSide x (x.storeOpWritten ok) := by
  unfold State.storeOpWritten
  split
  · exact ⟨_, _, _, _, _, _, _, _, rfl⟩
  split
  · split
    · exact ⟨_, _, _, _, _, _, _, _, rfl⟩
    · exact OutcomeSide.completes ⟨_, _, _, _, _, _, _, _, rfl⟩ _
  iterate 3 exact OutcomeSide.completes ⟨_, _, _, _, _, _, _, _, rfl⟩ _
  · split <;> exact OutcomeSide.completes ⟨_, _, _, _, _, _, _, _, rfl⟩ _
  · unfold State.deleteEnd
    split <;> exact OutcomeSide.completes ⟨_, _, _, _, _, _, _, _, rfl⟩ _
  · unfold State.formatWritten
    dsimp only
    split <;> exact OutcomeSide.completes ⟨_, _, _, _, _, _, _, _, rfl⟩ _

theorem State.waiterTold_writtenSide (ok : Bool) (x : State) (w : Waiter) : WrittenSide x (x.waiterTold ok w) := by
  cases w with
  | storeOperation => exact (x.storeOpWritten_outcomeSide ok).writtenSide
  | exhaustionClose => exact .refl x
  | mount => exact ⟨_, _, _, _, _, _, _, _, _, _, rfl⟩

theorem State.told_writtenSide (ok : Bool) (ws : List Waiter) :
    ∀ x : State, WrittenSide x (ws.foldl (State.waiterTold ok) x) := by
  induction ws with
  | nil => exact .refl
  | cons w ws ih => exact fun x => (x.waiterTold_writtenSide ok w).trans (ih _)

theorem State.writeOutcome_writtenSide (x : State) (ok : Bool) : WrittenSide x (x.writeOutcome ok) := by
  unfold State.writeOutcome
  split
  · exact .refl x
  · exact (WrittenSide.takes x _).trans (State.told_writtenSide ok _ _)

theorem State.catalogAttempt_writtenSide (x : State) (w : CatalogWrite) : WrittenSide x (x.catalogAttempt w).1 := by
  unfold State.catalogAttempt
  dsimp only
  split
  · exact .takes x _
  split
  · exact .takes x _
  split <;> exact (WrittenSide.takes x _).trans (.port (State.submit_portSide _ _))

theorem State.writeStart_writtenSide (x : State) (ws : List Waiter) : WrittenSide x (x.writeStart ws) := by
  unfold State.writeStart
  dsimp only
  split
  · exact x.catalogAttempt_writtenSide _
  · exact (x.catalogAttempt_writtenSide _).trans (State.writeOutcome_writtenSide _ _)

/-- The write that waits behind one that has ended starts (R97). -/
def State.startWaiting (v : State) : State :=
  match v.takes.waiting with
  | none => v
  | some ws => (v.setTakes { v.takes with waiting := none }).writeStart ws

theorem State.writeEnd_eq (x : State) (ok : Bool) : x.writeEnd ok = (x.writeOutcome ok).startWaiting := rfl

theorem State.startWaiting_writtenSide (v : State) : WrittenSide v v.startWaiting := by
  unfold State.startWaiting
  split
  · exact .refl v
  · exact (WrittenSide.takes v _).trans (State.writeStart_writtenSide _ _)

theorem State.writeEnd_writtenSide (x : State) (ok : Bool) : WrittenSide x (x.writeEnd ok).settlePort :=
  ((x.writeOutcome_writtenSide ok).trans (State.startWaiting_writtenSide _)).trans
    (.port (State.settlePort_portSide _))

end Sides

/-! ## A catalog write that starts -/

/-- A catalog write can make an attempt: module 0 answers and the sequence can rise (R97, R98). -/
def State.Attempts (x : State) : Prop := x.store.answers 0 = true ∧ x.takes.catSeq < 4294967295

section Start

variable {x t : State} {w : CatalogWrite}

theorem State.catalogAttempt_goes (h : x.Attempts) : x.catalogAttempt w
    = (if 128 ≤ x.takes.catNext then
        (x.setTakes { x.takes with write := some w }).submit (.catalogErase (1 - x.takes.catCurrent))
      else (x.setTakes { x.takes with
          write := some w, catSeq := x.takes.catSeq + 1, catNext := x.takes.catNext + 1 }).submit
        (.catalogProgram ⟨x.takes.catCurrent, x.takes.catNext⟩
          (catalogPage w.image (x.takes.catSeq + 1) x.takes.catNext)), true) := by
  obtain ⟨hans, hseq⟩ := h
  have hrises : ¬ Config.indexMax ≤ x.takes.catSeq := Nat.not_le.mpr hseq
  unfold State.catalogAttempt
  simp only [hans, Bool.not_true, Bool.false_eq_true, if_false, hrises]
  show (if 128 ≤ x.takes.catNext then _ else _) = _
  split <;> rfl

theorem State.catalogAttempt_fails (h : ¬ x.Attempts) :
    x.catalogAttempt w = (x.setTakes { x.takes with write := some w }, false) := by
  unfold State.catalogAttempt
  dsimp only
  split
  · rfl
  · rename_i hans
    exact if_pos (Nat.not_lt.mp fun hseq => h ⟨by simpa using hans, hseq⟩)

/-- An attempt that is made, with the port settled (R97, R99). -/
theorem State.catalogAttempt_settled (h : x.Attempts) : (x.catalogAttempt w).2 = true
    ∧ (x.takes.catNext < 128 →
      PortSide (x.setTakes { x.takes with
          write := some w, catSeq := x.takes.catSeq + 1, catNext := x.takes.catNext + 1 })
        (x.catalogAttempt w).1.settlePort
      ∧ (x.catalogAttempt w).1.settlePort.AtPort (.catalogProgram ⟨x.takes.catCurrent, x.takes.catNext⟩
          (catalogPage w.image (x.takes.catSeq + 1) x.takes.catNext)))
    ∧ (128 ≤ x.takes.catNext →
      PortSide (x.setTakes { x.takes with write := some w }) (x.catalogAttempt w).1.settlePort
      ∧ (x.catalogAttempt w).1.settlePort.AtPort (.catalogErase (1 - x.takes.catCurrent))) := by
  rw [State.catalogAttempt_goes h]
  refine ⟨rfl, fun hroom => ?_, fun hfull => ?_⟩
  · rw [if_neg (Nat.not_le.mpr hroom)]
    exact State.submit_settled _ _
  · rw [if_pos hfull]
    exact State.submit_settled _ _

/-- Who waits on the write is told its end, whatever the attempts it has made (R98). -/
theorem State.writeOutcome_eq {v : CatalogWrite} (ok : Bool) (h : x.takes.write = some v) : x.writeOutcome ok
    = v.waiters.foldl (State.waiterTold ok) (x.setTakes { x.takes with write := none }) := by
  unfold State.writeOutcome
  rw [h]

theorem State.writeStart_fails (h : ¬ x.Attempts) (ws : List Waiter) : x.writeStart ws
    = ws.foldl (State.waiterTold false) (x.setTakes { x.takes with write := none }) := by
  unfold State.writeStart
  rw [State.catalogAttempt_fails h]
  rfl

end Start

/-! ## The write that waits -/

/-- What becomes in `t` of the write that waits in `s`, the catalog position being that of `c` (R97, R98). -/
def NextWrite (s : State) (c : TakeController) (t : State) : Prop :=
  t.takes.waiting = none ∧ t.takes.catCurrent = c.catCurrent
    ∧ (s.takes.waiting = none ∨ ¬ s.Attempts →
      t.takes.write = none ∧ t.takes.catNext = c.catNext ∧ t.takes.catSeq = c.catSeq)
    ∧ ∀ ws, s.takes.waiting = some ws → s.Attempts →
      t.takes.write = some ⟨t.takes.image, 0, ws⟩
        ∧ (c.catNext < 128 → t.takes.catNext = c.catNext + 1 ∧ t.takes.catSeq = c.catSeq + 1
          ∧ t.AtPort (.catalogProgram ⟨c.catCurrent, c.catNext⟩
            (catalogPage t.takes.image (c.catSeq + 1) c.catNext)))
        ∧ (128 ≤ c.catNext → t.takes.catNext = c.catNext ∧ t.takes.catSeq = c.catSeq
          ∧ t.AtPort (.catalogErase (1 - c.catCurrent)))

/-- The waiters are one store operation, whoever else waits without a request (R91). -/
abbrev AskedOnce (ws : List Waiter) : Prop := ws.filter (· ≠ .exhaustionClose) = [.storeOperation]

/-- No one waits that is told anything (R91). -/
abbrev AskedByNobody (ws : List Waiter) : Prop := ∀ x ∈ ws, x = .exhaustionClose

section Next

variable {v : State} {ws : List Waiter}

theorem NextWrite.of_stopped {t : State} (hstops : v.takes.waiting = none ∨ ¬ v.Attempts)
    (hcurrent : t.takes.catCurrent = v.takes.catCurrent) (hwaiting : t.takes.waiting = none)
    (hwrite : t.takes.write = none) (hnext : t.takes.catNext = v.takes.catNext)
    (hseq : t.takes.catSeq = v.takes.catSeq) : NextWrite v v.takes t := by
  refine ⟨hwaiting, hcurrent, fun _ => ⟨hwrite, hnext, hseq⟩, fun ws hws hgoes => ?_⟩
  rcases hstops with hnone | hstops
  · rw [hnone] at hws
    cases hws
  · exact absurd hgoes hstops

/-- Where nothing waits, or what waits starts, or no one is told of its failure, only the catalog's position and the port
move (R97, R98). -/
theorem State.startWaiting_settled (hwrite : v.takes.write = none)
    (h : v.takes.waiting = none ∨ v.Attempts ∨ ∃ ws, v.takes.waiting = some ws ∧ AskedByNobody ws) :
    CatalogSide v v.startWaiting.settlePort ∧ NextWrite v v.takes v.startWaiting.settlePort := by
  unfold State.startWaiting
  split
  · rename_i hnone
    obtain ⟨_, _, heq⟩ := v.settlePort_portSide
    rw [heq]
    exact ⟨⟨_, _, _, _, _, _, rfl⟩, .of_stopped (.inl hnone) rfl hnone hwrite rfl rfl⟩
  rename_i ws hws
  by_cases hgoes : v.Attempts
  · have hgoes' : (v.setTakes { v.takes with waiting := none }).Attempts := hgoes
    obtain ⟨hmade, hroom, hfull⟩ := State.catalogAttempt_settled
      (w := ⟨(v.setTakes { v.takes with waiting := none }).takes.image, 0, ws⟩) hgoes'
    have hstart : (v.setTakes { v.takes with waiting := none }).writeStart ws
        = ((v.setTakes { v.takes with waiting := none }).catalogAttempt
          ⟨(v.setTakes { v.takes with waiting := none }).takes.image, 0, ws⟩).1 := by
      unfold State.writeStart
      dsimp only
      rw [hmade]
      rfl
    rw [hstart]
    generalize (State.catalogAttempt _ _).1.settlePort = t at hroom hfull ⊢
    have hnever : ∀ P : Prop, v.takes.waiting = none ∨ ¬ v.Attempts → P := fun P hstops => by
      rcases hstops with hnone | hstops
      · rw [hnone] at hws
        cases hws
      · exact absurd hgoes hstops
    rcases Nat.lt_or_ge v.takes.catNext 128 with hlt | hge
    · obtain ⟨⟨_, _, rfl⟩, hat⟩ := hroom hlt
      refine ⟨⟨_, _, _, _, _, _, rfl⟩, rfl, rfl, hnever _, fun ws' hws' _ => ?_⟩
      obtain rfl : ws = ws' := Option.some.inj (hws.symm.trans hws')
      exact ⟨rfl, fun _ => ⟨rfl, rfl, hat⟩, fun hge => absurd hlt (Nat.not_lt.mpr hge)⟩
    · obtain ⟨⟨_, _, rfl⟩, hat⟩ := hfull hge
      refine ⟨⟨_, _, _, _, _, _, rfl⟩, rfl, rfl, hnever _, fun ws' hws' _ => ?_⟩
      obtain rfl : ws = ws' := Option.some.inj (hws.symm.trans hws')
      exact ⟨rfl, fun hlt => absurd hge (Nat.not_le.mpr hlt), fun _ => ⟨rfl, rfl, hat⟩⟩
  · have hnobody : AskedByNobody ws := by
      rcases h with hnone | hgo | ⟨ws', hws', hnobody⟩
      · rw [hnone] at hws
        cases hws
      · exact absurd hgo hgoes
      · rw [hws] at hws'
        cases hws'
        exact hnobody
    have hgoes' : ¬ (v.setTakes { v.takes with waiting := none }).Attempts := hgoes
    rw [State.writeStart_fails hgoes', State.told_nobody _ _ hnobody]
    obtain ⟨_, _, heq⟩ := State.settlePort_portSide ((v.setTakes { v.takes with waiting := none }).setTakes
      { (v.setTakes { v.takes with waiting := none }).takes with write := none })
    rw [heq]
    exact ⟨⟨_, _, _, _, _, _, rfl⟩, .of_stopped (.inr hgoes) rfl rfl rfl rfl rfl⟩

/-- A waiting write that fails at once tells the store operation that waits on it (R97, R98). -/
theorem State.startWaiting_fails (hwaiting : v.takes.waiting = some ws) (hstops : ¬ v.Attempts) (h : AskedOnce ws) :
    v.startWaiting = (v.setTakes { v.takes with waiting := none, write := none }).storeOpWritten false := by
  have hgoes' : ¬ (v.setTakes { v.takes with waiting := none }).Attempts := hstops
  unfold State.startWaiting
  rw [hwaiting]
  show (v.setTakes { v.takes with waiting := none }).writeStart ws = _
  rw [State.writeStart_fails hgoes', State.told_asked _ _ h]
  rfl

end Next

end Sys2Proof.Machine
end

section
/-!
Who is told of the end of a catalog write (R84, R86, R87, R90, R91, R93, R94, R97, R98, R121, R124), and the attempts of
one (R97 to R99).
-/

namespace Sys2Proof.Machine

/-! ## The outcome for the store operation -/

/-- What the outcome of a write makes in `t` of the store operation that waits on it in `s` (R84, R86, R87, R90, R93,
R94, R124). -/
def OutcomeTold (s : State) (ok : Bool) (t : State) : Prop :=
  ∀ (op : StoreOp) (e : Entry), s.requests.storeOp = some op →
    s.requests.Lawful → e ∈ s.requests.entries → e.arrival = op.arrival →
    let answered := fun st : Status =>
      Answered s.link { s.requests with storeOp := none } e st [] t
    let records := fun (n : Nat) (f : TakeRecord → TakeRecord) =>
      t.takes.records = s.takes.records.map fun x => if x.number = n then f x else x
    let gone := fun n : Nat => t.takes.records = s.takes.records.filter fun x => x.number ≠ n
    let extents := fun (n : Nat) (x : ExtentState) => t.store.table = s.store.table.map fun y =>
      (y.1, if y.2.owner.any (fun o => o.take = n) then
        ⟨if y.2.state = .owned then x else y.2.state, none⟩ else y.2)
    match op.kind, ok with
    | .openTake _, true => t.takes.openReady = true ∧ t.takes.records = s.takes.records
      ∧ t.requests = s.requests ∧ t.link = s.link
    | .openTake n, false => gone n ∧ extents n .free ∧ t.store.writeState = none ∧ answered .storeFault
    | .pause, _ | .resume, _ | .close, _ => t.takes.records = s.takes.records
      ∧ answered (if ok then .done else .storeFault)
    | .protect _ _, true => t.takes.records = s.takes.records ∧ answered .done
    | .protect n former, false => records n (fun x => { x with isProtected := former })
      ∧ answered .storeFault
    | .delete n, true => gone n ∧ extents n .dirty ∧ answered .done
    | .delete n, false => records n (fun x => { x with deleting := false })
      ∧ t.store.table = s.store.table ∧ answered .storeFault
    | .format, _ => t.store.format = none
      ∧ t.store.state = (if ok then .mounted else s.store.state)
      ∧ answered (if ok then .done else .storeFault)

section Outcome

variable {u t : State} {ok : Bool}

theorem Extent.handBack_eq (x : Extent) (n : Nat) : x.handBack n
    = if x.owner.any (fun o => o.take = n) then ⟨if x.state = .owned then .free else x.state, none⟩ else x := by
  unfold Extent.handBack
  split
  · split <;> rfl
  · rfl

theorem Extent.discard_eq (x : Extent) (n : Nat) : x.discard n
    = if x.owner.any (fun o => o.take = n) then ⟨if x.state = .owned then .dirty else x.state, none⟩ else x := by
  unfold Extent.discard
  split
  · split <;> rfl
  · rfl

/-- A state that the end of a store operation, then the catalog and the port, have led to from `y`: all but these is
that of `y`. -/
theorem CatalogSide.completed {y : State} {st : Status} (h : CatalogSide (y.completeStoreOp st []) t) :
    t.takes.records = y.takes.records ∧ t.store.table = y.store.table ∧ t.store.writeState = y.store.writeState
      ∧ t.store.format = y.store.format ∧ t.store.state = y.store.state := by
  rw [State.completeStoreOp_eq] at h
  obtain ⟨_, _, _, _, _, _, rfl⟩ := h
  exact ⟨rfl, rfl, rfl, rfl, rfl⟩

theorem Answered.catalogSide {l : LinkUnit} {q : RequestQueue} {e : Entry} {st : Status} {ws : List Word} {y : State}
    (h : Answered l q e st ws y) (hside : CatalogSide y t) : Answered l q e st ws t := by
  obtain ⟨_, _, _, _, _, _, rfl⟩ := hside
  exact h

/-- The outcome of a write, for a store operation of a given kind (R84, R86, R87, R90, R93, R94, R124). -/
def State.slotWritten (u : State) (kind : StoreOpKind) (ok : Bool) : State :=
  match kind with
  | .openTake n => if ok then u.setTakes { u.takes with openReady := true } else u.openFailed n
  | .pause | .resume | .close => u.completeStoreOp (if ok then .done else .storeFault) []
  | .protect n former =>
    if ok then u.completeStoreOp .done []
    else (u.mapTake n fun t => { t with isProtected := former }).completeStoreOp .storeFault []
  | .delete n => u.deleteEnd n ok
  | .format => u.formatWritten ok

theorem State.storeOpWritten_slot {op : StoreOp} (h : u.requests.storeOp = some op) :
    u.storeOpWritten ok = u.slotWritten op.kind ok := by
  obtain ⟨kind, a⟩ := op
  cases kind <;> simp only [State.storeOpWritten, State.slotWritten, h]

/-- The store operation that waits on a write has its outcome. -/
theorem State.storeOpWritten_told (h : CatalogSide (u.storeOpWritten ok) t) : OutcomeTold u ok t := by
  intro op e hop hlawful he harrival answered records gone extents
  have hwritten : ∀ (y : State) (st : Status), u.storeOpWritten ok = y.completeStoreOp st [] → y.link = u.link →
      y.requests = u.requests → CatalogSide (y.completeStoreOp st []) t ∧ answered st := by
    intro y st hy hlink hrequests
    rw [hy] at h
    refine ⟨h, Answered.catalogSide ?_ h⟩
    rw [← hlink, ← hrequests]
    exact State.completeStoreOp_answered (by rwa [hrequests]) (by rwa [hrequests]) (by rwa [hrequests]) harrival st []
  obtain ⟨kind, a⟩ := op
  have hkind := State.storeOpWritten_slot (ok := ok) hop
  cases kind with
  | openTake n =>
    cases ok with
    | true =>
      rw [show u.storeOpWritten true = u.setTakes { u.takes with openReady := true } from hkind] at h
      obtain ⟨_, _, _, _, _, _, rfl⟩ := h
      exact ⟨rfl, rfl, rfl, rfl⟩
    | false =>
      obtain ⟨hside, hanswered⟩ := hwritten _ _ hkind rfl rfl
      obtain ⟨hrecords, htable, hws, -, -⟩ := hside.completed
      refine ⟨hrecords, htable.trans ?_, hws, hanswered⟩
      exact List.map_congr_left fun y _ => congrArg (Prod.mk y.1) (y.2.handBack_eq n)
  | pause | resume | close =>
    obtain ⟨hside, hanswered⟩ := hwritten _ _ hkind rfl rfl
    exact ⟨hside.completed.1, hanswered⟩
  | protect n former =>
    cases ok <;>
    · obtain ⟨hside, hanswered⟩ := hwritten _ _ hkind rfl rfl
      exact ⟨hside.completed.1, hanswered⟩
  | delete n =>
    cases ok with
    | true =>
      obtain ⟨hside, hanswered⟩ := hwritten _ _ hkind rfl rfl
      obtain ⟨hrecords, htable, -⟩ := hside.completed
      refine ⟨hrecords, htable.trans ?_, hanswered⟩
      exact List.map_congr_left fun y _ => congrArg (Prod.mk y.1) (y.2.discard_eq n)
    | false =>
      obtain ⟨hside, hanswered⟩ := hwritten _ _ hkind rfl rfl
      obtain ⟨hrecords, htable, -⟩ := hside.completed
      exact ⟨hrecords, htable, hanswered⟩
  | format =>
    cases ok <;>
    · obtain ⟨hside, hanswered⟩ := hwritten _ _ hkind rfl rfl
      obtain ⟨-, -, -, hformat, hstate⟩ := hside.completed
      exact ⟨hformat, hstate, hanswered⟩

/-- The store operation that waits on a waiting write that fails at once has its outcome (R97, R98). -/
theorem State.startWaiting_told {v : State} {ws : List Waiter} (hwaiting : v.takes.waiting = some ws)
    (hstops : ¬ v.Attempts) (hasked : AskedOnce ws) :
    NextWrite v v.takes v.startWaiting.settlePort ∧ OutcomeTold v false v.startWaiting.settlePort := by
  rw [State.startWaiting_fails hwaiting hstops hasked]
  obtain ⟨hwrite, hwaits, hcurrent, hnext, hseq, -⟩ :=
    (State.storeOpWritten_outcomeSide (v.setTakes { v.takes with waiting := none, write := none }) false).catalogAs
  have hport := State.settlePort_portSide
    ((v.setTakes { v.takes with waiting := none, write := none }).storeOpWritten false)
  refine ⟨?_, State.storeOpWritten_told (u := v.setTakes { v.takes with waiting := none, write := none })
    hport.catalogSide⟩
  obtain ⟨_, _, hsettled⟩ := hport
  rw [hsettled]
  exact .of_stopped (.inr hstops) hcurrent hwaits hwrite hnext hseq

end Outcome

/-! ## Who is told -/

/-- All but the modules, the takes, the store, the Link Unit and the Request Queue is as it was. -/
def CatalogRest (s t : State) : Prop := t = { s with
  freeCount := t.freeCount, flash := t.flash, takes := t.takes, store := t.store, link := t.link
  requests := t.requests }

/-- No request has been answered and no record changed. -/
def Unanswered (s t : State) : Prop := t.requests = s.requests ∧ t.link = s.link
  ∧ t.takes = { s.takes with
      write := t.takes.write, waiting := t.takes.waiting
      catCurrent := t.takes.catCurrent, catNext := t.takes.catNext, catSeq := t.takes.catSeq }

/-- The write `w` in flight in `s` has ended on the way to `t`, with the catalog position of `c` (R97, R98). -/
def WriteTold (s : State) (w : CatalogWrite) (c : TakeController) (ok : Bool) (t : State) : Prop := CatalogRest s t
  ∧ (AskedOnce w.waiters → (∀ ws, s.takes.waiting = some ws → AskedByNobody ws) → NextWrite s c t ∧ OutcomeTold s ok t)
  ∧ (w.waiters = [.mount] → s.takes.waiting = none → ∀ m, s.store.mount = some m →
    t.takes.write = none ∧ t.takes.records = s.takes.records ∧ t.store.mount = none
      ∧ t.store.state = (if .answering ∈ s.store.modules then
          if m.loaded then .mounted else .unformatted else .fault)
      ∧ t.requests = s.requests ∧ t.link = s.link)
  ∧ (AskedByNobody w.waiters →
    (s.takes.waiting = none ∨ s.Attempts → NextWrite s c t ∧ Unanswered s t)
    ∧ ∀ ws, s.takes.waiting = some ws → ¬ s.Attempts →
      (AskedByNobody ws → NextWrite s c t ∧ Unanswered s t)
      ∧ (AskedOnce ws → NextWrite s c t ∧ OutcomeTold s false t))

/-- `x` is `s` once a catalog operation has ended, the catalog position being extent `cc` and page `cn` (R97, R99). -/
def CatalogEnded (s : State) (cc cn : Nat) (x : State) : Prop :=
  ∃ freeCount flash failures mismatches inFlight waiting write, x = { s with
    freeCount := freeCount, flash := flash
    takes := { s.takes with write := write, catCurrent := cc, catNext := cn }
    store := { s.store with
      programFailures := failures, verifyMismatches := mismatches, inFlight := inFlight, waiting := waiting } }

/-- The write in flight ends in `x`, and who waits on it is told (R98). -/
def State.writtenFor (x : State) (ws : List Waiter) (ok : Bool) : State :=
  (ws.foldl (State.waiterTold ok) (x.setTakes { x.takes with write := none })).startWaiting

section Told

variable {s x t : State} {ws : List Waiter} {w : CatalogWrite} {ok : Bool} {cc cn : Nat}

theorem CatalogAs.nextWrite {u v : State} (h : CatalogAs u v) (k : NextWrite v v.takes t) : NextWrite u u.takes t := by
  have hattempts : v.Attempts ↔ u.Attempts := by
    unfold State.Attempts
    rw [h.answers, h.seq]
  obtain ⟨hwaiting, hcurrent, hstops, hgoes⟩ := k
  rw [h.waiting, hattempts, h.next, h.seq] at hstops
  rw [h.waiting, h.next, h.seq, h.current, hattempts] at hgoes
  exact ⟨hwaiting, hcurrent.trans h.current, hstops, hgoes⟩

theorem CatalogSide.unanswered {u : State} (h : CatalogSide u t) : Unanswered u t := by
  obtain ⟨_, _, _, _, _, _, rfl⟩ := h
  exact ⟨rfl, rfl, rfl⟩

theorem State.writtenFor_writtenSide (x : State) (ws : List Waiter) (ok : Bool) :
    WrittenSide x (x.writtenFor ws ok).settlePort :=
  ((WrittenSide.takes x _).trans ((State.told_writtenSide ok ws _).trans (State.startWaiting_writtenSide _))).trans
    (.port (State.settlePort_portSide _))

/-- A store operation hears of the write it waits on; no one hears of the one that waits behind it. -/
theorem State.writtenFor_askedOnce (h : AskedOnce ws) (hwaiting : ∀ v, x.takes.waiting = some v → AskedByNobody v) :
    NextWrite x x.takes (x.writtenFor ws ok).settlePort ∧ OutcomeTold x ok (x.writtenFor ws ok).settlePort := by
  have hcatalog := ((x.setTakes { x.takes with write := none }).storeOpWritten_outcomeSide ok).catalogAs
  have hstart : ∀ v : State, v.takes.waiting = x.takes.waiting →
      v.takes.waiting = none ∨ v.Attempts ∨ ∃ ws, v.takes.waiting = some ws ∧ AskedByNobody ws := by
    intro v hv
    rw [hv]
    cases hws : x.takes.waiting with
    | none => exact .inl rfl
    | some ws => exact .inr (.inr ⟨ws, rfl, hwaiting ws hws⟩)
  obtain ⟨hside, hnext⟩ := State.startWaiting_settled
    (v := (x.setTakes { x.takes with write := none }).storeOpWritten ok) hcatalog.write (hstart _ hcatalog.waiting)
  unfold State.writtenFor
  rw [State.told_asked ok ws h]
  exact ⟨hcatalog.nextWrite hnext, State.storeOpWritten_told (u := x.setTakes { x.takes with write := none }) hside⟩

/-- The mount hears of the write it waits on, and ends (R101, R121). -/
theorem State.writtenFor_mount {m : Mount} (hwaiting : x.takes.waiting = none) (hmount : x.store.mount = some m) :
    let t := (x.writtenFor [.mount] ok).settlePort
    t.takes.write = none ∧ t.takes.records = x.takes.records ∧ t.store.mount = none
      ∧ t.store.state = (if .answering ∈ x.store.modules then
          if m.loaded then .mounted else .unformatted else .fault)
      ∧ t.requests = x.requests ∧ t.link = x.link := by
  intro t
  have hside : PortSide ((x.setTakes { x.takes with write := none }).mountEnd) t := by
    have hended : x.writtenFor [.mount] ok = ((x.setTakes { x.takes with write := none }).mountEnd).startWaiting := rfl
    have hrest : ((x.setTakes { x.takes with write := none }).mountEnd).startWaiting
        = (x.setTakes { x.takes with write := none }).mountEnd := by
      unfold State.startWaiting
      rw [show ((x.setTakes { x.takes with write := none }).mountEnd).takes.waiting = none from hwaiting]
    show PortSide _ (x.writtenFor [.mount] ok).settlePort
    rw [hended, hrest]
    exact State.settlePort_portSide _
  clear_value t
  obtain ⟨_, _, rfl⟩ := hside
  refine ⟨rfl, rfl, rfl, ?_, rfl, rfl⟩
  have hanswers : x.store.anyAnswers = true ↔ .answering ∈ x.store.modules := by
    simp [StoreController.anyAnswers]
  show (if !x.store.anyAnswers then StoreState.fault
    else if x.store.mount.any (·.loaded) then .mounted else .unformatted) = _
  rw [hmount]
  by_cases hans : x.store.anyAnswers = true
  · rw [if_neg (by simp [hans]), if_pos (hanswers.mp hans)]
    rfl
  · rw [if_pos (by simpa using hans), if_neg (mt hanswers.mpr hans)]

/-- No one hears of the write that has ended. -/
theorem State.writtenFor_nobody (h : AskedByNobody ws) :
    (x.takes.waiting = none ∨ x.Attempts ∨ (∃ v, x.takes.waiting = some v ∧ AskedByNobody v) →
      NextWrite x x.takes (x.writtenFor ws ok).settlePort
        ∧ Unanswered (x.setTakes { x.takes with write := none }) (x.writtenFor ws ok).settlePort)
    ∧ ∀ v, x.takes.waiting = some v → ¬ x.Attempts → AskedOnce v →
      NextWrite x x.takes (x.writtenFor ws ok).settlePort ∧ OutcomeTold x false (x.writtenFor ws ok).settlePort := by
  unfold State.writtenFor
  rw [State.told_nobody ok ws h]
  refine ⟨fun hstart => ?_, fun v hv hstops hasked => ?_⟩
  · obtain ⟨hside, hnext⟩ := State.startWaiting_settled (v := x.setTakes { x.takes with write := none }) rfl hstart
    exact ⟨hnext, hside.unanswered⟩
  · exact State.startWaiting_told (v := x.setTakes { x.takes with write := none }) hv hstops hasked

/-- Who waits on a write has its outcome, and the write behind it starts or fails (R97, R98). -/
theorem CatalogEnded.told (h : CatalogEnded s cc cn x) (w : CatalogWrite) (ok : Bool) :
    WriteTold s w { s.takes with catCurrent := cc, catNext := cn } ok (x.writtenFor w.waiters ok).settlePort := by
  have hside := x.writtenFor_writtenSide w.waiters ok
  obtain ⟨_, _, _, _, _, _, _, rfl⟩ := h
  refine ⟨?_, fun hasked hwaiting => State.writtenFor_askedOnce hasked hwaiting, fun hmount hwaiting m hm => ?_,
    fun hnobody => ⟨fun hstart => ?_, fun ws hws hstops => ⟨fun hnext => ?_, fun hasked => ?_⟩⟩⟩
  · generalize State.settlePort _ = t at hside
    obtain ⟨_, _, _, _, _, _, _, _, _, _, rfl⟩ := hside
    rfl
  · rw [hmount]
    exact State.writtenFor_mount hwaiting hm
  · exact (State.writtenFor_nobody hnobody).1 (hstart.imp_right .inl)
  · exact (State.writtenFor_nobody hnobody).1 (.inr (.inr ⟨ws, hws, hnext⟩))
  · exact (State.writtenFor_nobody hnobody).2 ws hws hstops hasked

end Told

end Sys2Proof.Machine
end

section
/-!
The ends of a catalog program, verify and erase (R96 to R99, R126), and the words of a catalog page (R96, R199).
-/

namespace Sys2Proof.Machine

/-! ## A failed attempt -/

section Attempt

variable {s x : State} {w : CatalogWrite} {ok g : Bool} {cc cn n : Nat}

theorem State.writeEnd_writtenFor (h : x.takes.write = some w) (ok : Bool) :
    x.writeEnd ok = x.writtenFor w.waiters ok := by
  rw [State.writeEnd_eq, State.writeOutcome_eq ok h]
  rfl

/-- A failed attempt is made again up to three times, while one can be made (R98). -/
theorem State.attemptFailed_again (h : x.takes.write = some w) (hfailed : w.failed < 3) (hgoes : x.Attempts) :
    x.attemptFailed = (x.catalogAttempt { w with failed := w.failed + 1 }).1 := by
  have hmore : ¬ Config.catalogAttempts ≤ w.failed + 1 := Nat.not_le.mpr (Nat.succ_lt_succ hfailed)
  unfold State.attemptFailed
  rw [h]
  dsimp only
  rw [if_neg hmore, (State.catalogAttempt_settled hgoes).1]
  rfl

/-- After the fourth failed attempt, or where no further one can be made, the write ends with failure (R98). -/
theorem State.attemptFailed_ends (h : x.takes.write = some w) (hends : 3 ≤ w.failed ∨ ¬ x.Attempts) :
    x.attemptFailed = x.writtenFor w.waiters false := by
  unfold State.attemptFailed
  rw [h]
  dsimp only
  split
  · exact State.writeEnd_writtenFor h false
  · rename_i hmore
    have hstops : ¬ x.Attempts := hends.resolve_left fun hle => hmore (Nat.succ_le_succ hle)
    rw [State.catalogAttempt_fails hstops]
    exact State.writeEnd_writtenFor (x := x.setTakes { x.takes with write := some { w with failed := w.failed + 1 } })
      rfl false

/-- The attempt of the write `w` is made again on the way to `t` (R98, R99). -/
def CatalogAgain (s : State) (w : CatalogWrite) (t : State) : Prop :=
  CatalogRest s t ∧ t.requests = s.requests ∧ t.link = s.link
    ∧ (s.takes.catNext < 128 →
      t.takes = { s.takes with
          write := some { w with failed := w.failed + 1 }
          catSeq := s.takes.catSeq + 1, catNext := s.takes.catNext + 1 }
        ∧ t.AtPort (.catalogProgram ⟨s.takes.catCurrent, s.takes.catNext⟩
          (catalogPage w.image (s.takes.catSeq + 1) s.takes.catNext)))
    ∧ (128 ≤ s.takes.catNext →
      t.takes = { s.takes with write := some { w with failed := w.failed + 1 } }
        ∧ t.AtPort (.catalogErase (1 - s.takes.catCurrent)))

theorem CatalogEnded.attempts (h : CatalogEnded s cc cn x) : x.Attempts ↔ s.Attempts := by
  obtain ⟨_, _, _, _, _, _, _, rfl⟩ := h
  exact Iff.rfl

theorem CatalogEnded.again (h : CatalogEnded s s.takes.catCurrent s.takes.catNext x) (hgoes : s.Attempts) :
    CatalogAgain s w (x.catalogAttempt { w with failed := w.failed + 1 }).1.settlePort := by
  obtain ⟨-, hroom, hfull⟩ := State.catalogAttempt_settled (w := { w with failed := w.failed + 1 })
    (h.attempts.mpr hgoes)
  obtain ⟨_, _, _, _, _, _, _, rfl⟩ := h
  generalize (State.catalogAttempt _ _).1.settlePort = t at hroom hfull ⊢
  rcases Nat.lt_or_ge s.takes.catNext 128 with hlt | hge
  · obtain ⟨⟨_, _, rfl⟩, hat⟩ := hroom hlt
    exact ⟨rfl, rfl, rfl, fun _ => ⟨rfl, hat⟩, fun hge => absurd hlt (Nat.not_lt.mpr hge)⟩
  · obtain ⟨⟨_, _, rfl⟩, hat⟩ := hfull hge
    exact ⟨rfl, rfl, rfl, fun hlt => absurd hge (Nat.not_le.mpr hlt), fun _ => ⟨rfl, hat⟩⟩

/-- An erase of the other extent has ended well, and the attempt goes to its page 0 (R99). -/
theorem CatalogEnded.erased {e : Nat} (h : CatalogEnded s s.takes.catCurrent s.takes.catNext x)
    (hw : x.takes.write = some w) (hsw : s.takes.write = some w) (hgoes : s.Attempts) :
    let t := (x.catalogErased e).settlePort
    CatalogRest s t ∧ t.requests = s.requests ∧ t.link = s.link
      ∧ t.takes = { s.takes with catCurrent := e, catNext := 1, catSeq := s.takes.catSeq + 1 }
      ∧ t.AtPort (.catalogProgram ⟨e, 0⟩ (catalogPage w.image (s.takes.catSeq + 1) 0)) := by
  intro t
  have hgoes' : (x.setTakes { x.takes with catCurrent := e, catNext := 0 }).Attempts := h.attempts.mpr hgoes
  obtain ⟨hmade, hroom, -⟩ := State.catalogAttempt_settled (w := w) hgoes'
  have hattempt : x.catalogErased e
      = ((x.setTakes { x.takes with catCurrent := e, catNext := 0 }).catalogAttempt w).1 := by
    unfold State.catalogErased
    rw [hw]
    dsimp only
    rw [hmade]
    rfl
  obtain ⟨hport, hat⟩ := hroom (by decide : 0 < 128)
  rw [← hattempt] at hport hat
  change PortSide _ t at hport
  change t.AtPort _ at hat
  clear_value t
  obtain ⟨_, _, _, _, _, _, _, rfl⟩ := h
  obtain ⟨_, _, rfl⟩ := hport
  refine ⟨rfl, rfl, rfl, ?_, hat⟩
  rw [← hsw]
  rfl

/-- An erase of the other extent has ended well, but no attempt can be made there (R98, R99). -/
theorem State.catalogErased_ends {e : Nat} (hw : x.takes.write = some w) (hstops : ¬ x.Attempts) :
    x.catalogErased e
      = (x.setTakes { x.takes with catCurrent := e, catNext := 0 }).writtenFor w.waiters false := by
  have hstops' : ¬ (x.setTakes { x.takes with catCurrent := e, catNext := 0 }).Attempts := hstops
  unfold State.catalogErased
  rw [hw]
  dsimp only
  rw [State.catalogAttempt_fails hstops']
  exact State.writeEnd_writtenFor (x := (x.setTakes { x.takes with catCurrent := e, catNext := 0 }).setTakes
    { (x.setTakes { x.takes with catCurrent := e, catNext := 0 }).takes with write := some w }) rfl false

/-! ## The ends of catalog operations -/

/-- What else the end of a write leaves. -/
theorem WrittenSide.counters {t : State} (h : WrittenSide x t) : t.flash = x.flash
    ∧ t.store.programFailures = x.store.programFailures ∧ t.store.verifyMismatches = x.store.verifyMismatches := by
  obtain ⟨_, _, _, _, _, _, _, _, _, _, rfl⟩ := h
  exact ⟨rfl, rfl, rfl⟩

theorem EndedSide.catalogEnded (h : EndedSide s x) : CatalogEnded s s.takes.catCurrent s.takes.catNext x := by
  obtain ⟨_, _, _, _, rfl⟩ := h
  exact ⟨_, _, _, _, _, _, _, rfl⟩

theorem EndedSide.takes (h : EndedSide s x) : x.takes = s.takes := by
  obtain ⟨_, _, _, _, rfl⟩ := h
  rfl

theorem EndedSide.counters (h : EndedSide s x) : x.store.programFailures = s.store.programFailures
    ∧ x.store.verifyMismatches = s.store.verifyMismatches ∧ x.store.verify = s.store.verify := by
  obtain ⟨_, _, _, _, rfl⟩ := h
  exact ⟨rfl, rfl, rfl⟩

theorem PortSide.endedSide (h : PortSide s x) : EndedSide s x := by
  obtain ⟨_, _, rfl⟩ := h
  exact ⟨_, _, _, _, rfl⟩

theorem EndedSide.port {t : State} (h : EndedSide s x) (hport : PortSide x t) : EndedSide s t := by
  obtain ⟨_, _, _, _, rfl⟩ := h
  obtain ⟨_, _, rfl⟩ := hport
  exact ⟨_, _, _, _, rfl⟩

theorem EndedSide.rest (h : EndedSide s x) : CatalogRest s x ∧ x.requests = s.requests ∧ x.link = s.link := by
  obtain ⟨_, _, _, _, rfl⟩ := h
  exact ⟨rfl, rfl, rfl⟩

theorem State.catalogErased_writtenSide (x : State) (e : Nat) : WrittenSide x (x.catalogErased e) := by
  unfold State.catalogErased
  split
  · exact .refl x
  dsimp only
  have hattempt := fun w => (WrittenSide.takes x _).trans (State.catalogAttempt_writtenSide
    (x.setTakes { x.takes with catCurrent := e, catNext := 0 }) w)
  split
  · exact hattempt _
  · exact (hattempt _).trans ((State.writeOutcome_writtenSide _ false).trans (State.startWaiting_writtenSide _))

theorem EndedSide.countProgramFailure (h : EndedSide s x) :
    CatalogEnded s s.takes.catCurrent s.takes.catNext x.countProgramFailure := by
  obtain ⟨_, _, _, _, rfl⟩ := h
  exact ⟨_, _, _, _, _, _, _, rfl⟩

theorem EndedSide.countMismatch (h : EndedSide s x) :
    CatalogEnded s s.takes.catCurrent s.takes.catNext x.countMismatch := by
  obtain ⟨_, _, _, _, rfl⟩ := h
  exact ⟨_, _, _, _, _, _, _, rfl⟩

theorem CatalogEnded.erasing {e : Nat} (h : CatalogEnded s cc cn x) :
    CatalogEnded s e 0 (x.setTakes { x.takes with catCurrent := e, catNext := 0 }) := by
  obtain ⟨_, _, _, _, _, _, _, rfl⟩ := h
  exact ⟨_, _, _, _, _, _, _, rfl⟩

/-- What follows a failed attempt: another one, or the end of the write with failure (R98). -/
theorem CatalogEnded.attemptFailed (h : CatalogEnded s s.takes.catCurrent s.takes.catNext x)
    (hw : x.takes.write = some w) : WrittenSide x x.attemptFailed.settlePort
      ∧ (w.failed < 3 → s.Attempts → CatalogAgain s w x.attemptFailed.settlePort)
      ∧ (3 ≤ w.failed ∨ ¬ s.Attempts → WriteTold s w s.takes false x.attemptFailed.settlePort) := by
  refine ⟨?_, fun hfailed hgoes => ?_, fun hends => ?_⟩
  · by_cases hmore : w.failed < 3 ∧ x.Attempts
    · rw [State.attemptFailed_again hw hmore.1 hmore.2]
      exact (x.catalogAttempt_writtenSide _).trans (.port (State.settlePort_portSide _))
    · rw [State.attemptFailed_ends hw ((not_and_or.mp hmore).imp_left Nat.not_lt.mp)]
      exact x.writtenFor_writtenSide _ _
  · rw [State.attemptFailed_again hw hfailed (h.attempts.mpr hgoes)]
    exact h.again hgoes
  · rw [State.attemptFailed_ends hw (hends.imp_right (mt h.attempts.mp))]
    exact h.told w false

theorem exec_catalogProgramEnd {a : PageAddress} {p : PageImage}
    (h : s.store.inFlight = some ⟨.catalogProgram a p, n⟩) : exec (.catalogProgramEnd ok g) s = .next
      (if !ok then (s.freed (.catalogProgram a p) ok g).countProgramFailure.attemptFailed
        else if s.store.verify then (s.freed (.catalogProgram a p) ok g).submit (.catalogVerify a p)
        else (s.freed (.catalogProgram a p) ok g).writeEnd true).settlePort := by
  rw [← (s.freed_side (.catalogProgram a p) ok g).counters.2.2]
  show execCatalogProgramEnd ok g s = _
  simp only [execCatalogProgramEnd, h, State.freed] <;> rfl

theorem exec_catalogVerifyEnd {a : PageAddress} {p : PageImage} {answer : Answer}
    (h : s.store.inFlight = some ⟨.catalogVerify a p, n⟩) : exec (.catalogVerifyEnd answer g) s = .next
      (if s.fetched a answer = some p then (s.freePort g).writeEnd true
        else (s.freePort g).countMismatch.attemptFailed).settlePort := by
  show execCatalogVerifyEnd answer g s = _
  simp only [execCatalogVerifyEnd, h]

theorem exec_catalogEraseEnd {e : Nat} (h : s.store.inFlight = some ⟨.catalogErase e, n⟩) :
    exec (.catalogEraseEnd ok g) s = .next
      (if ok then (s.freed (.catalogErase e) ok g).catalogErased e
        else (s.freed (.catalogErase e) ok g).writeEnd false).settlePort := by
  show execCatalogEraseEnd ok g s = _
  simp only [execCatalogEraseEnd, h, State.freed]

/-- A program that has ended well can be read back (R103). -/
theorem State.freed_catalogProgram (a : PageAddress) (p : PageImage) (g : Bool) (hf : s.flash.Wf) :
    (s.freed (.catalogProgram a p) true g).flash.read a.key = p := by
  rw [State.freed_flash]
  exact FlashMemory.read_write_same s.flash a.key p hf

end Attempt

/-! ## A catalog page -/

section Page

variable {c : TakeController} {seq page : Nat}

theorem fitWords_length (n : Nat) (ws : List Word) : (fitWords n ws).length = n := by
  simp [fitWords]

/-- The words of the slots of a catalog page, and the words of 0 behind them (R96). -/
def TakeController.slots (c : TakeController) : List Word :=
  (((c.records.filter fun k : TakeRecord => !k.deleting).map TakeRecord.slotWords).flatten ++ List.replicate 4094 0).take 4092

theorem catalogPage_data : (catalogPage c.image seq page).data = 0x4E5A4341 :: natWord seq :: natWord c.nextTake
    :: natWord (c.records.filter fun k : TakeRecord => !k.deleting).length :: c.slots := rfl

theorem flatten_slots_drop (ks : List TakeRecord) (rest : List Word) : ∀ (j : Nat) (k : TakeRecord), ks[j]? = some k →
    (((ks.map TakeRecord.slotWords).flatten ++ rest).drop (48 * j)).take 48 = k.slotWords := by
  induction ks with
  | nil => exact fun j k h => by cases h
  | cons x ks ih =>
    have hx := x.slotWords_length
    intro j k h
    rw [List.map_cons, List.flatten_cons, List.append_assoc]
    cases j with
    | zero =>
      obtain rfl : x = k := by simpa using h
      rw [Nat.mul_zero, List.drop_zero, List.take_append_of_le_length hx.ge, List.take_of_length_le hx.le]
    | succ j =>
      rw [Nat.mul_succ, Nat.add_comm, ← List.drop_drop, List.drop_append_of_le_length hx.ge,
        List.drop_of_length_le hx.le, List.nil_append]
      exact ih j k (by simpa using h)

theorem flatten_slots_length (ks : List TakeRecord) : (ks.map TakeRecord.slotWords).flatten.length = 48 * ks.length := by
  induction ks with
  | nil => rfl
  | cons x ks ih => rw [List.map_cons, List.flatten_cons, List.length_append, x.slotWords_length, ih, List.length_cons,
      Nat.mul_succ, Nat.add_comm]

/-- Each record that is not deleting has its slot (R96, R199). -/
theorem TakeController.slots_slot (hlen : (c.records.filter fun k : TakeRecord => !k.deleting).length ≤ 64) {j : Nat} {k : TakeRecord}
    (h : (c.records.filter fun k : TakeRecord => !k.deleting)[j]? = some k) : (c.slots.drop (48 * j)).take 48 = k.slotWords := by
  have hj : j < 64 := Nat.lt_of_lt_of_le (List.getElem?_eq_some_iff.mp h).1 hlen
  rw [TakeController.slots, List.drop_take, List.take_take, Nat.min_eq_left (by omega)]
  exact flatten_slots_drop _ _ j k h

/-- Behind the slots a catalog page holds words of 0 (R96). -/
theorem TakeController.slots_zero {j : Nat} (h : 48 * (c.records.filter fun k : TakeRecord => !k.deleting).length ≤ j) :
    c.slots.getD j 0 = 0 := by
  rw [TakeController.slots, List.getD_eq_getElem?_getD, List.getElem?_take]
  split
  · rw [List.getElem?_append_right (by rwa [flatten_slots_length]), List.getElem?_replicate]
    split <;> rfl
  · rfl

end Page

/-- Settles O57: the end of a write is one fold over those that wait on it, of whom one at most is a store operation or
the mount; the write that waits then makes its first attempt or fails in the same way. -/
theorem catalogWriteEnds : Obligations.CatalogWriteEnds := by
  intro s g w hw
  refine ⟨fun a p n hflight => ⟨fun hverify => ⟨_, exec_catalogProgramEnd hflight, ?_⟩,
      fun hverify => ⟨_, exec_catalogProgramEnd hflight, ?_⟩,
      fun hfailed hgoes => ⟨_, exec_catalogProgramEnd hflight, ?_⟩,
      fun hends => ⟨_, exec_catalogProgramEnd hflight, ?_⟩⟩,
    fun a p n answer hflight => ⟨fun hgot => ⟨_, exec_catalogVerifyEnd hflight, ?_⟩,
      fun hgot hfailed hgoes => ⟨_, exec_catalogVerifyEnd hflight, ?_⟩,
      fun hgot hends => ⟨_, exec_catalogVerifyEnd hflight, ?_⟩⟩,
    fun e n hflight => ⟨fun hgoes => ⟨_, exec_catalogEraseEnd hflight, ?_⟩,
      fun hstops => ⟨_, exec_catalogEraseEnd hflight, ?_⟩, ⟨_, exec_catalogEraseEnd hflight, ?_⟩⟩,
    fun seq page => ?_⟩
  · obtain ⟨hport, hat⟩ := (s.freed (.catalogProgram a p) true g).submit_settled (.catalogVerify a p)
    rw [if_neg (by decide), if_pos hverify]
    have hread := s.freed_catalogProgram a p g
    have hside := (s.freed_side (.catalogProgram a p) true g).port hport
    rw [← hport.flash] at hread
    obtain ⟨hrest, hrequests, hlink⟩ := hside.rest
    exact ⟨hrest, hside.takes, hrequests, hlink, hat, hread⟩
  · have hside := s.freed_side (.catalogProgram a p) true g
    have hread := s.freed_catalogProgram a p g
    rw [if_neg (by decide), if_neg (by simp [hverify]), State.writeEnd_writtenFor (hside.takes ▸ hw)]
    refine ⟨hside.catalogEnded.told w true, fun hf => ?_⟩
    rw [(State.writtenFor_writtenSide _ _ _).counters.1]
    exact hread hf
  · have hside := s.freed_side (.catalogProgram a p) false g
    obtain ⟨hwritten, hagain, -⟩ := hside.countProgramFailure.attemptFailed (hside.takes ▸ hw)
    exact ⟨hagain hfailed hgoes, hwritten.counters.2.1.trans (congrArg (countUp · 1) hside.counters.1)⟩
  · have hside := s.freed_side (.catalogProgram a p) false g
    obtain ⟨hwritten, -, htold⟩ := hside.countProgramFailure.attemptFailed (hside.takes ▸ hw)
    exact ⟨htold hends, hwritten.counters.2.1.trans (congrArg (countUp · 1) hside.counters.1)⟩
  · have hside := (s.freePort_portSide g).endedSide
    rw [if_pos hgot, State.writeEnd_writtenFor (hside.takes ▸ hw)]
    exact hside.catalogEnded.told w true
  · have hside := (s.freePort_portSide g).endedSide
    obtain ⟨hwritten, hagain, -⟩ := hside.countMismatch.attemptFailed (hside.takes ▸ hw)
    rw [if_neg hgot]
    exact ⟨hagain hfailed hgoes, hwritten.counters.2.2.trans (congrArg (countUp · 1) hside.counters.2.1)⟩
  · have hside := (s.freePort_portSide g).endedSide
    obtain ⟨hwritten, -, htold⟩ := hside.countMismatch.attemptFailed (hside.takes ▸ hw)
    rw [if_neg hgot]
    exact ⟨htold hends, hwritten.counters.2.2.trans (congrArg (countUp · 1) hside.counters.2.1)⟩
  · have hside := s.freed_side (.catalogErase e) true g
    have hflash : (s.freed (.catalogErase e) true g).flash = s.flash.eraseExtent e := s.freed_flash _ _ _
    obtain ⟨hrest, hrequests, hlink, htakes, hat⟩ := hside.catalogEnded.erased (e := e) (hside.takes ▸ hw) hw hgoes
    rw [if_pos rfl]
    refine ⟨hrest, hrequests, hlink, htakes, hat, fun k hk => ?_⟩
    rw [((State.catalogErased_writtenSide _ e).trans (.port (State.settlePort_portSide _))).counters.1, hflash]
    exact eraseExtent_erased _ hk
  · have hside := s.freed_side (.catalogErase e) true g
    have hflash : (s.freed (.catalogErase e) true g).flash = s.flash.eraseExtent e := s.freed_flash _ _ _
    rw [if_pos rfl, State.catalogErased_ends (hside.takes ▸ hw) (mt hside.catalogEnded.attempts.mp hstops)]
    refine ⟨hside.catalogEnded.erasing.told w false, fun k hk => ?_⟩
    rw [(State.writtenFor_writtenSide _ _ _).counters.1]
    show (s.freed (.catalogErase e) true g).flash.read k = _
    rw [hflash]
    exact eraseExtent_erased _ hk
  · have hside := s.freed_side (.catalogErase e) false g
    rw [if_neg (by decide), State.writeEnd_writtenFor (hside.takes ▸ hw)]
    exact hside.catalogEnded.told w false
  · intro kept p
    have hdata : p.data = 0x4E5A4341 :: natWord seq :: natWord s.takes.nextTake :: natWord kept.length :: s.takes.slots :=
      catalogPage_data
    refine ⟨rfl, ?_, rfl, ?_, fun hlen _ => ⟨fun j k hk => ?_, fun j hj hlt => ?_⟩⟩
    · show (fitWords 4094 _).length + 2 = 4096
      rw [fitWords_length]
    · rw [hdata]
      rfl
    · rw [hdata, Nat.add_comm]
      exact TakeController.slots_slot hlen hk
    · obtain ⟨i, rfl⟩ := Nat.exists_eq_add_of_le (Nat.le_of_add_right_le hj)
      rw [hdata, Nat.add_comm]
      exact TakeController.slots_zero (Nat.le_of_add_le_add_left hj)

end Sys2Proof.Machine
end

section
/-!
What the store's moving on leaves of the port and of the extent table (R105, R111, R113, R118): an operation that no
readout waits for stays at the port, and an extent that is not FREE keeps its entry.
-/

namespace Sys2Proof.Machine

/-! ## The port -/

/-- Every operation that no readout waits for is at the port in `t` if it is in `s`. -/
def PortKept (s t : State) : Prop := ∀ op : PortOp, op.unwant = op → s.AtPort op → t.AtPort op

namespace PortKept

variable {s t u : State}

theorem refl (s : State) : PortKept s s := fun _ _ h => h

theorem trans (h : PortKept s t) (k : PortKept t u) : PortKept s u := fun op hop hs => k op hop (h op hop hs)

theorem of_eq (hi : t.store.inFlight = s.store.inFlight) (hw : t.store.waiting = s.store.waiting) : PortKept s t := by
  intro op _ h
  unfold State.AtPort
  rwa [hi, hw]

theorem submit (s : State) (op : PortOp) : PortKept s (s.submit op) := fun _ _ h => h.submit

theorem settlePort (s : State) : PortKept s s.settlePort := fun _ _ h => h.settlePort

theorem setReadout (s : State) (r : ReadoutEngine) : PortKept s (s.setReadout r) := of_eq rfl rfl

theorem setLink (s : State) (l : LinkUnit) : PortKept s { s with link := l } := of_eq rfl rfl

theorem unwanted (hi : t.store.inFlight = s.store.inFlight.map fun j => { j with op := j.op.unwant })
    (hw : t.store.waiting = s.store.waiting.map PortOp.unwant) : PortKept s t := by
  intro op hop h
  rcases h with hmem | hflight
  · refine .inl ?_
    rw [hw]
    exact List.mem_map.mpr ⟨op, hmem, hop⟩
  · refine .inr ?_
    obtain ⟨j, hj, hop'⟩ := Option.map_eq_some_iff.mp hflight
    rw [hi, hj]
    show some j.op.unwant = some op
    rw [hop', hop]

end PortKept

section Port

variable {s : State}

theorem State.complete_store (s : State) (a : Nat) (st : Status) (ws : List Word) :
    (s.complete a st ws).store = s.store := by
  rw [State.complete_eq]

theorem State.readoutEnd_portKept (s : State) (st : Status) : PortKept s (s.readoutEnd st) := by
  rw [State.readoutEnd_eq]
  refine .unwanted ?_ ?_ <;> rw [State.complete_store] <;> rfl

theorem State.backlogTest_portKept (s : State) : PortKept s s.backlogTest := by
  have hfetch : PortKept s s.readoutFetch := by
    unfold State.readoutFetch
    split
    · split
      · exact .submit (s.setReadout _) _
      · exact s.readoutEnd_portKept _
    · exact s.readoutEnd_portKept _
  unfold State.backlogTest
  split
  · exact hfetch
  · exact .of_eq rfl rfl

theorem State.pageStep_portKept (s : State) : PortKept s s.pageStep := by
  unfold State.pageStep
  dsimp only
  split
  · exact s.backlogTest_portKept
  · exact .of_eq rfl rfl

theorem State.readoutAccept_portKept (s : State) (b : BuiltFrame) : PortKept s (s.readoutAccept b) := by
  have hdeparture : ∀ x : State, PortKept x x.departure := fun x => by
    unfold State.departure
    split
    · exact .refl x
    · dsimp only
      split
      · exact (PortKept.setReadout x _).trans (State.readoutEnd_portKept _ _)
      · exact .setReadout x _
  have hegress : ∀ x : State, PortKept x x.egress := fun x => by
    unfold State.egress
    dsimp only
    split
    · exact (PortKept.setLink x _).trans (hdeparture _)
    · exact .setLink x _
  have hjoin : PortKept s (s.readoutJoin b) := .of_eq rfl rfl
  have hjoined : PortKept s (s.readoutJoin b).egress := hjoin.trans (hegress _)
  unfold State.readoutAccept
  dsimp only
  split
  · exact hjoined.trans (State.pageStep_portKept _)
  · exact hjoined

theorem State.readoutBuild_portKept (s : State) : PortKept s s.readoutBuild := by
  unfold State.readoutBuild
  split <;> exact .of_eq rfl rfl

theorem State.readoutAdvance_portKept (n : Nat) : ∀ s : State, PortKept s (s.readoutAdvance n) := by
  induction n with
  | zero => exact .refl
  | succ n ih =>
    intro s
    by_cases hbuilds : s.readout.state = .sending ∨ s.readout.state = .final
    · have hbuild := s.readoutBuild_portKept
      cases hheld : s.readoutBuild.readout.held with
      | none => rcases hbuilds with h | h <;> simpa [State.readoutAdvance, h, hheld] using hbuild
      | some b =>
        rw [State.readoutAdvance_round hbuilds hheld]
        split
        · exact hbuild.trans ((State.readoutAccept_portKept _ b).trans (ih _))
        · exact hbuild
    · obtain ⟨hs, hf⟩ := not_or.mp hbuilds
      rw [State.readoutAdvance_rest hs hf]
      exact .refl s

theorem State.readoutClosedNotice_portKept (s : State) (n : Nat) : PortKept s (s.readoutClosedNotice n) := by
  unfold State.readoutClosedNotice
  split
  · split
    · exact s.backlogTest_portKept
    · exact (PortKept.setReadout s _).trans (State.readoutAdvance_portKept _ _)
  · exact .refl s

theorem State.askCatalog_closing_portKept (x : State) : PortKept x (x.askCatalog x.requests.closingWaiter) := by
  rcases x.catalog_cases with hready | hbusy | hstopped
  · exact fun _ _ h => h.askCatalog (.inl hready)
  · exact fun _ _ h => h.askCatalog (.inr hbusy)
  · rcases x.requests.closingWaiter_cases with ⟨hw, a, hop⟩ | ⟨hw, -⟩
    · rw [hw, State.askCatalog_storeFault hstopped fun op hop' => by
        rw [hop] at hop'
        cases hop'
        exact .inr (.inr rfl), State.completeStoreOp_eq]
      exact .of_eq rfl rfl
    · rw [hw, State.askCatalog_stopped _ _ hstopped]
      exact .refl x

end Port

/-! ## The extent table -/

/-- No entry of an extent is FREE. -/
def StoreController.NotFree (c : StoreController) (a : Nat) : Prop := ∀ y ∈ c.table, y.1 = a → y.2.state ≠ .free

/-- An extent of which no entry is FREE keeps its entry, and none of its entries becomes FREE. -/
def ExtentKept (a : Nat) (s t : State) : Prop :=
  s.store.NotFree a → t.store.NotFree a ∧ t.store.extent a = s.store.extent a

namespace ExtentKept

variable {a : Nat} {s t u : State}

theorem of_table (h : t.store.table = s.store.table) : ExtentKept a s t := by
  unfold ExtentKept StoreController.NotFree StoreController.extent
  rw [h]
  exact fun hs => ⟨hs, rfl⟩

theorem trans (h : ExtentKept a s t) (k : ExtentKept a t u) : ExtentKept a s u := fun hs => by
  obtain ⟨ht, hextent⟩ := h hs
  obtain ⟨hu, hextent'⟩ := k ht
  exact ⟨hu, hextent'.trans hextent⟩

end ExtentKept

theorem StoreController.mem_freeList_free {c : StoreController} {e : Nat} (h : e ∈ c.freeList) :
    ∃ y ∈ c.table, y.1 = e ∧ y.2.state = .free := by
  unfold StoreController.freeList at h
  have hfree : e ∈ (c.table.filter fun x => x.2.state = .free).map Prod.fst := by
    split at h
    case h_1 | h_2 => cases h
    all_goals exact h
  obtain ⟨y, hy, hk⟩ := List.mem_map.mp hfree
  obtain ⟨hmem, hstate⟩ := List.mem_filter.mp hy
  exact ⟨y, hmem, hk, of_decide_eq_true hstate⟩

/-- The allocation of a FREE extent leaves an extent that is not FREE. -/
theorem ExtentKept.allocated {a e : Nat} {x : Extent} {s t : State} (he : e ∈ s.store.freeList)
    (ht : t.store.table = setExtent s.store.table e x) (hx : x.state ≠ .free) : ExtentKept a s t := by
  intro hs
  have hne : a ≠ e := by
    rintro rfl
    obtain ⟨y, hy, hya, hfree⟩ := StoreController.mem_freeList_free he
    exact hs y hy hya hfree
  refine ⟨fun y hy hya => ?_, ?_⟩
  · rw [ht, setExtent_eq_map] at hy
    obtain ⟨z, hz, rfl⟩ := List.mem_map.mp hy
    split
    · exact hx
    · exact hs z hz hya
  · unfold StoreController.extent
    rw [ht, lookup_setExtent_eq]
    simp [hne]

section Table

variable {s t : State} {a : Nat} {p : StagingPage} {ws : WriteState} {k : TakeRecord}

theorem State.target_extentKept {b : PageAddress} (h : s.target p ws = some (b, t)) : ExtentKept a s t := by
  unfold State.target at h
  split at h
  · cases h
    exact .of_table rfl
  split at h
  · rename_i e u hu
    cases h
    unfold State.allocate at hu
    split at hu
    · cases hu
    · rename_i e' es hfree
      cases hu
      have hkept : ExtentKept a s { s with store := { s.store with
          table := Machine.setExtent s.store.table e ⟨.owned, some ⟨p.take, s.store.nextSeq p.take, p.pageSeq⟩⟩
          writeState := some { ws with current := some e, writePage := 0, stalled := false } } } :=
        .allocated (by rw [hfree]; exact List.mem_cons_self) rfl nofun
      split
      · exact hkept.trans (.of_table rfl)
      · exact hkept
  · cases h

theorem State.submitA_extentKept (s : State) : ExtentKept a s s.submitA := by
  unfold State.submitA
  split
  · split
    · split
      · rename_i ht
        exact (State.target_extentKept ht).trans (.of_table rfl)
      · exact .of_table rfl
    · exact .of_table rfl
  · exact .of_table rfl

theorem State.submitB_extentKept (s : State) : ExtentKept a s s.submitB := by
  unfold State.submitB
  split
  · split
    · split
      · rename_i ht
        exact (State.target_extentKept ht).trans (.of_table rfl)
      · exact .of_table rfl
    · exact .of_table rfl
  · exact .of_table rfl

theorem State.target_port {b : PageAddress} (h : s.target p ws = some (b, t)) :
    t.store.inFlight = s.store.inFlight ∧ t.store.waiting = s.store.waiting := by
  unfold State.target at h
  split at h
  · cases h
    exact ⟨rfl, rfl⟩
  split at h
  · rename_i e u hu
    cases h
    unfold State.allocate at hu
    split at hu
    · cases hu
    · cases hu
      split <;> exact ⟨rfl, rfl⟩
  · cases h

theorem State.submitA_portKept (s : State) : PortKept s s.submitA := by
  unfold State.submitA
  split
  · split
    · split
      · rename_i ht
        obtain ⟨hi, hw⟩ := State.target_port ht
        have hpage : PortKept s (State.mk ..) := .of_eq hi hw
        exact hpage.trans (.submit _ _)
      · exact .of_eq rfl rfl
    · exact .refl s
  · exact .refl s

theorem State.submitB_portKept (s : State) : PortKept s s.submitB := by
  unfold State.submitB
  split
  · split
    · split
      · rename_i ht
        obtain ⟨hi, hw⟩ := State.target_port ht
        have hpage : PortKept s (State.mk ..) := .of_eq hi hw
        exact hpage.trans (.submit _ _)
      · exact .of_eq rfl rfl
    · exact .refl s
  · exact .refl s

theorem StoreController.feed_kept (s : State) (ws : WriteState) (n : Nat) (closing : Bool) :
    PortKept s { s with store := s.store.feed ws n closing }
      ∧ ExtentKept a s { s with store := s.store.feed ws n closing } := by
  have hfeed : (s.store.feed ws n closing).inFlight = s.store.inFlight
      ∧ (s.store.feed ws n closing).waiting = s.store.waiting ∧ (s.store.feed ws n closing).table = s.store.table := by
    unfold StoreController.feed
    dsimp only
    split
    · exact ⟨rfl, rfl, rfl⟩
    split
    · exact ⟨rfl, rfl, rfl⟩
    split
    · exact ⟨rfl, rfl, rfl⟩
    split
    · exact ⟨rfl, rfl, rfl⟩
    split <;> exact ⟨rfl, rfl, rfl⟩
  exact ⟨.of_eq hfeed.1 hfeed.2.1, .of_table hfeed.2.2⟩

theorem State.twoRounds_kept (s : State) : PortKept s s.twoRounds ∧ ExtentKept a s s.twoRounds := by
  have hround : ∀ x : State, PortKept x x.stagingRound ∧ ExtentKept a x x.stagingRound := fun x => by
    unfold State.stagingRound
    split
    · obtain ⟨hport, htable⟩ := StoreController.feed_kept (a := a) x _ _ _
      exact ⟨hport.trans ((State.submitA_portKept _).trans (State.submitB_portKept _)),
        htable.trans ((State.submitA_extentKept _).trans (State.submitB_extentKept _))⟩
    · exact ⟨.refl x, .of_table rfl⟩
  exact ⟨(hround s).1.trans (hround _).1, (hround s).2.trans (hround _).2⟩

/-- The drain does nothing, discards what a STALLED take holds, or is complete (R90, R116). -/
theorem State.drain_cases (s : State) :
    s.drain = s ∨ ∃ n ws, s.drain = s.discarded n ws ∨ s.drain = (s.discarded n ws).drainComplete n := by
  cases hlive : s.liveTake with
  | none =>
    refine .inl ?_
    unfold State.drain
    rw [hlive]
  | some k =>
    by_cases hclosing : k.state = .closing
    · cases hws : s.store.writeState with
      | none => exact .inl (State.drain_idle hws)
      | some ws =>
        refine .inr ⟨k.number, ws, ?_⟩
        exact (State.drain_closing hlive hclosing hws).imp And.right And.right
    · refine .inl ?_
      unfold State.drain
      split
      · obtain rfl : k = _ := Option.some.inj (hlive.symm.trans ‹_›)
        exact if_neg hclosing
      · rfl

/-- What the drain touches: no count of the store, and not the extent table (R90, R116). -/
theorem State.drain_frame (s : State) : s.drain.settlePort.store.table = s.store.table
    ∧ s.drain.settlePort.store.programFailures = s.store.programFailures
    ∧ s.drain.settlePort.store.verifyMismatches = s.store.verifyMismatches := by
  rcases s.drain_cases with hdrain | ⟨n, ws, hdrain | hdrain⟩ <;> rw [hdrain]
  · rw [s.settlePort_portSide.eq]
    exact ⟨rfl, rfl, rfl⟩
  · obtain ⟨_, _, _, _, _, hd⟩ := s.discarded_frame n ws
    rw [(State.settlePort_portSide _).eq, hd]
    exact ⟨rfl, rfl, rfl⟩
  · obtain ⟨_, _, _, _, _, hd⟩ := s.discarded_frame n ws
    obtain ⟨_, _, _, _, _, _, _, _, _, ht⟩ := (s.discarded n ws).drainComplete_after n
    rw [ht, hd]
    exact ⟨rfl, rfl, rfl⟩

/-- The drain keeps the port's operations (R90, R116). -/
theorem State.drain_portKept (s : State) : PortKept s s.drain.settlePort := by
  have hdiscard : ∀ n ws, PortKept s (s.discarded n ws) := fun n ws => by
    obtain ⟨_, _, _, _, _, hd⟩ := s.discarded_frame n ws
    rw [hd]
    exact .of_eq rfl rfl
  rcases s.drain_cases with hdrain | ⟨n, ws, hdrain | hdrain⟩ <;> rw [hdrain]
  · exact .settlePort s
  · exact (hdiscard n ws).trans (.settlePort _)
  · have hclosed : PortKept (s.discarded n ws) ((s.discarded n ws).closed n) := .of_eq rfl rfl
    rw [State.drainComplete_eq]
    exact ((hdiscard n ws).trans (hclosed.trans ((State.readoutClosedNotice_portKept _ n).trans
      (State.askCatalog_closing_portKept _)))).trans (.settlePort _)

/-- What the store's moving on, and the port, keep of the port's operations and of an extent that is not FREE. -/
theorem State.pump_keeps (s : State) (a : Nat) : PortKept s s.pump.settlePort ∧ ExtentKept a s s.pump.settlePort := by
  obtain ⟨hport, htable⟩ := s.twoRounds_kept (a := a)
  exact ⟨hport.trans s.twoRounds.drain_portKept, htable.trans (.of_table s.twoRounds.drain_frame.1)⟩

/-- The store's moving on counts no failure (R110 to R116, R126). -/
theorem State.pump_counters (s : State) : s.pump.settlePort.store.programFailures = s.store.programFailures
    ∧ s.pump.settlePort.store.verifyMismatches = s.store.verifyMismatches := by
  obtain ⟨_, _, _, _, _, _, _, hrounds⟩ := s.twoRounds_roundSide.side
  obtain ⟨-, hfailures, hmismatches⟩ := s.twoRounds.drain_frame
  rw [hrounds] at hfailures hmismatches
  show s.twoRounds.drain.settlePort.store.programFailures = _ ∧ s.twoRounds.drain.settlePort.store.verifyMismatches = _
  rw [hrounds]
  exact ⟨hfailures, hmismatches⟩

end Table

end Sys2Proof.Machine
end

section
/-!
A staging page of a take has been programmed and verified (R92, R110 to R112, R115, R137): the page that waits behind it
is submitted, words of the queue start a new page, and the Readout Engine is told.
-/

namespace Sys2Proof.Machine

/-! ## Rounds after a page is released -/

section Rounds

variable {s t : State} {k : TakeRecord} {ws : WriteState} {e : Nat} {es : List Nat} {a : PageAddress}

theorem State.submitB_goes (hws : s.store.writeState = some ws)
    (hA : s.store.pageA.state = .empty) (hB : s.store.pageB.state = .waiting)
    (ht : s.target s.store.pageB ws = some (a, t)) : s.submitB = ({ t with store := { t.store with
      pageB := { t.store.pageB with state := .programming, failedBefore := false } } }).submitPage
      s.store.pageB a := by
  have hready : s.store.pageB.ready s.store.pageA = true := by simp [StagingPage.ready, hA, hB]
  simp only [State.submitB, hws, hready, ht, if_true]

/-- Page B, behind an EMPTY page A, goes to its target (R111). -/
theorem State.twoRounds_goesB (hlive : s.liveTake = some k) (hws : s.store.writeState = some ws)
    (hq : s.store.queue = []) (hA : s.store.pageA.state = .empty) (hB : s.store.pageB.state = .waiting)
    (ht : s.target s.store.pageB ws = some (a, t)) :
    s.twoRounds = ({ t with store := { t.store with
      pageB := { t.store.pageB with state := .programming, failedBefore := false } } }).submitPage
      s.store.pageB a := by
  obtain ⟨-, hqueue, hpageA, -, -⟩ := State.target_move hws ht
  have hround : s.stagingRound = ({ t with store := { t.store with
      pageB := { t.store.pageB with state := .programming, failedBefore := false } } }).submitPage
      s.store.pageB a := by
    rw [State.stagingRound_unfed hlive hws hq (by simp [hA]) (by simp [hB]), State.submitA_rests (by simp [hA])]
    exact State.submitB_goes hws hA hB ht
  rw [State.twoRounds, hround]
  refine State.stagingRound_rests (hqueue.trans hq) ?_ ⟨nofun, nofun⟩
  show t.store.pageA.state ≠ .filling ∧ t.store.pageA.state ≠ .waiting
  rw [hpageA, hA]
  exact ⟨nofun, nofun⟩

theorem State.target_current {p : StagingPage} (h : s.store.currentTarget ws = some a) : s.target p ws
    = some (a, { s with store := { s.store with writeState := some { ws with stalled := false } } }) := by
  simp only [State.target, h]

/-- A FILLING page that is fed from an empty queue is as it was, unless it is full (R110). -/
theorem StagingPage.fill_nil_of_room {p : StagingPage} (h : p.words.length < 4092) : p.fill [] = (p, []) := by
  have hoffset : p.offsetAfter [] = p.firstOffset := by
    unfold StagingPage.offsetAfter
    split
    · exact Eq.symm ‹_›
    · rfl
  have hroom : ¬ 4096 ≤ 4 + p.words.length := by omega
  simp [StagingPage.fill, hoffset, Config.pageWords, Config.pageHeader, hroom]

/-- A page that starts with the words of a short queue (R110). -/
def StagingPage.begun (take seq : Nat) (queue : List PacketWord) : StagingPage :=
  { state := .filling, take := take, pageSeq := seq, words := queue
    firstOffset := match queue.findIdx? PacketWord.first with
      | some j => 4 + j
      | none => 0 }

theorem StagingPage.begun_state {take seq : Nat} {queue : List PacketWord} :
    (StagingPage.begun take seq queue).state = .filling := rfl

theorem StagingPage.start_fill {queue : List PacketWord} (h : queue.length < 4092) (take seq : Nat) :
    (StagingPage.start take seq).fill queue = (.begun take seq queue, []) := by
  have htake : queue.take 4092 = queue := List.take_of_length_le (by omega)
  have hroom : ¬ 4096 ≤ 4 + queue.length := by omega
  have hoffset : (StagingPage.start take seq).offsetAfter queue = (StagingPage.begun take seq queue).firstOffset := rfl
  calc (StagingPage.start take seq).fill queue
      = ({ StagingPage.start take seq with
          words := queue.take 4092
          firstOffset := (StagingPage.start take seq).offsetAfter (queue.take 4092)
          state := if 4096 ≤ 4 + (queue.take 4092).length then .waiting else .filling }, queue.drop 4092) := rfl
    _ = (.begun take seq queue, []) := by
      rw [htake, if_neg hroom, hoffset, List.drop_of_length_le h.le]
      rfl

/-- With both pages EMPTY a short queue starts page A (R110). -/
theorem State.twoRounds_starts (hlive : s.liveTake = some k) (hopen : k.state ≠ .closing)
    (hws : s.store.writeState = some ws) (hq : s.store.queue ≠ []) (hlen : s.store.queue.length < 4092)
    (hA : s.store.pageA.state = .empty) (hB : s.store.pageB.state = .empty) :
    s.twoRounds = { s with store := { s.store with
      pageA := .begun k.number ws.nextStaging s.store.queue, queue := []
      writeState := some { ws with nextStaging := ws.nextStaging + 1 } } } := by
  have hflush : ∀ (p : StagingPage) (q : List PacketWord), p.flush false q = p := fun p q => rfl
  have hfeed : s.store.feed ws k.number false = { s.store with
      pageA := .begun k.number ws.nextStaging s.store.queue, queue := []
      writeState := some { ws with nextStaging := ws.nextStaging + 1 } } := by
    unfold StoreController.feed
    dsimp only
    rw [if_neg (by simp [hA]), if_neg (by simp [hB]), if_neg (by simpa using hq), if_pos hA, StagingPage.start_fill hlen]
    rfl
  have hround : s.stagingRound = { s with store := { s.store with
      pageA := .begun k.number ws.nextStaging s.store.queue, queue := []
      writeState := some { ws with nextStaging := ws.nextStaging + 1 } } } := by
    simp only [State.stagingRound, hlive, hws, hopen, decide_false, hfeed]
    rw [State.submitA_rests (by simp [StagingPage.begun])]
    exact State.submitB_rests (by simp [hB])
  have hagain : StoreController.feed { s.store with
      pageA := .begun k.number ws.nextStaging s.store.queue, queue := []
      writeState := some { ws with nextStaging := ws.nextStaging + 1 } }
      { ws with nextStaging := ws.nextStaging + 1 } k.number false = { s.store with
      pageA := .begun k.number ws.nextStaging s.store.queue, queue := []
      writeState := some { ws with nextStaging := ws.nextStaging + 1 } } := by
    have hfill := StagingPage.fill_nil_of_room (p := .begun k.number ws.nextStaging s.store.queue) hlen
    unfold StoreController.feed
    dsimp only
    rw [if_pos StagingPage.begun_state, hfill]
    rfl
  rw [State.twoRounds, hround]
  have hlive' : State.liveTake { s with store := { s.store with
      pageA := .begun k.number ws.nextStaging s.store.queue, queue := []
      writeState := some { ws with nextStaging := ws.nextStaging + 1 } } } = some k := hlive
  simp only [State.stagingRound, hlive', hopen, decide_false, hagain]
  rw [State.submitA_rests (by simp [StagingPage.begun])]
  exact State.submitB_rests (by simp [hB])

end Rounds

/-! ## The Readout Engine is told -/

section Notice

variable {s : State} {k : TakeRecord}

theorem State.readoutVerifyNotice_engineSide (s : State) : EngineSide s s.readoutVerifyNotice := by
  unfold State.readoutVerifyNotice
  split
  · exact s.backlogTest_engineSide
  · exact .refl s

theorem State.readoutVerifyNotice_unheeded (h : s.readout.state = .following → s.readoutTake.2 ≤ s.readout.nextPage) :
    s.readoutVerifyNotice = s := if_neg fun hheeds => by
  rw [Bool.and_eq_true, decide_eq_true_eq, decide_eq_true_eq] at hheeds
  exact absurd hheeds.2 (Nat.not_lt.mpr (h hheeds.1))

theorem State.readoutVerifyNotice_deep (h : s.readout.state = .following) (hpage : s.readout.nextPage < s.readoutTake.2)
    (hdeep : s.store.backlog < s.store.queue.length) : s.readoutVerifyNotice
      = s.setReadout { s.readout with state := .holding, countdown := s.store.holdTime } := by
  rw [← State.backlogTest_deep hdeep]
  exact if_pos (by simp [h, hpage])

/-- A FOLLOWING readout that has sent every page of the take that has become CLOSED queues its closing frame (R137). -/
theorem State.readoutClosedNotice_ends (h : s.readout.state = .following)
    (hpage : s.readoutTake.2 ≤ s.readout.nextPage) (hheld : s.readout.held = none) (hup : s.link.programUp = true)
    (hbusy : s.link.txProgram ≠ none) (hq : s.link.readoutQ = []) :
    s.readoutClosedNotice s.readout.take = { s with
      readout := { s.readout with
        state := .ending, buffer := [], notes := s.readout.notes ++ [⟨false, false, true⟩] }
      link := { s.link with readoutQ := [makeFrame s.unit kindReadout 0
        [natWord s.readout.take, natWord s.readout.nextPage, natWord (2 ^ 18)]] } } := by
  have hfinal : s.readoutClosedNotice s.readout.take
      = (s.setReadout { s.readout with state := .final }).readoutAdvance readoutFuel := by
    unfold State.readoutClosedNotice
    rw [if_pos (by simp [h]), if_neg (Nat.not_lt.mpr hpage)]
  have hbuild := State.readoutBuild_closing (s := s.setReadout { s.readout with state := .final }) rfl hheld
  have haccepts := State.readoutAdvance_accepts (s := s.setReadout { s.readout with state := .final })
    (b := (s.setReadout { s.readout with state := .final }).closingFrame)
    (.inr rfl) (by rw [hbuild]; rfl) hup hbusy (by simp [State.setReadout, hq]) 7
  rw [hfinal]
  refine haccepts.trans ?_
  rw [hbuild, if_neg (by simp [State.closingFrame]), State.readoutJoin_last rfl,
    State.readoutAdvance_rest (by simp) (by simp)]
  simp only [State.setReadout, hq, hheld, List.nil_append]
  rfl

end Notice

end Sys2Proof.Machine
end

section
/-!
What a verified page makes of the live take (R90, R92, R97, R98, R110 to R112, R115, R137).
-/

namespace Sys2Proof.Machine

/-! ## The page is counted and released -/

/-- The write page has risen where a program of the current extent has ended (R111). -/
def WriteState.ended (now : StagingState) (e : Nat) (w : WriteState) : WriteState :=
  if now = .programming ∧ w.current = some e then { w with writePage := w.writePage + 1 } else w

/-- `y` is `s` once an operation on a page of extent `e` has ended (R103, R111). -/
def ArchiveEnded (s : State) (now : StagingState) (e : Nat) (y : State) : Prop :=
  ∃ freeCount flash inFlight waiting, y = { s with
    freeCount := freeCount, flash := flash
    store := { s.store with
      writeState := s.store.writeState.map (WriteState.ended now e), inFlight := inFlight, waiting := waiting } }

/-- A record with one more page, held at the greatest count (R81, R92). -/
def TakeRecord.pageCounted (x : TakeRecord) : TakeRecord := { x with pageCount := min (x.pageCount + 1) 16777216 }

/-- The page of the live take `k` is counted, and its staging page EMPTY (R92, R112). -/
def State.released (y : State) (k : TakeRecord) (now : StagingState) : State :=
  (y.mapTake k.number TakeRecord.pageCounted).pageMoves now .empty false

section Released

variable {s x y z v t : State} {k : TakeRecord} {now : StagingState} {e n : Nat} {ws : WriteState}

theorem WriteState.ended_fields (now : StagingState) (e : Nat) (w : WriteState) :
    (w.ended now e).current = w.current ∧ (w.ended now e).nextStaging = w.nextStaging
      ∧ (w.ended now e).stalled = w.stalled ∧ (w.ended now e).writePage
        = if now = .programming ∧ w.current = some e then w.writePage + 1 else w.writePage := by
  unfold WriteState.ended
  split <;> exact ⟨rfl, rfl, rfl, rfl⟩

theorem State.raiseWritePage_eq (x : State) (e : Nat) : x.raiseWritePage e = { x with store := { x.store with
    writeState := x.store.writeState.map (WriteState.ended .programming e) } } := by
  unfold State.raiseWritePage
  cases hws : x.store.writeState with
  | none =>
    show x = { x with store := { x.store with writeState := none } }
    rw [← hws]
  | some ws =>
    by_cases hcurrent : ws.current = some e
    · simp [WriteState.ended, hcurrent]
    · simp only [hcurrent, if_false, Option.map_some, WriteState.ended, and_false]
      rw [← hws]

theorem EndedSide.archiveEnded (h : EndedSide s x) (e : Nat) :
    ArchiveEnded s .programming e (x.raiseWritePage e) := by
  rw [State.raiseWritePage_eq]
  obtain ⟨_, _, _, _, rfl⟩ := h
  exact ⟨_, _, _, _, rfl⟩

theorem PortSide.archiveEnded (h : PortSide s x) (e : Nat) : ArchiveEnded s .verifying e x := by
  have hid : s.store.writeState.map (WriteState.ended .verifying e) = s.store.writeState := by
    cases s.store.writeState with
    | none => rfl
    | some w => exact congrArg some (if_neg (by simp))
  obtain ⟨i, w, rfl⟩ := h
  refine ⟨s.freeCount, s.flash, i, w, ?_⟩
  rw [hid]

theorem State.pageVerified_eq (h : y.liveTake = some k) (now : StagingState) :
    y.pageVerified now = (y.released k now).readoutVerifyNotice.pump := by
  unfold State.pageVerified
  rw [h]
  rfl

theorem State.pageMoves_frame (x : State) (now next : StagingState) (failed : Bool) : ∃ a b,
    x.pageMoves now next failed = { x with store := { x.store with pageA := a, pageB := b } } := by
  unfold State.pageMoves
  dsimp only
  split
  · exact ⟨_, _, rfl⟩
  split <;> exact ⟨_, _, rfl⟩

/-- In `v` the page of the live take `k` is counted and released, and the Readout Engine has been told (R92, R137). -/
structure Released (s : State) (k : TakeRecord) (now : StagingState) (e : Nat) (v : State) : Prop where
  frame : ∃ freeCount flash a b inFlight waiting link readout entries refused, v = { s with
    freeCount := freeCount, flash := flash
    takes := { s.takes with
      records := s.takes.records.map fun x => if x.number = k.number then x.pageCounted else x }
    store := { s.store with
      writeState := s.store.writeState.map (WriteState.ended now e), pageA := a, pageB := b
      inFlight := inFlight, waiting := waiting }
    link := link, readout := readout
    requests := { s.requests with entries := entries, broadcastRefused := refused } }
  pages : s.store.pageA.state = now → v.store.pageA = {} ∧ v.store.pageB = s.store.pageB

theorem ArchiveEnded.liveTake (h : ArchiveEnded s now e y) : y.liveTake = s.liveTake := by
  obtain ⟨_, _, _, _, rfl⟩ := h
  rfl

theorem ArchiveEnded.engine (h : ArchiveEnded s now e y) :
    (y.released k now).readout = s.readout ∧ (y.released k now).link = s.link
      ∧ (y.released k now).requests = s.requests
      ∧ (y.released k now).store.queue = s.store.queue ∧ (y.released k now).store.backlog = s.store.backlog
      ∧ (y.released k now).store.holdTime = s.store.holdTime ∧ (y.released k now).takes.records
        = s.takes.records.map fun x => if x.number = k.number then x.pageCounted else x := by
  obtain ⟨_, _, _, _, rfl⟩ := h
  unfold State.released
  obtain ⟨_, _, hmoves⟩ := State.pageMoves_frame (State.mapTake _ k.number TakeRecord.pageCounted) now .empty false
  rw [hmoves]
  exact ⟨rfl, rfl, rfl, rfl, rfl, rfl, rfl⟩

theorem ArchiveEnded.released (h : ArchiveEnded s now e y) (hv : EngineSide (y.released k now) v) :
    Released s k now e v := by
  have hmoves : y.store.pageA.state = now → (y.mapTake k.number TakeRecord.pageCounted).pageMoves now .empty false
      = { y.mapTake k.number TakeRecord.pageCounted with store := { y.store with pageA := {} } } := fun hA => if_pos hA
  obtain ⟨_, _, _, _, rfl⟩ := h
  unfold State.released at hv
  by_cases hA : s.store.pageA.state = now
  · rw [hmoves hA] at hv
    obtain ⟨_, _, _, _, _, _, rfl⟩ := hv
    exact ⟨⟨_, _, _, _, _, _, _, _, _, _, rfl⟩, fun _ => ⟨rfl, rfl⟩⟩
  · obtain ⟨_, _, hframe⟩ := State.pageMoves_frame (State.mapTake _ k.number TakeRecord.pageCounted) now .empty false
    rw [hframe] at hv
    obtain ⟨_, _, _, _, _, _, rfl⟩ := hv
    exact ⟨⟨_, _, _, _, _, _, _, _, _, _, rfl⟩, fun h => absurd h hA⟩

/-- The rounds move nothing but the store, and of it staging only (R110). -/
theorem StagingSide.settled (hrounds : StagingSide v x) (hport : PortSide x t) :
    t.takes = v.takes ∧ t.readout = v.readout ∧ t.link = v.link ∧ t.requests = v.requests := by
  obtain ⟨_, _, _, _, _, _, _, rfl⟩ := hrounds
  obtain ⟨_, _, rfl⟩ := hport
  exact ⟨rfl, rfl, rfl, rfl⟩

namespace Released

theorem live (h : Released s k now e v) (hlive : s.liveTake = some k) : v.liveTake = some k.pageCounted := by
  obtain ⟨_, _, _, _, _, _, _, _, _, _, rfl⟩ := h.frame
  have hmap := State.liveTake_map (s := s) (t := { s with takes := { s.takes with
    records := s.takes.records.map fun x => if x.number = k.number then x.pageCounted else x } })
    (f := fun x => if x.number = k.number then x.pageCounted else x) rfl rfl fun x => by split <;> rfl
  rw [hlive] at hmap
  refine Eq.trans ?_ (hmap.trans (by simp))
  rfl

theorem writeState (h : Released s k now e v) (hws : s.store.writeState = some ws) :
    v.store.writeState = some (ws.ended now e) := by
  obtain ⟨_, _, _, _, _, _, _, _, _, _, rfl⟩ := h.frame
  show s.store.writeState.map _ = _
  rw [hws]
  rfl

theorem store (h : Released s k now e v) : v.store.queue = s.store.queue ∧ v.store.table = s.store.table
    ∧ v.store.state = s.store.state ∧ v.store.modules = s.store.modules := by
  obtain ⟨_, _, _, _, _, _, _, _, _, _, rfl⟩ := h.frame
  exact ⟨rfl, rfl, rfl, rfl⟩

theorem takes (h : Released s k now e v) : v.takes = { s.takes with
    records := s.takes.records.map fun x => if x.number = k.number then x.pageCounted else x } := by
  obtain ⟨_, _, _, _, _, _, _, _, _, _, rfl⟩ := h.frame
  rfl

theorem catalogAs (h : Released s k now e v) : CatalogAs s v := by
  obtain ⟨_, _, _, _, _, _, _, _, _, _, rfl⟩ := h.frame
  exact ⟨rfl, rfl, rfl, rfl, rfl, rfl⟩

theorem closingWaiter (h : Released s k now e v) : v.requests.closingWaiter = s.requests.closingWaiter := by
  obtain ⟨_, _, _, _, _, _, _, _, _, _, rfl⟩ := h.frame
  rfl

theorem extent (h : Released s k now e v) (j : Nat) : v.store.extent j = s.store.extent j := by
  unfold StoreController.extent
  rw [h.store.2.1]

theorem answers (h : Released s k now e v) (j : Nat) : v.store.answers j = s.store.answers j := by
  unfold StoreController.answers StoreController.module
  rw [h.store.2.2.2]

theorem freeList (h : Released s k now e v) : v.store.freeList = s.store.freeList := by
  unfold StoreController.freeList
  rw [h.store.2.1, h.store.2.2.1]

theorem chainNext (h : Released s k now e v) (n : Nat) : v.store.nextSeq n = s.store.chainNext n := by
  rw [StoreController.nextSeq_eq_chainNext]
  unfold StoreController.chainNext
  rw [h.store.2.1]

/-! ## A take that is OPEN or PAUSED goes on -/

/-- Nothing waits and nothing is queued: nothing moves. -/
theorem rests (h : Released s k now e v) (hA : s.store.pageA.state = now) (hB : s.store.pageB.state = .empty)
    (hq : s.store.queue = []) : v.twoRounds = v := by
  obtain ⟨hpageA, hpageB⟩ := h.pages hA
  refine State.twoRounds_rests (h.store.1.trans hq) ?_ ?_
  · rw [hpageA]
    exact ⟨nofun, nofun⟩
  · rw [hpageB, hB]
    exact ⟨nofun, nofun⟩

/-- Words of the queue start page A (R110). -/
theorem starts (h : Released s k now e v) (hlive : s.liveTake = some k) (hopen : k.state ≠ .closing)
    (hws : s.store.writeState = some ws) (hA : s.store.pageA.state = now) (hB : s.store.pageB.state = .empty)
    (hq : s.store.queue ≠ []) (hlen : s.store.queue.length < 4092) (hport : PortSide v.twoRounds t) :
    t.store.queue = [] ∧ t.store.pageB = s.store.pageB
      ∧ t.store.pageA = .begun k.number ws.nextStaging s.store.queue
      ∧ (t.store.writeState.map fun v => v.nextStaging) = some (ws.nextStaging + 1) := by
  obtain ⟨hpageA, hpageB⟩ := h.pages hA
  obtain ⟨hqueue, -⟩ := h.store
  obtain ⟨-, hnext, -⟩ := ws.ended_fields now e
  rw [State.twoRounds_starts (h.live hlive) hopen (h.writeState hws) (by rwa [hqueue]) (by rwa [hqueue])
    (by rw [hpageA]) (by rw [hpageB, hB]), hqueue] at hport
  obtain ⟨_, _, rfl⟩ := hport
  exact ⟨rfl, hpageB, by rw [← hnext]; rfl, by rw [← hnext]; rfl⟩

/-- What is left when page B has gone to `target` in an extent of sequence `seq` (R104, R111). -/
def WaitingGoes (s : State) (target : PageAddress) (seq : Nat) (t : State) : Prop :=
  t.store.pageA = {} ∧ t.store.pageB = { s.store.pageB with state := .programming, failedBefore := false }
    ∧ t.store.stalled = false
    ∧ ∃ img : PageImage, img.Holds s.store.pageB seq ∧ t.AtPort (.archiveProgram target img)

/-- Page B goes to the next page of the current extent (R111). -/
theorem goesCurrent {c : Nat} {x : Extent} (h : Released s k now e v) (hlive : s.liveTake = some k)
    (hws : s.store.writeState = some ws) (hA : s.store.pageA.state = now) (hB : s.store.pageB.state = .waiting)
    (hq : s.store.queue = []) (hcurrent : ws.current = some c) (hextent : s.store.extent c = some x)
    (howned : x.state = .owned) (hanswers : s.store.answers c = true) (hpage : (ws.ended now e).writePage < 128) :
    v.twoRounds.settlePort.store.table = s.store.table
      ∧ WaitingGoes s ⟨c, (ws.ended now e).writePage⟩ ((x.owner.map Owner.seq).getD 0) v.twoRounds.settlePort := by
  obtain ⟨hpageA, hpageB⟩ := h.pages hA
  obtain ⟨hcur, -⟩ := ws.ended_fields now e
  have htarget := State.target_current (s := v) (p := v.store.pageB) (StoreController.currentTarget_current
    (hcur.trans hcurrent) ((h.extent c).trans hextent) howned ((h.answers c).trans hanswers) hpage)
  have hrounds := State.twoRounds_goesB (h.live hlive) (h.writeState hws) (h.store.1.trans hq) (by rw [hpageA])
    (by rw [hpageB, hB]) htarget
  have hseq : v.store.seqOf c = (x.owner.map Owner.seq).getD 0 := by
    simp only [StoreController.seqOf, h.extent, hextent]
  have hat : v.twoRounds.settlePort.AtPort (.archiveProgram ⟨c, (ws.ended now e).writePage⟩
      (s.store.pageB.imageIn ((x.owner.map Owner.seq).getD 0))) := by
    refine State.AtPort.settlePort (.inl ?_)
    rw [hrounds, ← hseq, ← hpageB]
    exact List.mem_append_right _ (List.mem_singleton_self _)
  have hside := v.twoRounds.settlePort_portSide
  generalize v.twoRounds.settlePort = t at hside hat ⊢
  rw [hrounds] at hside
  obtain ⟨_, _, rfl⟩ := hside
  exact ⟨h.store.2.1, hpageA, by rw [← hpageB]; rfl, rfl, _, s.store.pageB.imageIn_holds _, hat⟩

/-- Page B goes to the lowest free extent, which becomes the current one (R106, R111). -/
theorem goesNew {c : Nat} {cs : List Nat} (h : Released s k now e v) (hlive : s.liveTake = some k)
    (hws : s.store.writeState = some ws) (hA : s.store.pageA.state = now) (hB : s.store.pageB.state = .waiting)
    (hq : s.store.queue = []) (hpage : 128 ≤ (ws.ended now e).writePage) (hfree : s.store.freeList = c :: cs) :
    let t := v.twoRounds.settlePort
    t.store.table = setExtent s.store.table c
        ⟨.owned, some ⟨s.store.pageB.take, s.store.chainNext s.store.pageB.take, s.store.pageB.pageSeq⟩⟩
      ∧ t.store.writeState = some { ws with current := some c, writePage := 0, stalled := false }
      ∧ WaitingGoes s ⟨c, 0⟩ (s.store.chainNext s.store.pageB.take) t := by
  intro t
  obtain ⟨hpageA, hpageB⟩ := h.pages hA
  obtain ⟨-, hnext, -⟩ := ws.ended_fields now e
  have hfree' : v.store.freeList = c :: cs := h.freeList.trans hfree
  have htarget := State.target_allocates (s := v) (p := v.store.pageB) (StoreController.currentTarget_none
    (ws := ws.ended now e) fun _ _ _ _ _ hlt => absurd hpage (Nat.not_le.mpr hlt)) hfree'
  have hrounds := State.twoRounds_goesB (h.live hlive) (h.writeState hws) (h.store.1.trans hq) (by rw [hpageA])
    (by rw [hpageB, hB]) htarget
  have hseq := StoreController.seqOf_allocated (p := v.store.pageB) (ws := ws.ended now e) hfree'
  rw [h.chainNext] at hseq
  have hat : t.AtPort (.archiveProgram ⟨c, 0⟩
      (s.store.pageB.imageIn (s.store.chainNext s.store.pageB.take))) := by
    refine State.AtPort.settlePort (.inl ?_)
    rw [hrounds, ← hpageB, ← hseq]
    exact List.mem_append_right _ (List.mem_singleton_self _)
  have hside : PortSide v.twoRounds t := v.twoRounds.settlePort_portSide
  clear_value t
  rw [hrounds] at hside
  obtain ⟨_, _, rfl⟩ := hside
  refine ⟨?_, ?_, hpageA, by rw [← hpageB]; rfl, rfl, _, s.store.pageB.imageIn_holds _, hat⟩
  · show setExtent v.store.table c ⟨.owned, some ⟨v.store.pageB.take, v.store.nextSeq v.store.pageB.take,
      v.store.pageB.pageSeq⟩⟩ = _
    rw [h.store.2.1, hpageB, h.chainNext]
  · show some { ws.ended now e with current := some c, writePage := 0, stalled := false } = _
    unfold WriteState.ended
    split <;> rfl

end Released

end Released

end Sys2Proof.Machine
end

section
/-!
The last page of a CLOSING take has been verified: the drain is complete, the Readout Engine is told, and the closing
catalog write starts, waits or fails at once (R90, R97, R98, R137).
-/

namespace Sys2Proof.Machine

section Close

variable {s d y v t : State} {k : TakeRecord} {now : StagingState} {e n : Nat} {ws : WriteState} {r : ReadoutEngine}
  {l : LinkUnit}

/-- The closing catalog write of a complete drain (R90, R97, R98). -/
theorem State.drainComplete_catalog (hcatalog : CatalogAs s d)
    (hwaiter : d.requests.closingWaiter = s.requests.closingWaiter) :
    let t := (d.drainComplete n).settlePort
    (s.CatalogReady → CatalogWriteBegun s t s.requests.closingWaiter)
      ∧ (s.takes.write ≠ none → CatalogWriteJoined s t s.requests.closingWaiter)
      ∧ (s.CatalogStopped → CatalogWriteFailed s t) := by
  have hnotice := (d.closed n).readoutClosedNotice_engineSide n
  have hclosed : CatalogAs d (d.closed n) := ⟨rfl, rfl, rfl, rfl, rfl, rfl⟩
  have hx := (hcatalog.trans hclosed).trans hnotice.catalogAs
  have hw : ((d.closed n).readoutClosedNotice n).requests.closingWaiter = s.requests.closingWaiter :=
    hnotice.closingWaiter.trans hwaiter
  have hcases := ((d.closed n).readoutClosedNotice n).requests.closingWaiter_cases
  rw [State.drainComplete_eq, hw]
  rw [hw] at hcases
  generalize (d.closed n).readoutClosedNotice n = y at hx hcases ⊢
  refine ⟨fun h => hx.begun (State.askCatalog_begun (hx.ready.mpr h)).2,
    fun h => hx.joined (State.askCatalog_joined (by rwa [hx.write])).2, fun h => ?_⟩
  have hstopped := hx.stopped.mpr h
  rcases hcases with ⟨hw, a, hop⟩ | ⟨hw, -⟩
  · rw [hw, State.askCatalog_storeFault hstopped fun op hop' => by
      rw [hop] at hop'
      cases hop'
      exact .inr (.inr rfl)]
    exact hx.failed (State.completeStoreOp_catalogFailed hstopped.1 _ _)
  · rw [hw, show y.askCatalog .exhaustionClose = y from State.askCatalog_stopped _ _ hstopped]
    refine hx.failed ?_
    rw [y.settlePort_portSide.eq]
    exact ⟨hstopped.1, rfl, rfl, rfl, rfl⟩

/-- Who hears of a complete drain: readout and Link Unit are `r` and `l`, but for the reply to a TAKE_CLOSE whose
catalog write fails at once (R90, R98, R137). -/
def CloseReplies (s : State) (r : ReadoutEngine) (l : LinkUnit) (t : State) : Prop := t.readout = r
  ∧ (¬ s.CatalogStopped ∨ s.requests.closingWaiter = .exhaustionClose → t.link = l ∧ t.requests = s.requests)
  ∧ ∀ (op : StoreOp) (e : Entry), s.CatalogStopped → s.requests.storeOp = some op →
    op.kind = .close → s.requests.Lawful → e ∈ s.requests.entries → e.arrival = op.arrival →
    Answered l { s.requests with storeOp := none } e .storeFault [] t

theorem State.askCatalog_replies (y : State) :
    CloseReplies y y.readout y.link (y.askCatalog y.requests.closingWaiter).settlePort := by
  have hgoes : ∀ t, CatalogSide y t → t.readout = y.readout ∧ t.link = y.link ∧ t.requests = y.requests := by
    rintro t ⟨_, _, _, _, _, _, rfl⟩
    exact ⟨rfl, rfl, rfl⟩
  rcases y.catalog_cases with hready | hbusy | hstopped
  · obtain ⟨hreadout, hlink, hrequests⟩ := hgoes _ (State.askCatalog_begun (w := y.requests.closingWaiter) hready).1
    refine ⟨hreadout, fun _ => ⟨hlink, hrequests⟩, fun op e ⟨_, hstops⟩ => ?_⟩
    obtain ⟨-, hans, hseq⟩ := hready
    rcases hstops with hno | hmax
    · exact absurd (hans.symm.trans hno) nofun
    · exact absurd hseq (Nat.not_lt.mpr hmax)
  · obtain ⟨hreadout, hlink, hrequests⟩ := hgoes _ (State.askCatalog_joined (w := y.requests.closingWaiter) hbusy).1
    exact ⟨hreadout, fun _ => ⟨hlink, hrequests⟩, fun op e hstopped => absurd hstopped.1 hbusy⟩
  · rcases y.requests.closingWaiter_cases with ⟨hw, a, hop⟩ | ⟨hw, hother⟩
    · have hasks : y.askCatalog y.requests.closingWaiter = y.completeStoreOp .storeFault [] := by
        rw [hw]
        refine State.askCatalog_storeFault hstopped fun op hop' => ?_
        rw [hop] at hop'
        cases hop'
        exact .inr (.inr rfl)
      rw [hasks]
      have hport := (y.completeStoreOp .storeFault []).settlePort_portSide
      refine ⟨?_, fun hquiet => ?_, fun op e _ hop _ hlawful he harrival =>
        (State.completeStoreOp_answered hop hlawful he harrival .storeFault []).portSide hport⟩
      · rw [State.completeStoreOp_eq] at hport ⊢
        rw [hport.eq]
      · rcases hquiet with hgo | hnobody
        · exact absurd hstopped hgo
        · rw [hw] at hnobody
          cases hnobody
    · rw [hw, show y.askCatalog .exhaustionClose = y from State.askCatalog_stopped _ _ hstopped]
      rw [y.settlePort_portSide.eq]
      exact ⟨rfl, fun _ => ⟨rfl, rfl⟩, fun op e _ hop hkind => absurd hkind (hother op hop)⟩

/-- The replies of a complete drain, as the notice to the Readout Engine leaves readout and Link Unit. -/
theorem State.drainComplete_replies (hcatalog : CatalogAs s d)
    (hnotice : (d.closed n).readoutClosedNotice n = y) (hreadout : y.readout = r) (hlink : y.link = l)
    (hrequests : y.requests = s.requests) : CloseReplies s r l (d.drainComplete n).settlePort := by
  have hclosed : CatalogAs d (d.closed n) := ⟨rfl, rfl, rfl, rfl, rfl, rfl⟩
  have hx := (hcatalog.trans hclosed).trans ((d.closed n).readoutClosedNotice_engineSide n).catalogAs
  rw [State.drainComplete_eq]
  rw [hnotice] at hx ⊢
  have hreplies := y.askCatalog_replies
  unfold CloseReplies at hreplies ⊢
  rw [hx.stopped, hrequests, hreadout, hlink] at hreplies
  rwa [hrequests]

theorem TakeController.record_map {c : TakeController} {f : TakeRecord → TakeRecord} (hf : ∀ x, (f x).number = x.number) :
    ({ c with records := c.records.map f } : TakeController).record n = (c.record n).map f := by
  show (c.records.map f).find? (fun x => x.number = n) = _
  rw [List.find?_map]
  simp only [Function.comp_def, hf]
  rfl

namespace Released

/-- A CLOSING take with nothing left is drained (R90). -/
theorem drains (h : Released s k now e v) (hlive : s.liveTake = some k) (hclosing : k.state = .closing)
    (hA : s.store.pageA.state = now) (hB : s.store.pageB.state = .empty) (hq : s.store.queue = [])
    (hws : s.store.writeState = some ws) (hgoing : ws.stalled = false) : v.pump = v.drainComplete k.number := by
  obtain ⟨hpageA, hpageB⟩ := h.pages hA
  have hrests := h.rests hA hB hq
  have hws' := h.writeState hws
  have hdiscarded : v.discarded k.number (ws.ended now e) = v :=
    State.discarded_going ((ws.ended_fields now e).2.2.1.trans hgoing)
  have hdrained : v.store.Drained := ⟨h.store.1.trans hq, by rw [hpageA], by rw [hpageB, hB]⟩
  have hclosing' : k.pageCounted.state = .closing := hclosing
  have hnumber : k.pageCounted.number = k.number := rfl
  rcases State.pump_closing (h.live hlive) hclosing' with ⟨hnone, -⟩ | ⟨w, hw, hcase⟩
  · rw [hrests, hws'] at hnone
    cases hnone
  · rw [hrests, hws'] at hw
    obtain rfl := Option.some.inj hw
    rw [hrests, hnumber, hdiscarded] at hcase
    exact (hcase.resolve_left fun hmore => hmore.1 hdrained).2

/-- What a complete drain leaves of records, coder and pages (R90). -/
theorem closed (h : Released s k now e v) (hA : s.store.pageA.state = now) :
    let t := (v.drainComplete k.number).settlePort
    t.takes.records = s.takes.records.map (fun x =>
        if x.number = k.number then { x.pageCounted with state := .closed } else x)
      ∧ t.coder.nextIndex = none ∧ t.store.writeState = none ∧ t.store.pageA = {} ∧ t.store.pageB = s.store.pageB := by
  intro t
  obtain ⟨hpageA, hpageB⟩ := h.pages hA
  have hrecords : (v.closed k.number).takes.records = s.takes.records.map (fun x =>
      if x.number = k.number then { x.pageCounted with state := .closed } else x) := by
    show v.takes.records.map _ = _
    rw [h.takes]
    exact map_records_map (f := TakeRecord.pageCounted) (fun _ => rfl) (fun x => { x with state := .closed })
      s.takes.records
  have hafter : AfterDrain (v.closed k.number) t := v.drainComplete_after k.number
  clear_value t
  obtain ⟨_, _, _, _, _, _, _, _, _, rfl⟩ := hafter
  exact ⟨hrecords, rfl, rfl, hpageA, hpageB⟩

end Released

/-- The page count that the Readout Engine sees of the take it reads, once a page has been counted (R131). -/
theorem readoutTake_counted {z : State} (hrecords : z.takes.records
      = s.takes.records.map fun x => if x.number = k.number then x.pageCounted else x)
    (htake : z.readout.take = k.number) (hrecord : s.takes.record k.number = some k) :
    z.readoutTake.2 = min (k.pageCount + 1) 16777216 := by
  have hmap := TakeController.record_map (c := s.takes) (n := k.number)
    (f := fun x => if x.number = k.number then x.pageCounted else x) fun x => by split <;> rfl
  have hz : z.takes.record k.number = some k.pageCounted := by
    unfold TakeController.record at hmap ⊢
    rw [hrecords, hmap]
    show (s.takes.record k.number).map _ = _
    rw [hrecord]
    simp
  rw [State.readoutTake_eq, htake, hz]
  rfl

end Close

end Sys2Proof.Machine
end

section
/-!
A page that has been verified: what it makes of the live take (R90, R92, R97, R98, R110 to R112, R115, R137).
-/

namespace Sys2Proof.Machine

/-! ## A page that has been verified -/

/-- The write page once an operation on a page of extent `e` has ended (R111). -/
def WriteState.pageAfter (now : StagingState) (e : Nat) (w : WriteState) : Nat :=
  if now = .programming ∧ w.current = some e then w.writePage + 1 else w.writePage

theorem WriteState.pageAfter_eq (now : StagingState) (e : Nat) (w : WriteState) :
    w.pageAfter now e = (w.ended now e).writePage := (w.ended_fields now e).2.2.2.symm

/-- The page of the live take that was in `now`, in extent `a`, has been verified on the way from `s` to `t`. -/
def PageVerified (s : State) (now : StagingState) (a : PageAddress) (t : State) : Prop :=
  let A := s.store.pageA
  let B := s.store.pageB
  ∀ k, s.liveTake = some k →
    (k.state = .opened ∨ k.state = .paused →
      t.takes = { s.takes with
        records := s.takes.records.map fun x => if x.number = k.number then x.pageCounted else x }
      ∧ (s.readout.state ≠ .following → t.readout = s.readout ∧ t.link = s.link
        ∧ t.requests = s.requests)
      ∧ (A.state = now → B.state = .empty → s.store.queue = [] →
        t.store.pageA = {} ∧ t.store.pageB = B)
      ∧ (s.readout.state = .following → s.readout.take = k.number → s.takes.record k.number = some k →
        k.pageCount < 16777216 → s.readout.nextPage = k.pageCount →
        s.store.backlog < s.store.queue.length →
        t.readout = { s.readout with state := .holding, countdown := s.store.holdTime })
      ∧ ∀ ws, s.store.writeState = some ws →
        (A.state = now → B.state = .empty → s.store.queue ≠ [] → s.store.queue.length < 4092 →
          t.store.queue = [] ∧ t.store.pageB = B
          ∧ t.store.pageA = .begun k.number ws.nextStaging s.store.queue
          ∧ (t.store.writeState.map fun v => v.nextStaging) = some (ws.nextStaging + 1))
        ∧ (A.state = now → B.state = .waiting → s.store.queue = [] →
          (∀ e x, ws.current = some e → s.store.extent e = some x → x.state = .owned →
            s.store.answers e = true → ws.pageAfter now a.extent < 128 →
            t.store.table = s.store.table
              ∧ Released.WaitingGoes s ⟨e, ws.pageAfter now a.extent⟩ ((x.owner.map Owner.seq).getD 0) t)
          ∧ ∀ e es, 128 ≤ ws.pageAfter now a.extent → s.store.freeList = e :: es →
            t.store.table = setExtent s.store.table e
                ⟨.owned, some ⟨B.take, s.store.chainNext B.take, B.pageSeq⟩⟩
              ∧ t.store.writeState = some { ws with current := some e, writePage := 0, stalled := false }
              ∧ Released.WaitingGoes s ⟨e, 0⟩ (s.store.chainNext B.take) t))
    ∧ (k.state = .closing → A.state = now → B.state = .empty → s.store.queue = [] →
      s.store.writeState ≠ none → s.store.stalled = false →
      t.takes.records = s.takes.records.map (fun x =>
          if x.number = k.number then { x.pageCounted with state := .closed } else x)
        ∧ t.coder.nextIndex = none ∧ t.store.writeState = none ∧ t.store.pageA = {} ∧ t.store.pageB = B
        ∧ (s.CatalogReady → CatalogWriteBegun s t s.requests.closingWaiter)
        ∧ (s.takes.write ≠ none → CatalogWriteJoined s t s.requests.closingWaiter)
        ∧ (s.CatalogStopped → CatalogWriteFailed s t)
        ∧ (s.readout.state ≠ .following → CloseReplies s s.readout s.link t)
        ∧ (s.readout.state = .following → s.readout.take = k.number → s.takes.record k.number = some k →
          k.pageCount < s.readout.nextPage → s.readout.held = none → s.link.programUp = true →
          s.link.txProgram ≠ none → s.link.readoutQ = [] →
          CloseReplies s
            { s.readout with
              state := .ending, buffer := [], notes := s.readout.notes ++ [⟨false, false, true⟩] }
            { s.link with readoutQ := [makeFrame s.unit kindReadout 0
              [natWord k.number, natWord s.readout.nextPage, natWord (2 ^ 18)]] } t))

section Verified

variable {s x y t : State} {now : StagingState} {a : PageAddress} {k : TakeRecord} {e : Nat}

/-- A FOLLOWING readout with a deep packet queue holds where it is told of its next page (R132, R137). -/
theorem ArchiveEnded.holds (h : ArchiveEnded s now e y) (hfollowing : s.readout.state = .following)
    (htake : s.readout.take = k.number) (hrecord : s.takes.record k.number = some k) (hcount : k.pageCount < 16777216)
    (hpage : s.readout.nextPage = k.pageCount) (hdeep : s.store.backlog < s.store.queue.length) :
    (y.released k now).readoutVerifyNotice.readout
      = { s.readout with state := .holding, countdown := s.store.holdTime } := by
  obtain ⟨hreadout, -, -, hqueue, hbacklog, hhold, hrecords⟩ := h.engine (k := k)
  have hpages := readoutTake_counted hrecords (by rw [hreadout, htake]) hrecord
  have hmore : k.pageCount < min (k.pageCount + 1) 16777216 := Nat.lt_min.mpr ⟨Nat.lt_succ_self _, hcount⟩
  rw [← hpages, ← hpage, ← hreadout] at hmore
  rw [State.readoutVerifyNotice_deep (by rw [hreadout, hfollowing]) hmore (by rwa [hqueue, hbacklog])]
  show { (y.released k now).readout with
    state := .holding, countdown := (y.released k now).store.holdTime } = _
  rw [hreadout, hhold]

/-- A readout that is not FOLLOWING hears of nothing. -/
theorem ArchiveEnded.unheeded (h : ArchiveEnded s now e y) (hreadout : s.readout.state ≠ .following) :
    (y.released k now).readoutVerifyNotice = y.released k now :=
  State.readoutVerifyNotice_unheeded fun hfollowing => absurd (by rwa [h.engine.1] at hfollowing) hreadout

/-- The last page of a CLOSING take ends a readout that follows it and has sent every page (R137). -/
theorem ArchiveEnded.ends (h : ArchiveEnded s now e y) (hfollowing : s.readout.state = .following)
    (htake : s.readout.take = k.number) (hrecord : s.takes.record k.number = some k)
    (hpage : k.pageCount < s.readout.nextPage) (hheld : s.readout.held = none) (hup : s.link.programUp = true)
    (hbusy : s.link.txProgram ≠ none) (hq : s.link.readoutQ = []) :
    (y.released k now).readoutVerifyNotice = y.released k now
      ∧ ((y.released k now).closed k.number).readoutClosedNotice k.number = { (y.released k now).closed k.number with
        readout := { s.readout with
          state := .ending, buffer := [], notes := s.readout.notes ++ [⟨false, false, true⟩] }
        link := { s.link with readoutQ := [makeFrame (y.released k now).unit kindReadout 0
          [natWord k.number, natWord s.readout.nextPage, natWord (2 ^ 18)]] } } := by
  obtain ⟨hreadout, hlink, -, -, -, -, hrecords⟩ := h.engine (k := k)
  have hpages := readoutTake_counted hrecords (by rw [hreadout, htake]) hrecord
  have hsent : (y.released k now).readoutTake.2 ≤ s.readout.nextPage := by
    rw [hpages]
    omega
  have hclosed : ((y.released k now).closed k.number).readoutTake.2 = (y.released k now).readoutTake.2 := by
    have hrecord' : ((y.released k now).closed k.number).takes.record (y.released k now).readout.take
        = ((y.released k now).takes.record (y.released k now).readout.take).map
          fun x => if x.number = k.number then { x with state := .closed } else x :=
      TakeController.record_map fun x => by split <;> rfl
    have hsame : ((y.released k now).closed k.number).readout = (y.released k now).readout := rfl
    rw [State.readoutTake_eq, State.readoutTake_eq, hsame, hrecord']
    cases (y.released k now).takes.record (y.released k now).readout.take with
    | none => rfl
    | some x =>
      show (if x.number = k.number then _ else x : TakeRecord).pageCount = x.pageCount
      split <;> rfl
  refine ⟨State.readoutVerifyNotice_unheeded fun _ => by rwa [hreadout], ?_⟩
  have hends := State.readoutClosedNotice_ends (s := (y.released k now).closed k.number)
    (hreadout ▸ hfollowing) (by rw [hclosed]; exact hreadout ▸ hsent) (hreadout ▸ hheld) (hlink ▸ hup) (hlink ▸ hbusy)
    (hlink ▸ hq)
  have hsame : ((y.released k now).closed k.number).readout = s.readout := hreadout
  have hsame' : ((y.released k now).closed k.number).link = s.link := hlink
  rw [hsame, hsame', htake] at hends
  exact hends

/-- What a verified page makes of the live take (R90, R92, R110 to R112, R137). -/
theorem ArchiveEnded.verified (h : ArchiveEnded s now a.extent y) :
    PageVerified s now a (y.pageVerified now).settlePort := by
  intro k hlive
  have hv := h.released ((y.released k now).readoutVerifyNotice_engineSide)
  have hquiet : s.readout.state ≠ .following → (y.released k now).readoutVerifyNotice.readout = s.readout
      ∧ (y.released k now).readoutVerifyNotice.link = s.link
      ∧ (y.released k now).readoutVerifyNotice.requests = s.requests := fun hreadout => by
    rw [h.unheeded hreadout]
    exact ⟨h.engine.1, h.engine.2.1, h.engine.2.2.1⟩
  rw [State.pageVerified_eq (h.liveTake.trans hlive)]
  refine ⟨fun hstate => ?_, fun hclosing hA hB hq hws hgoing => ?_⟩
  · have hopen : k.state ≠ .closing := by
      rcases hstate with hk | hk <;> simp [hk]
    have hheld := fun (hf : s.readout.state = .following) (ht : s.readout.take = k.number) hr hc hp hd =>
      h.holds (k := k) hf ht hr hc hp hd
    generalize (y.released k now).readoutVerifyNotice = v at hv hquiet hheld
    have hpump : v.pump = v.twoRounds := State.pump_rounds (hv.live hlive) hopen
    rw [hpump]
    have hport := v.twoRounds.settlePort_portSide
    obtain ⟨htakes, hreadout, hlink, hrequests⟩ := v.twoRounds_roundSide.side.settled hport
    refine ⟨htakes.trans hv.takes, fun hf => ?_, fun hA hB hq => ?_, fun hf ht hr hc hp hd => ?_,
      fun ws hws => ⟨fun hA hB hq hlen => ?_, fun hA hB hq => ⟨fun c x hc hx howned hans hpage => ?_,
        fun c cs hpage hfree => ?_⟩⟩⟩
    · obtain ⟨hreadout', hlink', hrequests'⟩ := hquiet hf
      exact ⟨hreadout.trans hreadout', hlink.trans hlink', hrequests.trans hrequests'⟩
    · rw [hv.rests hA hB hq] at hport ⊢
      obtain ⟨hpageA, hpageB⟩ := hv.pages hA
      rw [hport.eq]
      exact ⟨hpageA, hpageB⟩
    · exact hreadout.trans (hheld hf ht hr hc hp hd)
    · exact hv.starts hlive hopen hws hA hB hq hlen hport
    · rw [WriteState.pageAfter_eq] at hpage ⊢
      exact hv.goesCurrent hlive hws hA hB hq hc hx howned hans hpage
    · rw [WriteState.pageAfter_eq] at hpage
      exact hv.goesNew hlive hws hA hB hq hpage hfree
  · obtain ⟨ws, hws⟩ := Option.ne_none_iff_exists'.mp hws
    have hgoing' : ws.stalled = false := by
      simpa [StoreController.stalled, hws] using hgoing
    have hends := fun hf ht hr hp hh hu hb hl => h.ends (k := k) hf ht hr hp hh hu hb hl
    rw [hv.drains hlive hclosing hA hB hq hws hgoing']
    obtain ⟨hrecords, hindex, hstate, hpageA, hpageB⟩ := hv.closed hA
    obtain ⟨hbegun, hjoined, hfailed⟩ := State.drainComplete_catalog (n := k.number) hv.catalogAs hv.closingWaiter
    refine ⟨hrecords, hindex, hstate, hpageA, hpageB, hbegun, hjoined, hfailed, fun hf => ?_,
      fun hf ht hr hp hh hu hb hl => ?_⟩
    · obtain ⟨hreadout, hlink, hrequests⟩ := hquiet hf
      refine State.drainComplete_replies hv.catalogAs (State.readoutClosedNotice_unheeded ?_ _) hreadout hlink hrequests
      show (y.released k now).readoutVerifyNotice.readout.state ≠ .following
      rwa [hreadout]
    · obtain ⟨hverify, hclosed⟩ := hends hf ht hr hp hh hu hb hl
      have hunit : (y.released k now).unit = s.unit := by
        obtain ⟨_, _, _, _, _, _, _, _, _, _, hframe⟩ := (h.released (k := k) (.refl _)).frame
        rw [hframe]
      rw [hunit] at hclosed
      rw [hverify] at hv ⊢
      exact State.drainComplete_replies hv.catalogAs hclosed rfl rfl h.engine.2.2.1

end Verified

end Sys2Proof.Machine
end

section
/-!
A page whose program or verify has failed (R92, R105, R111, R113, R114, R126).
-/

namespace Sys2Proof.Machine

/-! ## A page that has failed -/

/-- `x` is `s` once an operation on a page of extent `e` has ended with failure and has been counted (R113, R126). -/
def ArchiveLost (s : State) (now : StagingState) (e : Nat) (x : State) : Prop :=
  ∃ freeCount flash failures mismatches inFlight waiting, x = { s with
    freeCount := freeCount, flash := flash
    store := { s.store with
      writeState := s.store.writeState.map (WriteState.ended now e), programFailures := failures
      verifyMismatches := mismatches, inFlight := inFlight, waiting := waiting } }

/-- The page in `now`, in extent `a`, has failed on the way from `s` to `t` (R92, R105, R111, R113, R114, R126). -/
def PageLost (s : State) (a : PageAddress) (now : StagingState) (t : State) : Prop :=
  let A := s.store.pageA
  let B := s.store.pageB
  (∀ x, s.store.extent a.extent = some x →
    t.store.extent a.extent = some { state := .bad, owner := x.owner })
  ∧ t.AtPort (.archiveBadMark a.extent)
  ∧ ∀ (k : TakeRecord) (ws : WriteState) (x : Extent), s.liveTake = some k → k.state = .opened →
    s.store.writeState = some ws → ws.current = some a.extent → s.store.extent a.extent = some x →
    a.extent ∉ s.store.freeList →
    s.store.queue = [] → A.state = now → B.state = .empty →
    let next := { s.store with
      table := setExtent s.store.table a.extent { state := .bad, owner := x.owner } }.chainNext A.take
    t.takes = s.takes
      ∧ (s.store.freeList = [] → t.store.stalled = true ∧ t.store.relocations = s.store.relocations
        ∧ t.store.pageA = { A with state := .waiting, failedBefore := true })
      ∧ ∀ (e : Nat) (es : List Nat), s.store.freeList = e :: es →
        t.store.stalled = false ∧ t.store.relocations = countUp s.store.relocations 1
          ∧ t.store.pageA = { A with state := .programming, failedBefore := false }
          ∧ t.store.extent e = some ⟨.owned, some ⟨A.take, next, A.pageSeq⟩⟩
          ∧ ∃ p : PageImage, p.Holds A next ∧ t.AtPort (.archiveProgram ⟨e, 0⟩ p)

section Lost

variable {s x y t : State} {now : StagingState} {a : PageAddress} {k : TakeRecord} {ws : WriteState} {e : Nat}
  {es : List Nat}

/-- The free list is that of before when an extent that is not in it takes a state other than FREE. -/
theorem StoreController.freeList_setExtent {c : StoreController} {v : Extent} (he : e ∉ c.freeList)
    (hv : v.state ≠ .free) : ({ c with table := setExtent c.table e v } : StoreController).freeList = c.freeList := by
  by_cases hformed : c.state ≠ .unmounted ∧ c.state ≠ .mounting
  · rw [StoreController.freeList_eq hformed] at he ⊢
    rw [StoreController.freeList_eq (c := { c with table := setExtent c.table e v }) hformed]
    have hkeys : ∀ y ∈ c.table, y.1 = e → y.2.state ≠ .free := fun y hy hye hfree =>
      he (List.mem_map.mpr ⟨y, List.mem_filter.mpr ⟨hy, by simpa using hfree⟩, hye⟩)
    show ((setExtent c.table e v).filter fun x => x.2.state = .free).map Prod.fst = _
    clear he
    generalize c.table = ys at hkeys ⊢
    induction ys with
    | nil => rfl
    | cons y ys ih =>
      have ih' := ih fun z hz => hkeys z (List.mem_cons_of_mem _ hz)
      by_cases hy : y.1 = e
      · have hfree := hkeys y List.mem_cons_self hy
        simpa [setExtent, hy, hv, hfree] using ih'
      · by_cases hfree : y.2.state = .free
        · simpa [setExtent, hy, hfree] using ih'
        · simpa [setExtent, hy, hfree] using ih'
  · have hempty : ∀ d : StoreController, ¬ (d.state ≠ .unmounted ∧ d.state ≠ .mounting) → d.freeList = [] := by
      intro d hd
      unfold StoreController.freeList
      cases hs : d.state <;> simp_all
    rw [hempty c hformed]
    exact hempty _ hformed

/-- Page A finds no extent, and the take is STALLED (R114). -/
theorem State.twoRounds_stalls (hlive : s.liveTake = some k) (hws : s.store.writeState = some ws)
    (hq : s.store.queue = []) (hA : s.store.pageA.state = .waiting) (hB : s.store.pageB.state = .empty)
    (hcurrent : s.store.currentTarget ws = none) (hfree : s.store.freeList = []) : s.twoRounds = s.stall ws := by
  have htarget : ∀ x : State, x.store.currentTarget ws = none → x.store.freeList = [] → ∀ p, x.target p ws = none :=
    fun x hx hxfree p => by simp only [State.target, hx, State.allocate, hxfree]
  have hround : ∀ (x : State) (v : WriteState), x.liveTake = some k → x.store.writeState = some v →
      x.store.queue = [] → x.store.pageA.state = .waiting → x.store.pageB.state = .empty →
      x.target x.store.pageA v = none → x.stagingRound = x.stall v := by
    intro x v hl hv hxq hxA hxB ht
    have hready : x.store.pageA.ready x.store.pageB = true := by simp [StagingPage.ready, hxA, hxB]
    rw [State.stagingRound_unfed hl hv hxq (by simp [hxA]) (by simp [hxB])]
    have hstall : x.submitA = x.stall v := by simp only [State.submitA, hv, hready, ht, if_true]
    rw [hstall]
    exact State.submitB_rests (s := x.stall v) (by
      show x.store.pageB.state ≠ .waiting
      simp [hxB])
  rw [State.twoRounds, hround s ws hlive hws hq hA hB (htarget s hcurrent hfree _)]
  refine hround (s.stall ws) { ws with stalled := true } hlive rfl hq hA hB ?_
  have hnone : (s.stall ws).store.currentTarget { ws with stalled := true } = none := hcurrent
  have hnil : (s.stall ws).store.freeList = [] := hfree
  simp only [State.target, hnone, State.allocate, hnil]

/-- A failed page as it waits again: its extent is BAD and its bad mark asked for (R105, R113). -/
def State.pageBack (x : State) (e : Nat) (now : StagingState) : State :=
  ((x.extentBad e true).submit (.archiveBadMark e)).pageMoves now .waiting true

theorem State.pageBack_kept (x : State) (e : Nat) (now : StagingState) : (x.pageBack e now).AtPort (.archiveBadMark e)
    ∧ (x.pageBack e now).store.NotFree e
    ∧ (x.pageBack e now).store.extent e
      = (x.store.extent e).map (fun v => { state := .bad, owner := v.owner }) := by
  obtain ⟨_, _, hmoves⟩ := State.pageMoves_frame ((x.extentBad e true).submit (.archiveBadMark e)) now .waiting true
  unfold State.pageBack
  rw [hmoves]
  refine ⟨State.AtPort.submitted (x.extentBad e true) _, fun y hy hye => ?_, ?_⟩
  · have hmem : y ∈ Machine.setExtent x.store.table e { state := .bad, owner := (x.store.extent e).bind Extent.owner } := hy
    rw [setExtent_eq_map] at hmem
    obtain ⟨z, -, rfl⟩ := List.mem_map.mp hmem
    rw [if_pos hye]
    exact nofun
  · show (Machine.setExtent x.store.table e { state := .bad, owner := (x.store.extent e).bind Extent.owner }).lookup e = _
    rw [lookup_setExtent_eq]
    show (x.store.extent e).map _ = _
    cases x.store.extent e <;> simp

theorem State.pageBack_eq {v : Extent} (hA : x.store.pageA.state = now) (hextent : x.store.extent e = some v) :
    x.pageBack e now = { x with store := { x.store with
      table := Machine.setExtent x.store.table e { state := .bad, owner := v.owner }
      pageA := { x.store.pageA with state := .waiting, failedBefore := true }
      waiting := x.store.waiting ++ [.archiveBadMark e] } } := by
  have hmoves : x.pageBack e now = { (x.extentBad e true).submit (.archiveBadMark e) with
      store := { ((x.extentBad e true).submit (.archiveBadMark e)).store with
        pageA := { x.store.pageA with state := .waiting, failedBefore := true } } } := if_pos hA
  rw [hmoves]
  unfold State.extentBad
  rw [if_pos rfl, hextent]
  rfl

/-- A failed page A of an OPEN take goes to a new extent, or the take is STALLED (R111, R113, R114). -/
theorem ArchiveLost.relocates {v : Extent} (h : ArchiveLost s now a.extent x) (hlive : s.liveTake = some k)
    (hopen : k.state = .opened) (hws : s.store.writeState = some ws) (hcurrent : ws.current = some a.extent)
    (hextent : s.store.extent a.extent = some v) (hfree : a.extent ∉ s.store.freeList) (hq : s.store.queue = [])
    (hA : s.store.pageA.state = now) (hB : s.store.pageB.state = .empty) :
    let A := s.store.pageA
    let next := { s.store with
      table := setExtent s.store.table a.extent { state := .bad, owner := v.owner } }.chainNext A.take
    let t := (x.pageFailed a.extent now).settlePort
    t.takes = s.takes
      ∧ (s.store.freeList = [] → t.store.stalled = true ∧ t.store.relocations = s.store.relocations
        ∧ t.store.pageA = { A with state := .waiting, failedBefore := true })
      ∧ ∀ (e : Nat) (es : List Nat), s.store.freeList = e :: es →
        t.store.stalled = false ∧ t.store.relocations = countUp s.store.relocations 1
          ∧ t.store.pageA = { A with state := .programming, failedBefore := false }
          ∧ t.store.extent e = some ⟨.owned, some ⟨A.take, next, A.pageSeq⟩⟩
          ∧ ∃ p : PageImage, p.Holds A next ∧ t.AtPort (.archiveProgram ⟨e, 0⟩ p) := by
  intro A next t
  have hfailed : x.pageFailed a.extent now = (x.pageBack a.extent now).pump := rfl
  have hback : ∃ freeCount flash failures mismatches inFlight waiting, x.pageBack a.extent now = { s with
      freeCount := freeCount, flash := flash
      store := { s.store with
        table := setExtent s.store.table a.extent { state := .bad, owner := v.owner }
        writeState := some (ws.ended now a.extent)
        pageA := { A with state := .waiting, failedBefore := true }
        programFailures := failures, verifyMismatches := mismatches, inFlight := inFlight, waiting := waiting } } := by
    unfold ArchiveLost at h
    rw [hws] at h
    obtain ⟨n, f, p, m, i, w, rfl⟩ := h
    exact ⟨n, f, p, m, i, _, State.pageBack_eq hA hextent⟩
  have hside : PortSide (x.pageBack a.extent now).pump t := State.settlePort_portSide _
  have hkeeps : ∀ op, (x.pageBack a.extent now).pump.AtPort op → t.AtPort op := fun op h => h.settlePort
  clear_value t
  obtain ⟨_, _, _, _, _, _, hback⟩ := hback
  generalize hz : x.pageBack a.extent now = z at hback hside hkeeps
  have hlive' : z.liveTake = some k := by
    rw [hback]
    exact hlive
  have hws' : z.store.writeState = some (ws.ended now a.extent) := by rw [hback]
  have hq' : z.store.queue = [] := by
    rw [hback]
    exact hq
  have hA' : z.store.pageA = { A with state := .waiting, failedBefore := true } := by rw [hback]
  have hB' : z.store.pageB.state = .empty := by
    rw [hback]
    exact hB
  have htable : z.store.table = setExtent s.store.table a.extent { state := .bad, owner := v.owner } := by rw [hback]
  have hfree' : z.store.freeList = s.store.freeList := by
    rw [hback]
    exact StoreController.freeList_setExtent hfree nofun
  have hnone : z.store.currentTarget (ws.ended now a.extent) = none := by
    refine StoreController.currentTarget_none fun c y hc hy _ _ => ?_
    obtain rfl : a.extent = c := Option.some.inj (hcurrent.symm.trans ((ws.ended_fields now a.extent).1 ▸ hc))
    unfold StoreController.extent at hy hextent
    rw [htable, lookup_setExtent_eq, hextent] at hy
    cases hy
    simp
  rw [State.pump_rounds hlive' (by simp [hopen])] at hside hkeeps
  refine ⟨?_, fun hnil => ?_, fun c cs hcs => ?_⟩
  · obtain ⟨_, _, _, _, _, _, _, hrounds⟩ := z.twoRounds_roundSide.side
    rw [hrounds, hback] at hside
    obtain ⟨_, _, rfl⟩ := hside
    rfl
  · rw [State.twoRounds_stalls hlive' hws' hq' (by rw [hA']) hB' hnone (hfree'.trans hnil)] at hside
    obtain ⟨_, _, rfl⟩ := hside
    exact ⟨rfl, by rw [← show z.store.relocations = s.store.relocations by rw [hback]]; rfl, hA'⟩
  · have hcs' : z.store.freeList = c :: cs := hfree'.trans hcs
    have hrounds := State.twoRounds_allocatesA hlive' hws' hq' (by rw [hA']) hB' hnone hcs'
    have hnext : z.store.nextSeq z.store.pageA.take = next := by
      rw [StoreController.nextSeq_eq_chainNext, hA']
      unfold StoreController.chainNext
      rw [htable]
      rfl
    have hat : t.AtPort (.archiveProgram ⟨c, 0⟩ (A.imageIn next)) := by
      refine hkeeps _ (.inl ?_)
      rw [hrounds, hnext, hA']
      exact List.mem_append_right _ (List.mem_singleton_self _)
    rw [hrounds] at hside
    obtain ⟨_, _, rfl⟩ := hside
    refine ⟨rfl, ?_, ?_, ?_, _, A.imageIn_holds _, hat⟩
    · show (if z.store.pageA.failedBefore then countUp z.store.relocations 1 else z.store.relocations) = _
      rw [hA', hback]
      rfl
    · show { z.store.pageA with state := .programming, failedBefore := false } = _
      rw [hA']
    · show (setExtent z.store.table c ⟨.owned, some ⟨z.store.pageA.take, z.store.nextSeq z.store.pageA.take,
        z.store.pageA.pageSeq⟩⟩).lookup c = _
      rw [lookup_setExtent _ (StoreController.mem_freeList (by rw [hcs']; exact List.mem_cons_self)), hnext, hA']

/-- What a failed page leaves (R92, R105, R111, R113, R114). -/
theorem ArchiveLost.lost (h : ArchiveLost s now a.extent x) : PageLost s a now (x.pageFailed a.extent now).settlePort := by
  obtain ⟨hat, hnot, hextent⟩ := x.pageBack_kept a.extent now
  obtain ⟨hport, hkept⟩ := (x.pageBack a.extent now).pump_keeps a.extent
  have hx : x.store.extent a.extent = s.store.extent a.extent := by
    obtain ⟨_, _, _, _, _, _, rfl⟩ := h
    rfl
  refine ⟨fun v hv => ?_, hport _ rfl hat, fun k ws v hlive hopen hws hc hv hfree hq hA hB =>
    h.relocates hlive hopen hws hc hv hfree hq hA hB⟩
  refine (hkept hnot).2.trans (hextent.trans ?_)
  rw [hx, hv]
  rfl

theorem ArchiveEnded.countProgramFailure (h : ArchiveEnded s now e y) : ArchiveLost s now e y.countProgramFailure := by
  obtain ⟨_, _, _, _, rfl⟩ := h
  exact ⟨_, _, _, _, _, _, rfl⟩

theorem ArchiveEnded.countMismatch (h : ArchiveEnded s now e y) : ArchiveLost s now e y.countMismatch := by
  obtain ⟨_, _, _, _, rfl⟩ := h
  exact ⟨_, _, _, _, _, _, rfl⟩

theorem ArchiveEnded.counters (h : ArchiveEnded s now e y) : y.store.programFailures = s.store.programFailures
    ∧ y.store.verifyMismatches = s.store.verifyMismatches := by
  obtain ⟨_, _, _, _, rfl⟩ := h
  exact ⟨rfl, rfl⟩

/-- A failed page is counted once (R126). -/
theorem State.pageFailed_counters (x : State) (e : Nat) (now : StagingState) :
    (x.pageFailed e now).settlePort.store.programFailures = x.store.programFailures
      ∧ (x.pageFailed e now).settlePort.store.verifyMismatches = x.store.verifyMismatches := by
  obtain ⟨hfailures, hmismatches⟩ := (x.pageBack e now).pump_counters
  obtain ⟨_, _, hmoves⟩ := State.pageMoves_frame ((x.extentBad e true).submit (.archiveBadMark e)) now .waiting true
  have hback : (x.pageBack e now).store.programFailures = x.store.programFailures
      ∧ (x.pageBack e now).store.verifyMismatches = x.store.verifyMismatches := by
    unfold State.pageBack
    rw [hmoves]
    exact ⟨rfl, rfl⟩
  exact ⟨hfailures.trans hback.1, hmismatches.trans hback.2⟩

end Lost

end Sys2Proof.Machine
end

section
/-!
The ends of archive programs, verify fetches and bad mark writes (R103, R112, R113).
-/

namespace Sys2Proof.Machine

section Ends

variable {s x t : State} {a : PageAddress} {p : PageImage} {now : StagingState} {ok g : Bool} {e n : Nat}

theorem State.pageMoves_eq {next : StagingState} (hnext : next ≠ .empty) (failed : Bool) :
    x.pageMoves now next failed = { x with store := { x.store with
      pageA := if x.store.pageA.state = now
        then { x.store.pageA with state := next, failedBefore := failed } else x.store.pageA
      pageB := if x.store.pageA.state ≠ now ∧ x.store.pageB.state = now
        then { x.store.pageB with state := next, failedBefore := failed } else x.store.pageB } } := by
  by_cases hA : x.store.pageA.state = now
  · simp only [State.pageMoves, hA, hnext, if_true, if_false, ne_eq, not_true, false_and]
  by_cases hB : x.store.pageB.state = now
  · simp only [State.pageMoves, hA, hB, hnext, if_true, if_false, ne_eq, not_false_eq_true, true_and]
  · simp only [State.pageMoves, hA, hB, if_false, and_false]

theorem exec_archiveProgramEnd (h : s.store.inFlight = some ⟨.archiveProgram a p, n⟩) :
    exec (.archiveProgramEnd ok g) s = .next
      (if !ok then ((s.freed (.archiveProgram a p) ok g).raiseWritePage a.extent).countProgramFailure.pageFailed
          a.extent .programming
        else if s.store.verify then (((s.freed (.archiveProgram a p) ok g).raiseWritePage a.extent).pageMoves
          .programming .verifying false).submit (.archiveVerify a p)
        else ((s.freed (.archiveProgram a p) ok g).raiseWritePage a.extent).pageVerified .programming).settlePort := by
  have hverify : ((s.freed (.archiveProgram a p) ok g).raiseWritePage a.extent).store.verify = s.store.verify :=
    (State.raiseWritePage_side _ _).verify.trans (s.freed_side (.archiveProgram a p) ok g).counters.2.2
  rw [← hverify]
  show execArchiveProgramEnd ok g s = _
  simp only [execArchiveProgramEnd, h, State.freed] <;> rfl

theorem exec_verifyFetchEnd {answer : Answer} (h : s.store.inFlight = some ⟨.archiveVerify a p, n⟩) :
    exec (.verifyFetchEnd answer g) s = .next
      (if s.fetched a answer = some p then (s.freePort g).pageVerified .verifying
        else (s.freePort g).countMismatch.pageFailed a.extent .verifying).settlePort := by
  show execVerifyFetchEnd answer g s = _
  simp only [execVerifyFetchEnd, h]

theorem exec_badMarkWriteEnd
    (h : s.store.inFlight = some ⟨.archiveBadMark e, n⟩ ∨ s.store.inFlight = some ⟨.eraserBadMark e, n⟩) :
    exec (.badMarkWriteEnd ok g) s = .next (s.freed (.archiveBadMark e) ok g).settlePort := by
  have hsame : s.freed (.eraserBadMark e) ok g = s.freed (.archiveBadMark e) ok g := rfl
  show execBadMarkWriteEnd ok g s = _
  rcases h with h | h
  · simp only [execBadMarkWriteEnd, h, State.freed]
  · rw [← hsame]
    simp only [execBadMarkWriteEnd, h, State.freed]

/-- A good program that is to be verified: its page is VERIFYING (R112). -/
theorem State.freed_verifies (a : PageAddress) (p : PageImage) (g : Bool) :
    let A := s.store.pageA
    let B := s.store.pageB
    let t := ((((s.freed (.archiveProgram a p) true g).raiseWritePage a.extent).pageMoves .programming .verifying
      false).submit (.archiveVerify a p)).settlePort
    t.flash = s.flash.write a.key p ∧ t = { s with flash := t.flash, store := t.store }
      ∧ t.AtPort (.archiveVerify a p) ∧ t.store = { s.store with
        writeState := s.store.writeState.map fun w =>
          if w.current = some a.extent then { w with writePage := w.writePage + 1 } else w
        pageA := if A.state = .programming then { A with state := .verifying, failedBefore := false } else A
        pageB := if A.state ≠ .programming ∧ B.state = .programming
          then { B with state := .verifying, failedBefore := false } else B
        inFlight := t.store.inFlight, waiting := t.store.waiting } := by
  intro A B t
  have hport : PortSide _ t ∧ t.AtPort (.archiveVerify a p) := State.submit_settled _ (.archiveVerify a p)
  clear_value t
  obtain ⟨hport, hat⟩ := hport
  obtain ⟨i, w, hfreed⟩ := s.freed_done (.archiveProgram a p) g
  have hended : WriteState.ended .programming a.extent = fun w =>
      if w.current = some a.extent then { w with writePage := w.writePage + 1 } else w := by
    funext w
    simp only [WriteState.ended, true_and]
  rw [State.pageMoves_eq (next := .verifying) nofun, State.raiseWritePage_eq, hended, hfreed] at hport
  obtain ⟨_, _, rfl⟩ := hport
  exact ⟨rfl, rfl, hat, rfl⟩

/-- Spare word 4 of page 0 of the extent takes the value 0, the other words are kept (R103, R104). -/
theorem State.freed_badMark (e : Nat) (g : Bool) (hf : s.flash.Wf) :
    ((s.freed (.archiveBadMark e) true g).flash.read (e * 128)).data = (s.flash.read (e * 128)).data
      ∧ ((s.freed (.archiveBadMark e) true g).flash.read (e * 128)).spare
        = (s.flash.read (e * 128)).spare.set 4 0 := by
  have hread : (s.freed (.archiveBadMark e) true g).flash.read (e * 128)
      = { s.flash.read (e * 128) with spare := (s.flash.read (e * 128)).spare.set 4 0 } := by
    rw [State.freed_flash]
    exact FlashMemory.read_write_same s.flash (e * 128) _ hf
  rw [hread]
  exact ⟨rfl, rfl⟩

end Ends

/-- Settles O56: each end leaves the state as it was but for the page that moves and the operations at the port; what
follows is a verified page, counted and released, or a failed one, whose extent is BAD and which waits again. -/
theorem archivePageEnds : Obligations.ArchivePageEnds := by
  intro s g
  refine ⟨fun a p n hflight => ⟨fun hverify => ⟨_, exec_archiveProgramEnd hflight, ?_⟩,
      fun hverify => ⟨_, exec_archiveProgramEnd hflight, ?_⟩, ⟨_, exec_archiveProgramEnd hflight, ?_⟩⟩,
    fun a p n answer hflight => ⟨fun hgot => ⟨_, exec_verifyFetchEnd hflight, ?_⟩,
      fun hgot => ⟨_, exec_verifyFetchEnd hflight, ?_⟩⟩,
    fun e n ok hflight => ⟨_, exec_badMarkWriteEnd hflight, ?_⟩⟩
  · rw [if_neg (show ¬ (!true) = true by decide), if_pos hverify]
    obtain ⟨hflash, hrest, hat, hstore⟩ := s.freed_verifies a p g
    refine ⟨hrest, fun hf => ?_, hat, hstore⟩
    rw [hflash]
    exact FlashMemory.read_write_same s.flash a.key p hf
  · rw [if_neg (by decide), if_neg (by simp [hverify])]
    exact ((s.freed_side (.archiveProgram a p) true g).archiveEnded a.extent).verified
  · have hended := (s.freed_side (.archiveProgram a p) false g).archiveEnded a.extent
    exact ⟨hended.countProgramFailure.lost,
      (State.pageFailed_counters _ _ _).1.trans (congrArg (countUp · 1) hended.counters.1)⟩
  · rw [if_pos hgot]
    have hport := s.freePort_portSide g
    exact ⟨(hport.archiveEnded a.extent).verified,
      ((State.pageVerified_side _ _).trans (State.settlePort_side _)).flash.trans hport.flash⟩
  · rw [if_neg hgot]
    have hport := s.freePort_portSide g
    have hended := hport.archiveEnded a.extent
    exact ⟨hended.countMismatch.lost,
      (State.pageFailed_counters _ _ _).2.trans (congrArg (countUp · 1) hended.counters.2),
      ((State.pageFailed_side _ _ _).trans (State.settlePort_side _)).flash.trans hport.flash⟩
  · obtain ⟨n, f, _, _, hfreed⟩ := s.freed_side (.archiveBadMark e) ok g
    have hread := s.freed_badMark e g
    have hport := (s.freed (.archiveBadMark e) ok g).settlePort_portSide
    have hflash := hport.flash
    generalize (s.freed (.archiveBadMark e) ok g).settlePort = t at hport hflash ⊢
    refine ⟨?_, ?_, fun hok hf => ?_⟩
    · rw [hfreed] at hport
      obtain ⟨_, _, rfl⟩ := hport
      rfl
    · rw [hfreed] at hport
      obtain ⟨_, _, rfl⟩ := hport
      rfl
    · subst hok
      rw [hflash]
      exact hread hf

end Sys2Proof.Machine
end

section
/-!
The mount's recovery where two extents of one take hold the same extent sequence (R101, R107): the search below the extent
that is lost passes over the second of them.
-/

namespace Sys2Proof.Machine

/-- The take 1 is being recovered, and the page at the head of its extent 32769 is fetched. Two extents below that one
hold the extent sequence 0: extent 2, listed first, from page 5 on in a module that has FAULT, and extent 32768 from page 0
on in a module that answers. -/
def twoExtentsOfOneSequence : State := { State.reset with
  takes := { records := [{ number := 1, state := .opened }] }
  store := {
    modules := [.fault, .answering, .notFitted, .notFitted]
    state := .mounting
    table := [(2, ⟨.owned, some ⟨1, 0, 5⟩⟩), (32768, ⟨.owned, some ⟨1, 0, 0⟩⟩), (32769, ⟨.owned, some ⟨1, 1, 128⟩⟩)]
    inFlight := some ⟨.recoveryFetch ⟨32769, 0⟩, 0⟩
    mount := some ⟨.recover ⟨1, 1, 128, [], false⟩, true⟩ } }

/-- Once the fetch has failed, the search below sequence 1 takes the extent listed first, whose page 5 cannot be fetched,
then looks only below sequence 0: the mount ends with no page recovered. -/
theorem twoExtentsOfOneSequence_ends : ∃ t, exec (.recoveryFetchEnd .failed false) twoExtentsOfOneSequence = .next t
    ∧ t.store.mount = none := ⟨_, rfl, rfl⟩

/-- The only extent below sequence 1 whose first page can be fetched. -/
theorem twoExtentsOfOneSequence_lower {q : Owner} {b : PageAddress}
    (hq : ∃ y ∈ twoExtentsOfOneSequence.store.table, y.2.owner = some q)
    (hseq : q.seq < 1) (hlocate : twoExtentsOfOneSequence.store.locate 1 q.first = some b)
    (hanswers : twoExtentsOfOneSequence.store.answers b.extent = true) : q = ⟨1, 0, 0⟩ := by
  obtain ⟨y, hy, hq⟩ := hq
  have hmem : y ∈ [((2 : Nat), (⟨.owned, some ⟨1, 0, 5⟩⟩ : Extent)), (32768, ⟨.owned, some ⟨1, 0, 0⟩⟩),
    (32769, ⟨.owned, some ⟨1, 1, 128⟩⟩)] := hy
  rcases List.mem_cons.mp hmem with rfl | hmem
  · obtain rfl : (⟨1, 0, 5⟩ : Owner) = q := Option.some.inj hq
    obtain rfl : (⟨2, 0⟩ : PageAddress) = b := Option.some.inj hlocate
    exact absurd hanswers (by decide)
  rcases List.mem_cons.mp hmem with rfl | hmem
  · exact (Option.some.inj hq).symm
  obtain rfl := List.mem_singleton.mp hmem
  obtain rfl : (⟨1, 1, 128⟩ : Owner) = q := Option.some.inj hq
  exact absurd hseq (by decide)

/-- Refutes O59: of two extents of one take and one extent sequence the statement has the recovery go on at the one whose
first page can be fetched, where the model looks at the one listed first and then only below that sequence (R101, R107).
The scan of the mount and the allocation never give a take two extents of one sequence (R107, R111, R122); the statement
is about all states. -/
theorem not_mountGoesOn : ¬ Obligations.MountGoesOn := by
  intro h
  obtain ⟨-, -, hrecovery⟩ := (h twoExtentsOfOneSequence).2 .failed false true 0
  obtain ⟨-, hlost⟩ := (hrecovery ⟨32769, 0⟩ ⟨1, 1, 128, [], false⟩ rfl rfl).1 rfl
  obtain ⟨-, hlower⟩ := (hlost nofun).2 rfl
  obtain ⟨t, hnext, -, -, hstore⟩ := hlower ⟨1, 0, 0⟩ ⟨32768, 0⟩
    ⟨rfl, by decide, ⟨_, .tail _ (.head _), rfl⟩, rfl, rfl⟩
    fun q b ⟨_, hseq, hq, hlocate, hanswers⟩ => by
      obtain rfl := twoExtentsOfOneSequence_lower hq hseq hlocate hanswers
      exact ⟨le_rfl, fun _ => rfl⟩
  obtain ⟨u, hends, hnone⟩ := twoExtentsOfOneSequence_ends
  obtain rfl : u = t := Host.Outcome.next.inj (hends.symm.trans hnext)
  rw [hstore] at hnone
  cases hnone

end Sys2Proof.Machine
end

section
/-!
STREAM_SET, METER_CONFIG and STORE_CONFIG (R125, R167, R177): what a code and value word makes of a setting, and each
request served by its tests.
-/

namespace Sys2Proof.Machine

section Settings

variable {s : State} {e : Entry}

/-! ## A code and value word -/

/-- The value a setting takes from its word of a METER_CONFIG or STORE_CONFIG, whose code is known (R177, R197). -/
def setTo (w : Word) (old lo hi : Nat) : Nat :=
  if field w 31 30 = 0 then old else max lo (min (field w 29 0) hi)

theorem settingOf_known {w : Word} {lo hi : Nat} (hw : field w 31 30 ≤ 1) (h : lo ≤ hi) (old : Nat) :
    settingOf w old lo hi = some (setTo w old lo hi) := by
  rcases Nat.le_one_iff_eq_zero_or_eq_one.mp hw with hcode | hcode
  · simp [settingOf, setTo, hcode]
  · simp [settingOf, setTo, hcode, clampNat_eq h]

theorem settingOf_unknown {w : Word} (hw : 1 < field w 31 30) (old lo hi : Nat) : settingOf w old lo hi = none := by
  unfold settingOf
  split
  · omega
  · omega
  · rfl

theorem verifyOf_known {w : Word} (hw : field w 31 30 ≤ 1) (h : field w 31 30 = 1 → field w 29 0 ≤ 1) (old : Bool) :
    verifyOf w old = some (if field w 31 30 = 0 then old else decide (field w 29 0 = 1)) := by
  rcases Nat.le_one_iff_eq_zero_or_eq_one.mp hw with hcode | hcode
  · simp [verifyOf, hcode]
  · rcases Nat.le_one_iff_eq_zero_or_eq_one.mp (h hcode) with hvalue | hvalue <;> simp [verifyOf, hcode, hvalue]

theorem verifyOf_unknown {w : Word} (hw : 1 < field w 31 30 ∨ (field w 31 30 = 1 ∧ 1 < field w 29 0)) (old : Bool) :
    verifyOf w old = none := by
  unfold verifyOf
  split
  · omega
  · omega
  · omega
  · rfl

/-! ## STREAM_SET -/

/-- The next mode a known STREAM_SET code gives (R167, R197). -/
def BusMode.setBy (old : BusMode) (code : Nat) : BusMode :=
  if code = 0 then old else if code = 1 then .disabled else if code = 2 then .m16 else .m20

theorem BusMode.take_known {c : Nat} (h : c ≤ 3) (old : BusMode) : old.take c = some (old.setBy c) := by
  interval_cases c <;> rfl

theorem BusMode.take_unknown {c : Nat} (h : 3 < c) (old : BusMode) : old.take c = none := by
  unfold BusMode.take
  split
  · omega
  · omega
  · omega
  · omega
  · rfl

/-- Known codes give each bus its next mode (R167). -/
theorem nextModes_known (w : Word) (bs : List StreamBus) :
    ∀ n, (∀ b, n ≤ b → b < n + bs.length → field w (4 * b + 3) (4 * b) ≤ 3) →
      nextModes w n bs = some ((bs.zipIdx n).map fun x =>
        { x.1 with next := x.1.next.setBy (field w (4 * x.2 + 3) (4 * x.2)) }) := by
  induction bs with
  | nil => exact fun _ _ => rfl
  | cons b bs ih =>
    intro n h
    rw [List.length_cons] at h
    rw [nextModes, BusMode.take_known (h n le_rfl (by omega)), ih (n + 1) fun i hi hlt => h i (by omega) (by omega)]
    rfl

/-- One unknown code refuses them all (R167). -/
theorem nextModes_unknown (w : Word) (bs : List StreamBus) :
    ∀ n, (∃ b, n ≤ b ∧ b < n + bs.length ∧ 3 < field w (4 * b + 3) (4 * b)) → nextModes w n bs = none := by
  induction bs with
  | nil =>
    rintro n ⟨b, hle, hlt, -⟩
    exact absurd hlt (Nat.not_lt.mpr hle)
  | cons x xs ih =>
    rintro n ⟨b, hle, hlt, hcode⟩
    rw [List.length_cons] at hlt
    rcases Nat.eq_or_lt_of_le hle with rfl | hgt
    · rw [nextModes, BusMode.take_unknown hcode]
    · rw [nextModes, ih (n + 1) ⟨b, hgt, by omega, hcode⟩]
      cases x.next.take (field w (4 * n + 3) (4 * n)) <;> rfl

theorem BusMode.natWord_code_eq (m : BusMode) : natWord m.code = match m with
    | .disabled => 1
    | .m16 => 2
    | .m20 => 3 := by
  cases m <;> rfl

theorem serveStreamSet_refused (hc : e.code = .streamSet) (hlen : s.stream.length = 8)
    (h : e.operands.length < 1 ∨ ∃ b, b < 8 ∧ 3 < field (e.op 0) (4 * b + 3) (4 * b)) :
    serveStreamSet e s = s.refuse e .badOperand := by
  unfold serveStreamSet
  split
  · rfl
  · rename_i hshort
    simp only [Entry.short, Entry.required, hc, decide_eq_true_eq] at hshort
    obtain ⟨b, hb, hcode⟩ := h.resolve_left hshort
    rw [nextModes_unknown _ _ 0 ⟨b, Nat.zero_le b, by omega, hcode⟩]

theorem serveStreamSet_done (hc : e.code = .streamSet) (hlen : s.stream.length = 8) (hwords : 1 ≤ e.operands.length)
    (h : ∀ b, b < 8 → field (e.op 0) (4 * b + 3) (4 * b) ≤ 3) :
    serveStreamSet e s =
      let bs := s.stream.zipIdx.map fun x =>
        { x.1 with next := x.1.next.setBy (field (e.op 0) (4 * x.2 + 3) (4 * x.2)) }
      State.done { s with stream := bs } e (bs.map fun b => natWord b.next.code) := by
  have hshort : ¬ e.short = true := by
    simp only [Entry.short, Entry.required, hc, decide_eq_true_eq]
    omega
  rw [serveStreamSet, if_neg hshort, nextModes_known (e.op 0) s.stream 0 fun b _ hb => h b (by omega)]

/-! ## METER_CONFIG -/

theorem serveMeterConfig_refused (hc : e.code = .meterConfig)
    (h : e.operands.length < 3 ∨ ∃ i, i < 3 ∧ 1 < field (e.op i) 31 30) :
    serveMeterConfig e s = s.refuse e .badOperand := by
  unfold serveMeterConfig
  dsimp only
  split
  · rfl
  · rename_i hshort
    simp only [Entry.short, Entry.required, hc, decide_eq_true_eq] at hshort
    obtain ⟨i, hi, hcode⟩ := h.resolve_left hshort
    split
    · rename_i h0 h1 h2
      interval_cases i
      · cases (settingOf_unknown hcode _ _ _).symm.trans h0
      · cases (settingOf_unknown hcode _ _ _).symm.trans h1
      · cases (settingOf_unknown hcode _ _ _).symm.trans h2
    · rfl

theorem serveMeterConfig_done (hc : e.code = .meterConfig) (hwords : 3 ≤ e.operands.length)
    (h : ∀ i, i < 3 → field (e.op i) 31 30 ≤ 1) :
    serveMeterConfig e s =
      let level := setTo (e.op 0) s.meter.overLevel 1 8388608
      let threshold := setTo (e.op 1) s.meter.silenceThreshold 0 8388607
      let windows := setTo (e.op 2) s.meter.silenceWindows 1 255
      State.done { s with meter := { s.meter with
        overLevel := level, silenceThreshold := threshold, silenceWindows := windows } } e
        [natWord level, natWord threshold, natWord windows] := by
  have hshort : ¬ e.short = true := by
    simp only [Entry.short, Entry.required, hc, decide_eq_true_eq]
    omega
  rw [serveMeterConfig, if_neg hshort, settingOf_known (h 0 (by decide)) (by decide),
    settingOf_known (h 1 (by decide)) (by decide), settingOf_known (h 2 (by decide)) (by decide)]

/-! ## STORE_CONFIG -/

/-- What refuses the settings of a STORE_CONFIG (R125). -/
def Entry.badSettings (e : Entry) : Prop :=
  e.operands.length < 4 ∨ (∃ i, i < 4 ∧ 1 < field (e.op i) 31 30)
    ∨ (field (e.op 0) 31 30 = 1 ∧ 1 < field (e.op 0) 29 0)

theorem StoreController.configured_unknown (c : StoreController)
    (h : (∃ i, i < 4 ∧ 1 < field (e.op i) 31 30) ∨ (field (e.op 0) 31 30 = 1 ∧ 1 < field (e.op 0) 29 0)) :
    c.configured e = none := by
  unfold StoreController.configured
  split
  · rename_i hverify hbacklog hhold hlow
    rcases h with ⟨i, hi, hcode⟩ | hvalue
    · interval_cases i
      · cases (verifyOf_unknown (.inl hcode) _).symm.trans hverify
      · cases (settingOf_unknown hcode _ _ _).symm.trans hbacklog
      · cases (settingOf_unknown hcode _ _ _).symm.trans hhold
      · cases (settingOf_unknown hcode _ _ _).symm.trans hlow
    · cases (verifyOf_unknown (.inr hvalue) _).symm.trans hverify
  · rfl

theorem serveStoreConfig_mounting (h : s.store.state = .mounting) : serveStoreConfig e s = s.refuse e .wrongState :=
  if_pos h

theorem serveStoreConfig_refused (hc : e.code = .storeConfig) (hstate : s.store.state ≠ .mounting)
    (h : e.badSettings) : serveStoreConfig e s = s.refuse e .badOperand := by
  have hnone : (if e.short then none else s.store.configured e) = none := by
    split
    · rfl
    · rename_i hshort
      simp only [Entry.short, Entry.required, hc, decide_eq_true_eq] at hshort
      exact StoreController.configured_unknown _ (h.resolve_left hshort)
  rw [serveStoreConfig, if_neg hstate, hnone]

theorem serveStoreConfig_done (hc : e.code = .storeConfig) (hstate : s.store.state ≠ .mounting)
    (h : ¬ e.badSettings) :
    serveStoreConfig e s =
      let verify := if field (e.op 0) 31 30 = 0 then s.store.verify else decide (field (e.op 0) 29 0 = 1)
      let backlog := setTo (e.op 1) s.store.backlog 1024 16384
      let hold := setTo (e.op 2) s.store.holdTime 1 65535
      let low := setTo (e.op 3) s.store.lowMark 0 131072
      State.done { s with store := { s.store with
        verify := verify, backlog := backlog, holdTime := hold, lowMark := low } } e
        [boolWord verify, natWord backlog, natWord hold, natWord low] := by
  obtain ⟨hwords, hcodes⟩ := not_or.mp h
  obtain ⟨hknown, hvalue⟩ := not_or.mp hcodes
  have hcode : ∀ i, i < 4 → field (e.op i) 31 30 ≤ 1 := fun i hi => Nat.not_lt.mp fun hlt => hknown ⟨i, hi, hlt⟩
  have hshort : ¬ e.short = true := by
    simp only [Entry.short, Entry.required, hc, decide_eq_true_eq]
    exact hwords
  rw [serveStoreConfig, if_neg hstate, if_neg hshort, StoreController.configured,
    verifyOf_known (hcode 0 (by decide)) fun h1 => Nat.not_lt.mp fun hlt => hvalue ⟨h1, hlt⟩,
    settingOf_known (hcode 1 (by decide)) (by decide), settingOf_known (hcode 2 (by decide)) (by decide),
    settingOf_known (hcode 3 (by decide)) (by decide)]
  rfl

end Settings

/-- Settles O44: each request by its tests, the marking of the served request being of no effect on the settings. -/
theorem settingsRequestsTakeHold : Obligations.SettingsRequestsTakeHold := by
  intro s e
  refine ⟨?_, ?_⟩
  · intro h hlen code mode stream
    refine ⟨fun hbad => h.completes_refused _ (serveStreamSet_refused h.2.1 hlen hbad), fun hwords hcodes => ?_⟩
    have hcode : (fun b : StreamBus => natWord b.next.code) = fun b => match b.next with
        | .disabled => 1
        | .m16 => 2
        | .m20 => 3 := funext fun b => b.next.natWord_code_eq
    have hserve := serveStreamSet_done (s := s.activate e.arrival) h.2.1 hlen hwords hcodes
    rw [hcode] at hserve
    exact h.completes_done (u := { s with stream := stream }) hserve rfl rfl
  intro code value set
  refine ⟨?_, ?_⟩
  · intro h level threshold windows
    exact ⟨fun hbad => h.completes_refused _ (serveMeterConfig_refused h.2.1 hbad),
      fun hwords hcodes => h.completes_done (serveMeterConfig_done h.2.1 hwords hcodes) rfl rfl⟩
  · intro h verify backlog hold low bad
    exact ⟨fun hstate => h.completes_refused _ (serveStoreConfig_mounting hstate),
      fun hstate hbad => h.completes_refused _ (serveStoreConfig_refused h.2.1 hstate hbad),
      fun hstate hgood => h.completes_done (serveStoreConfig_done h.2.1 hstate hgood) rfl rfl⟩

end Sys2Proof.Machine
end

section
/-!
STORE_FORMAT at its service (R123, R124): its refusals in order, and the state its acceptance leaves.
-/

namespace Sys2Proof.Machine

section Format

variable {s : State} {e : Entry}

/-! ## The refusals -/

/-- The first test of STORE_FORMAT (R123). -/
def State.FormatReady (s : State) : Prop :=
  (s.store.state = .mounted ∨ s.store.state = .unformatted) ∧ s.store.module 0 = .answering

theorem State.formatReady_iff : s.FormatReady ↔
    ¬ ((s.store.state ≠ .mounted && s.store.state ≠ .unformatted) || s.store.module 0 ≠ .answering) = true := by
  simp only [State.FormatReady, ne_eq, decide_not, Bool.or_eq_true, Bool.and_eq_true, Bool.not_eq_true',
    decide_eq_false_iff_not]
  tauto

theorem serveStoreFormat_unready (h : ¬ s.FormatReady) : serveStoreFormat e s = s.refuse e .wrongState :=
  if_pos (not_not.mp fun hn => h (State.formatReady_iff.mpr hn))

theorem serveStoreFormat_ready (h : s.FormatReady) :
    serveStoreFormat e s = if ∃ k ∈ s.takes.records, k.isProtected = true then s.refuse e .isProtected
      else if s.liveTake ≠ none ∨ s.readout.state ≠ .idle then s.refuse e .wrongState else s.acceptFormat e := by
  have hbusy : (s.liveTake.isSome || s.readout.busy) = true ↔ s.liveTake ≠ none ∨ s.readout.state ≠ .idle := by
    simp [ReadoutEngine.busy, Option.isSome_iff_ne_none]
  rw [serveStoreFormat, if_neg (State.formatReady_iff.mp h)]
  simp only [List.any_eq_true, hbusy]

/-! ## The acceptance -/

/-- The extent table once the erase of an extent is submitted by a format: a FREE extent is DIRTY (R124). -/
def StoreController.formatTable (c : StoreController) (a : Nat) : List (Nat × Extent) :=
  match c.extent a with
  | some x => if x.state = .free then setExtent c.table a ⟨.dirty, none⟩ else c.table
  | none => c.table

theorem State.formatSubmit_table (y : State) (a : Nat) :
    y.formatSubmit a = State.submit { y with store := { y.store with table := y.store.formatTable a } }
      (.formatErase a) := by
  cases hx : y.store.extent a with
  | none => simp only [State.formatSubmit, StoreController.formatTable, hx]
  | some x =>
    by_cases hfree : x.state = .free
    · simp only [State.formatSubmit, StoreController.formatTable, hx, hfree, if_true]
      rfl
    · simp only [State.formatSubmit, StoreController.formatTable, hx, hfree, if_false]

/-- The state of an accepted STORE_FORMAT before its first erase is submitted (R123, R124). -/
def State.formatBegun (s : State) (e : Entry) : State :=
  { s with
    store := { s.store with state := .unformatted, format := some ⟨false, false⟩ }
    requests := { s.requests with storeOp := some ⟨.format, e.arrival⟩ } }

/-- With module 0 answering the first extent to erase is the lowest one (R124). -/
theorem State.acceptFormat_eq (h : s.store.module 0 = .answering) :
    s.acceptFormat e = ((s.formatBegun e).formatSubmit 0).settlePort := by
  have hans : (s.formatBegun e).store.answers 0 = true := decide_eq_true h
  exact congrArg State.settlePort (State.formatFrom_answering ⟨false, false⟩ (m := 4) (by decide) hans)

end Format

/-- Settles O52: the refusals are the tests of the service in their order; an accepted format has begun, and its first
erase has been submitted to the port. -/
theorem storeFormatIsAccepted : Obligations.StoreFormatIsAccepted := by
  intro s e h refused ready held busy
  refine ⟨fun hready => h.completes_refused _ (serveStoreFormat_unready hready), fun hready hheld => ?_,
    fun hready hheld hbusy => ?_, fun hready hheld hbusy => ?_⟩
  all_goals have hserve := serveStoreFormat_ready (s := s.activate e.arrival) (e := e) hready
  · exact h.completes_refused _ (hserve.trans (if_pos hheld))
  · exact h.completes_refused _ (hserve.trans ((if_neg hheld).trans (if_pos hbusy)))
  · replace hserve := hserve.trans ((if_neg hheld).trans (if_neg hbusy))
    rw [State.acceptFormat_eq (s := s.activate e.arrival) hready.2, State.formatSubmit_table] at hserve
    obtain ⟨hport, hat⟩ := State.submit_settled { (s.activate e.arrival).formatBegun e with store := _ }
      (.formatErase 0)
    refine ⟨_, (exec_serve serveStoreFormat h).trans (congrArg _ hserve), ?_⟩
    generalize State.settlePort _ = t at hport hat
    obtain ⟨_, _, rfl⟩ := hport
    exact ⟨rfl, rfl, rfl, hat⟩

end Sys2Proof.Machine
end

section
/-!
The module contents and the operation that may change them (R103, R108, R119): what rows, boundaries and the Readout
Engine do leaves the contents as they are, and brings no writing operation to the end of its time limit.
-/

namespace Sys2Proof.Machine

/-- The module contents of `t` are those of `s`, and an operation in flight in `t` that writes and whose time limit has
come is so in flight in `s`. -/
structure ContentsStay (s t : State) : Prop where
  flash : t.flash = s.flash
  flight : ∀ j ∈ t.store.inFlight, Config.timeLimit ≤ j.rows → (∃ k, j.op.writes k) → j ∈ s.store.inFlight

namespace ContentsStay

variable {s t u : State}

theorem refl (s : State) : ContentsStay s s := ⟨rfl, fun _ h _ _ => h⟩

theorem trans (h : ContentsStay s t) (k : ContentsStay t u) : ContentsStay s u :=
  ⟨k.flash.trans h.flash, fun j hj hrows hwrites => h.flight j (k.flight j hj hrows hwrites) hrows hwrites⟩

theorem of_eq (hf : t.flash = s.flash) (hi : t.store.inFlight = s.store.inFlight) : ContentsStay s t :=
  ⟨hf, fun _ hj _ _ => hi ▸ hj⟩

/-- What stays after a change of neither the contents nor the operation in flight. -/
theorem after (k : ContentsStay t u) (hf : t.flash = s.flash) (hi : t.store.inFlight = s.store.inFlight) :
    ContentsStay s u := (of_eq hf hi).trans k

theorem of_side (h : StoreSide s t) (hi : t.store.inFlight = s.store.inFlight) : ContentsStay s t :=
  of_eq h.flash hi

end ContentsStay

/-! ## The port -/

theorem PortOp.unwant_of_writes {op : PortOp} {k : Nat} (h : op.unwant.writes k) : op.unwant = op := by
  cases op <;> first | rfl | exact absurd h id

variable (s : State)

/-- A granted operation is at the start of its time limit (R118, R119). -/
theorem State.grant_contentsStay : ContentsStay s s.grant := by
  unfold State.grant
  split
  · refine ⟨rfl, fun j hj hrows => absurd hrows ?_⟩
    obtain rfl := Option.mem_some_iff.mp hj
    exact (by decide : ¬ Config.timeLimit ≤ 0)
  · exact .refl s

theorem State.settlePort_contentsStay : ContentsStay s s.settlePort :=
  (ContentsStay.of_side s.eraser_side s.eraser_store.1).trans s.eraser.grant_contentsStay

/-! ## The Readout Engine -/

theorem State.complete_contentsStay (a : Nat) (st : Status) (ws : List Word) : ContentsStay s (s.complete a st ws) :=
  .of_side (s.complete_side a st ws) (by rw [State.complete_store])

/-- The want of a fetch is no matter of an operation that writes (R139 step 3). -/
theorem State.readoutEnd_contentsStay (st : Status) : ContentsStay s (s.readoutEnd st) := by
  rw [State.readoutEnd_eq]
  refine .trans (t := s.readoutGone st) ⟨rfl, fun j hj hrows ⟨k, hk⟩ => ?_⟩ (State.complete_contentsStay ..)
  obtain ⟨i, hi, rfl⟩ := Option.map_eq_some_iff.mp hj
  have hop : i.op.unwant = i.op := PortOp.unwant_of_writes hk
  rw [hop]
  exact hi

theorem State.readoutFetch_contentsStay : ContentsStay s s.readoutFetch := by
  unfold State.readoutFetch
  split
  · split
    · exact .of_eq rfl rfl
    · exact s.readoutEnd_contentsStay _
  · exact s.readoutEnd_contentsStay _

theorem State.backlogTest_contentsStay : ContentsStay s s.backlogTest := by
  unfold State.backlogTest
  split
  · exact s.readoutFetch_contentsStay
  · exact .of_eq rfl rfl

theorem State.departure_contentsStay : ContentsStay s s.departure := by
  unfold State.departure
  split
  · exact .refl s
  · dsimp only
    split
    · exact .after (State.readoutEnd_contentsStay _ _) rfl rfl
    · exact .of_eq rfl rfl

theorem State.readoutAccept_contentsStay (b : BuiltFrame) : ContentsStay s (s.readoutAccept b) := by
  have hegress : ContentsStay s (s.readoutJoin b).egress := by
    unfold State.egress
    dsimp only
    split
    · exact .after (State.departure_contentsStay _) rfl rfl
    · exact .of_eq rfl rfl
  unfold State.readoutAccept
  dsimp only
  split
  · refine hegress.trans ?_
    unfold State.pageStep
    dsimp only
    split
    · exact State.backlogTest_contentsStay _
    · exact .of_eq rfl rfl
  · exact hegress

theorem State.readoutBuild_contentsStay : ContentsStay s s.readoutBuild := by
  unfold State.readoutBuild
  split <;> exact .of_eq rfl rfl

theorem State.readoutAdvance_contentsStay (n : Nat) : ∀ s : State, ContentsStay s (s.readoutAdvance n) := by
  induction n with
  | zero => exact .refl
  | succ n ih =>
    intro s
    by_cases hbuilds : s.readout.state = .sending ∨ s.readout.state = .final
    · have hbuild := s.readoutBuild_contentsStay
      cases hheld : s.readoutBuild.readout.held with
      | none => rcases hbuilds with h | h <;> simpa [State.readoutAdvance, h, hheld] using hbuild
      | some b =>
        rw [State.readoutAdvance_round hbuilds hheld]
        split
        · exact hbuild.trans ((State.readoutAccept_contentsStay _ b).trans (ih _))
        · exact hbuild
    · obtain ⟨hs, hf⟩ := not_or.mp hbuilds
      rw [State.readoutAdvance_rest hs hf]
      exact .refl s

theorem State.readoutClosedNotice_contentsStay (n : Nat) : ContentsStay s (s.readoutClosedNotice n) := by
  unfold State.readoutClosedNotice
  split
  · split
    · exact s.backlogTest_contentsStay
    · exact .after (State.readoutAdvance_contentsStay _ _) rfl rfl
  · exact .refl s

/-! ## The takes -/

/-- Asking for a catalog write submits at most; its failure at once is told without the port (R97, R98). -/
theorem State.askCatalog_inFlight (w : Waiter) : (s.askCatalog w).store.inFlight = s.store.inFlight := by
  rcases s.catalog_cases with hready | hbusy | hstopped
  · rw [State.askCatalog_starts s w hready]
    split <;> rfl
  · rw [State.askCatalog_joins s w hbusy]
    rfl
  · rw [State.askCatalog_stopped s w hstopped]
    cases w with
    | storeOperation =>
      obtain ⟨_, _, _, _, _, _, _, _, hwritten⟩ := s.storeOpWritten_outcomeSide false
      show (s.storeOpWritten false).store.inFlight = _
      rw [hwritten]
    | exhaustionClose => rfl
    | mount => rfl

theorem State.askCatalog_contentsStay (w : Waiter) : ContentsStay s (s.askCatalog w) :=
  .of_side (s.askCatalog_side w) (s.askCatalog_inFlight w)

theorem State.pump_contentsStay : ContentsStay s s.pump := by
  have hrounds : ContentsStay s s.twoRounds := by
    obtain ⟨_, _, _, _, _, _, _, h⟩ := s.twoRounds_roundSide.side
    rw [h]
    exact .of_eq rfl rfl
  have hdiscard : ∀ (x : State) n ws, ContentsStay x (x.discarded n ws) := fun x n ws => by
    obtain ⟨_, _, _, _, _, h⟩ := x.discarded_frame n ws
    rw [h]
    exact .of_eq rfl rfl
  refine hrounds.trans ?_
  show ContentsStay s.twoRounds s.twoRounds.drain
  rcases s.twoRounds.drain_cases with hdrain | ⟨n, ws, hdrain | hdrain⟩ <;> rw [hdrain]
  · exact .refl _
  · exact hdiscard _ n ws
  · rw [State.drainComplete_eq]
    exact (hdiscard _ n ws).trans (.after ((State.readoutClosedNotice_contentsStay _ n).trans
      (State.askCatalog_contentsStay _ _)) rfl rfl)

theorem State.completeStoreOp_contentsStay (st : Status) (ws : List Word) :
    ContentsStay s (s.completeStoreOp st ws) := by
  rw [State.completeStoreOp_eq]
  exact .of_eq rfl rfl

theorem State.closeTake_contentsStay (n i : Nat) : ContentsStay s (s.closeTake n i) :=
  .after (State.pump_contentsStay _) rfl rfl

theorem State.exhaust_contentsStay (n i : Nat) (armed : Option Transition) :
    ContentsStay s (s.exhaust n i armed) := by
  unfold State.exhaust
  refine .trans ?_ (State.closeTake_contentsStay _ _ _)
  split
  · exact s.completeStoreOp_contentsStay _ _
  · exact s.completeStoreOp_contentsStay _ _
  · exact .refl s
  · exact .refl s

theorem State.takeHold_contentsStay (k : TakeRecord) (i : Nat) (armed : Option Transition) :
    ContentsStay s (s.takeHold k i armed) := by
  unfold State.takeHold
  split
  · exact .after (State.askCatalog_contentsStay _ _) rfl rfl
  · exact .after (State.askCatalog_contentsStay _ _) rfl rfl
  · exact s.closeTake_contentsStay _ _
  · exact .refl s

/-! ## Boundaries and what else a row has brought due -/

theorem State.codeTracks_contentsStay (take i : Nat) (ns : List Nat) :
    ∀ s : State, ContentsStay s (s.codeTracks take i ns) := by
  have hoffer : ∀ (x : State) n ws, ContentsStay x (x.offerPacket take n ws) := fun x n ws => by
    unfold State.offerPacket
    split
    · exact .after (State.pump_contentsStay _) rfl rfl
    · exact .of_eq rfl rfl
  induction ns with
  | nil => exact .refl
  | cons n ns ih => exact fun s => (hoffer s n _).trans (ih _)

theorem State.endBlock_contentsStay (k : TakeRecord) (i : Nat) : ContentsStay s (s.endBlock k i) := by
  have hcoded : ContentsStay s (s.codeEnded k i).disarm := by
    refine .trans (t := s.codeEnded k i) ?_ (.of_eq rfl rfl)
    unfold State.codeEnded
    split
    · exact State.codeTracks_contentsStay _ _ _ s
    · exact .refl s
  unfold State.endBlock
  dsimp only
  split
  · exact hcoded.trans (State.exhaust_contentsStay _ _ _ _)
  · exact hcoded.trans (.after (State.takeHold_contentsStay _ _ _ _) rfl rfl)

theorem State.takeWork_contentsStay : ContentsStay s s.takeWork := by
  unfold State.takeWork
  split
  · exact s.endBlock_contentsStay _ _
  · split
    · rw [State.beginTake_eq]
      exact .of_eq rfl rfl
    · exact .refl s
  · exact .refl s

theorem State.archiveBoundary_contentsStay : ContentsStay s s.archiveBoundary := by
  have hwork : ContentsStay s s.boundaryGiven.mixWork.takeWork := .after (State.takeWork_contentsStay _) rfl rfl
  exact hwork.trans (.after (State.settlePort_contentsStay _) rfl rfl)

theorem State.takeBoundary_contentsStay : ContentsStay s s.takeBoundary := by
  unfold State.takeBoundary
  split
  · exact .of_eq rfl rfl
  split
  · exact s.archiveBoundary_contentsStay
  · exact .refl s

theorem State.takeWindowEnd_contentsStay : ContentsStay s s.takeWindowEnd := by
  unfold State.takeWindowEnd
  split
  · exact .of_eq rfl rfl
  · exact .refl s

theorem State.takeHoldExpiry_contentsStay : ContentsStay s s.takeHoldExpiry := by
  unfold State.takeHoldExpiry
  split
  · exact s.backlogTest_contentsStay.trans (State.settlePort_contentsStay _)
  · exact .refl s

end Sys2Proof.Machine
end

section
/-!
Every command leaves the module contents as they are, but for what the end of the operation in flight leaves there
(R103, R108, R119): from this the canonical form and the frame of every page follow.
-/

namespace Sys2Proof.Machine

/-! ## What the end of an operation leaves of a page -/

theorem State.operationDone_read_other (s : State) (op : PortOp) (k : Nat) (h : ¬ op.writes k) :
    (s.operationDone op).flash.read k = s.flash.read k := by
  have hextent : ∀ e, ¬ k / Config.extentPages = e → (s.flash.eraseExtent e).read k = s.flash.read k := fun e he =>
    (FlashMemory.read_eraseExtent s.flash e k).trans (if_neg he)
  cases op with
  | catalogProgram a p => exact FlashMemory.read_write_other _ _ _ _ h
  | archiveProgram a p => exact FlashMemory.read_write_other _ _ _ _ h
  | catalogErase e => exact hextent e h
  | eraserErase e => exact hextent e h
  | formatErase e => exact hextent e h
  | archiveBadMark e => exact FlashMemory.read_write_other _ _ _ _ h
  | eraserBadMark e => exact FlashMemory.read_write_other _ _ _ _ h
  | catalogVerify a p => rfl
  | archiveVerify a p => rfl
  | mountFetch a => rfl
  | mountSpare e => rfl
  | recoveryFetch a => rfl
  | readoutFetch a w => rfl

theorem State.operationEnds_read_other (s : State) (op : PortOp) (ok : Bool) (k : Nat) (h : ¬ op.writes k) :
    (s.operationEnds op ok).flash.read k = s.flash.read k := by
  cases ok
  · exact s.operationCut_read_other op k h
  · exact s.operationDone_read_other op k h

/-- An operation that only reads leaves nothing behind when it is cut. -/
theorem State.operationCut_of_reads (s : State) (op : PortOp) (h : ¬ ∃ k, op.writes k) : s.operationCut op = s := by
  have hextent : ∀ e, ∃ k, k / Config.extentPages = e := fun e =>
    ⟨e * Config.extentPages, Nat.mul_div_cancel e (by decide)⟩
  cases op with
  | catalogProgram a p => exact absurd ⟨_, rfl⟩ h
  | archiveProgram a p => exact absurd ⟨_, rfl⟩ h
  | catalogErase e => exact absurd (hextent e) h
  | eraserErase e => exact absurd (hextent e) h
  | formatErase e => exact absurd (hextent e) h
  | archiveBadMark e => exact absurd ⟨_, rfl⟩ h
  | eraserBadMark e => exact absurd ⟨_, rfl⟩ h
  | catalogVerify a p => rfl
  | archiveVerify a p => rfl
  | mountFetch a => rfl
  | mountSpare e => rfl
  | recoveryFetch a => rfl
  | readoutFetch a w => rfl

/-! ## What a command leaves of the contents -/

/-- The module contents of `t` are those of `s`, or what the end of the operation in flight in `s` leaves of them. -/
def ContentsAfter (s t : State) : Prop :=
  t.flash = s.flash ∨ ∃ j ∈ s.store.inFlight, ∃ (u : State) (ok : Bool), u.flash = s.flash
    ∧ t.flash = (u.operationEnds j.op ok).flash

namespace ContentsAfter

variable {s t u : State} {op : PortOp} {n : Nat}

theorem wf (h : ContentsAfter s t) (hs : s.flash.Wf) : t.flash.Wf := by
  rcases h with h | ⟨j, -, u, ok, hu, h⟩
  · rwa [h]
  · rw [h]
    exact u.operationEnds_flash_wf j.op ok (hu ▸ hs)

theorem read_other (h : ContentsAfter s t) {k : Nat} (hk : ∀ j ∈ s.store.inFlight, ¬ j.op.writes k) :
    t.flash.read k = s.flash.read k := by
  rcases h with h | ⟨j, hj, u, ok, hu, h⟩
  · rw [h]
  · rw [h, u.operationEnds_read_other j.op ok k (hk j hj), hu]

theorem side (h : StoreSide s t) : ContentsAfter s t := .inl h.flash

/-- What follows a command's change of the contents without touching them. -/
theorem andThen (h : ContentsAfter s t) (k : StoreSide t u) : ContentsAfter s u := by
  unfold ContentsAfter
  rwa [k.flash]

/-- The operation in flight ends, and what follows does not touch the contents. -/
theorem ended (hj : s.store.inFlight = some ⟨op, n⟩) (ok g : Bool)
    (h : StoreSide ((s.operationEnds op ok).freePort g) t) : ContentsAfter s t :=
  .inr ⟨_, hj, s, ok, rfl, h.flash.trans (State.freePort_side _ g).flash⟩

end ContentsAfter

/-- A command's outcome changes the module contents only by the end of the operation in flight. -/
abbrev KeepsContents (o : Host.Outcome State Fault Refusal) (s : State) : Prop := Completes o (ContentsAfter s)

theorem keepsContents_refl {s : State} : KeepsContents (.next s) s := ⟨s, rfl, .inl rfl⟩

/-- A command that is an event where `b` holds, and nothing elsewhere. -/
theorem keepsContents_ite {s u : State} (b : Bool) (h : ContentsAfter s u) :
    KeepsContents (.next (if b then u else s)) s := by
  refine ⟨_, rfl, ?_⟩
  split
  · exact h
  · exact .inl rfl

/-- A command that only changes the Link Unit, or nothing. -/
theorem keepsContents_setLink {s : State} {l : LinkUnit} (b : Bool) :
    KeepsContents (.next (if b then s.setLink l else s)) s := keepsContents_ite b (.inl rfl)

/-! ## The time limit and the row -/

theorem State.expired_eq {s : State} {op : PortOp} (h : s.expired = some op) :
    ∃ j ∈ s.store.inFlight, Config.timeLimit ≤ j.rows ∧ j.op = op := by
  unfold State.expired at h
  split at h
  · rename_i j hj
    split at h
    · exact ⟨j, hj, ‹_›, Option.some.inj h⟩
    · cases h
  · cases h

/-- What an expiry does after the cut of its operation does not touch the contents (R119). -/
theorem State.expire_flash (s : State) (op : PortOp) (g : Bool) :
    (s.expire op g).flash = (s.operationCut op).flash :=
  ((State.moduleFault_side _ _).trans ((State.freePort_side _ g).trans ((State.operationLost_side true _ op).trans
    (StoreSide.foldl _ (State.operationLost_side false) _ _)))).flash

/-- An expiry that comes when the contents have stayed: it cuts the operation in flight, or one that only reads. -/
theorem ContentsStay.takeExpiry {s u : State} (h : ContentsStay s u) : ContentsAfter s u.takeExpiry := by
  unfold State.takeExpiry
  split
  · rename_i op hop
    obtain ⟨j, hj, hrows, rfl⟩ := State.expired_eq hop
    refine .andThen ?_ (State.settlePort_side _)
    have hcut := State.expire_flash { u with freeCount := u.freeCount + 1 } j.op (Config.freeChoice u.freeCount)
    by_cases hwrites : ∃ k, j.op.writes k
    · exact .inr ⟨j, h.flight j hj hrows hwrites, { u with freeCount := u.freeCount + 1 }, false, h.flash, hcut⟩
    · rw [State.operationCut_of_reads _ _ hwrites] at hcut
      exact .inl (hcut.trans h.flash)
  · exact .inl h.flash

theorem State.row_contents (s : State) : ContentsAfter s s.row := by
  have hdue : ContentsStay s s.takeWindowEnd.takeBoundary.takeHoldExpiry :=
    s.takeWindowEnd_contentsStay.trans ((State.takeBoundary_contentsStay _).trans
      (State.takeHoldExpiry_contentsStay _))
  have hrow : ContentsAfter s s.takeDue.rowTimers.rowSamples := hdue.takeExpiry
  exact hrow.andThen ((State.mountStart_side _).trans (State.settlePort_side _))

/-! ## Words, frames and links -/

section Links

variable (s : State)

theorem State.requestArrives_flash (o : Origin) (b : Bool) (body : List Word) :
    (s.requestArrives o b body).flash = s.flash := by
  unfold State.requestArrives
  dsimp only
  repeat' split
  all_goals rfl

theorem State.stageFrame_flash (w : Word) (body : List Word) : (s.stageFrame w body).flash = s.flash := by
  unfold State.stageFrame
  split
  · rfl
  split
  · split
    · exact s.requestArrives_flash _ _ _
    split
    · exact s.requestArrives_flash _ _ _
    · rfl
  · rfl

theorem execStageFrameComplete_contents (w : Word) : KeepsContents (execStageFrameComplete w s) s := by
  unfold execStageFrameComplete
  split
  · dsimp only
    split
    · refine ⟨_, rfl, .inl ((State.stageFrame_flash _ _ _).trans ?_)⟩
      split <;> rfl
    · exact ⟨_, rfl, .inl rfl⟩
  · exact keepsContents_refl

theorem execThroughReturnFrameComplete_contents (w : Word) :
    KeepsContents (execThroughReturnFrameComplete w s) s := by
  unfold execThroughReturnFrameComplete
  dsimp only
  repeat' split
  all_goals exact ⟨_, rfl, .inl rfl⟩

theorem execProgramReturnFrameComplete_contents (w : Word) :
    KeepsContents (execProgramReturnFrameComplete w s) s := by
  unfold execProgramReturnFrameComplete
  dsimp only
  split
  · split
    · split
      · split
        · exact ⟨_, rfl, .inl (State.requestArrives_flash _ _ _ _)⟩
        split
        · exact ⟨_, rfl, .inl (State.requestArrives_flash _ _ _ _)⟩
        · exact ⟨_, rfl, .inl rfl⟩
      · exact ⟨_, rfl, .inl rfl⟩
    · exact ⟨_, rfl, .inl rfl⟩
  · exact keepsContents_refl

theorem execFrameHeaderTaken_contents (d : Rx) (w : Word) : KeepsContents (execFrameHeaderTaken d w s) s := by
  unfold execFrameHeaderTaken
  split
  · exact keepsContents_setLink _
  · exact keepsContents_refl

theorem execStrayWord_contents (d : Rx) (w : Word) : KeepsContents (execStrayWord d w s) s := by
  unfold execStrayWord
  split
  · exact keepsContents_setLink _
  · exact keepsContents_refl

theorem execFramingError_contents (d : Rx) (w : Word) : KeepsContents (execFramingError d w s) s := by
  unfold execFramingError
  split
  · exact keepsContents_setLink _
  · exact keepsContents_refl

theorem execBodyWordTaken_contents (d : Rx) (w : Word) : KeepsContents (execBodyWordTaken d w s) s := by
  unfold execBodyWordTaken
  split <;> exact ⟨_, rfl, .inl rfl⟩

theorem execThroughFrameEnd_contents : KeepsContents (execThroughFrameEnd s) s := by
  unfold execThroughFrameEnd
  split <;> exact ⟨_, rfl, .inl rfl⟩

theorem execStageReturnFrameEnd_contents : KeepsContents (execStageReturnFrameEnd s) s := by
  unfold execStageReturnFrameEnd
  split <;> exact ⟨_, rfl, .inl rfl⟩

theorem execProgramForwardFrameEnd_contents : KeepsContents (execProgramForwardFrameEnd s) s := by
  unfold execProgramForwardFrameEnd
  split
  · exact ⟨_, rfl, .inl ((State.programFree_side _).trans (State.settlePort_side _)).flash⟩
  · exact keepsContents_refl

theorem execStageLinkDown_contents : KeepsContents (execStageLinkDown s) s := by
  by_cases hup : s.link.stageUp = true
  · refine ⟨_, execStageLinkDown_up hup, ?_⟩
    split
    · exact .inl (State.readoutAbort_side _).flash
    · exact .inl rfl
  · exact ⟨s, by simp [execStageLinkDown, hup], .inl rfl⟩

theorem execProgramLinkDown_contents : KeepsContents (execProgramLinkDown s) s := by
  by_cases hup : s.link.programUp = true
  · exact ⟨_, execProgramLinkDown_up hup, .inl (State.readoutAbort_side _).flash⟩
  · exact ⟨s, by simp [execProgramLinkDown, hup], .inl rfl⟩

end Links

/-! ## Ends of module operations -/

section Ends

variable (ok g : Bool) (answer : Answer) (s : State)

theorem execArchiveProgramEnd_contents : KeepsContents (execArchiveProgramEnd ok g s) s := by
  unfold execArchiveProgramEnd
  split
  · rename_i a p _ hj
    refine ⟨_, rfl, .andThen (.ended hj ok g ((State.raiseWritePage_side _ a.extent).trans ?_)) (State.settlePort_side _)⟩
    split
    · exact (State.countProgramFailure_side _).trans (State.pageFailed_side _ _ _)
    split
    · exact (State.pageMoves_side _ _ _ _).trans (State.submit_side _ _)
    · exact State.pageVerified_side _ _
  · exact keepsContents_refl

theorem execVerifyFetchEnd_contents : KeepsContents (execVerifyFetchEnd answer g s) s := by
  unfold execVerifyFetchEnd
  split
  · refine ⟨_, rfl, .side ((s.freePort_side g).trans (.trans ?_ (State.settlePort_side _)))⟩
    split
    · exact State.pageVerified_side _ _
    · exact (State.countMismatch_side _).trans (State.pageFailed_side _ _ _)
  · exact keepsContents_refl

theorem execBadMarkWriteEnd_contents : KeepsContents (execBadMarkWriteEnd ok g s) s := by
  unfold execBadMarkWriteEnd
  split
  · exact ⟨_, rfl, .ended ‹_› ok g (State.settlePort_side _)⟩
  · exact ⟨_, rfl, .ended ‹_› ok g (State.settlePort_side _)⟩
  · exact keepsContents_refl

theorem execCatalogProgramEnd_contents : KeepsContents (execCatalogProgramEnd ok g s) s := by
  unfold execCatalogProgramEnd
  split
  · refine ⟨_, rfl, .andThen (.ended ‹_› ok g ?_) (State.settlePort_side _)⟩
    split
    · exact (State.countProgramFailure_side _).trans (State.attemptFailed_side _)
    split
    · exact State.submit_side _ _
    · exact State.writeEnd_side _ _
  · exact keepsContents_refl

theorem execCatalogVerifyEnd_contents : KeepsContents (execCatalogVerifyEnd answer g s) s := by
  unfold execCatalogVerifyEnd
  split
  · refine ⟨_, rfl, .side ((s.freePort_side g).trans (.trans ?_ (State.settlePort_side _)))⟩
    split
    · exact State.writeEnd_side _ _
    · exact (State.countMismatch_side _).trans (State.attemptFailed_side _)
  · exact keepsContents_refl

theorem execCatalogEraseEnd_contents : KeepsContents (execCatalogEraseEnd ok g s) s := by
  unfold execCatalogEraseEnd
  split
  · refine ⟨_, rfl, .andThen (.ended ‹_› ok g ?_) (State.settlePort_side _)⟩
    split
    · exact State.catalogErased_side _ _
    · exact State.writeEnd_side _ _
  · exact keepsContents_refl

theorem execEraseEnd_contents : KeepsContents (execEraseEnd ok g s) s := by
  unfold execEraseEnd
  split
  · refine ⟨_, rfl, .andThen (.ended ‹_› ok g ?_) (State.settlePort_side _)⟩
    split
    · exact (State.setExtent_side _ _ _).trans (State.pump_side _)
    · exact (State.countEraseFailure_side _).trans ((State.extentBad_side _ _ _).trans (State.submit_side _ _))
  · exact keepsContents_refl

theorem execFormatEraseEnd_contents : KeepsContents (execFormatEraseEnd ok g s) s := by
  unfold execFormatEraseEnd
  split
  · refine ⟨_, rfl, .andThen (.ended ‹_› ok g ?_) ((State.formatErasedOne_side _ _ _).trans (State.settlePort_side _))⟩
    split
    · exact .refl _
    · exact State.countEraseFailure_side _
  · exact keepsContents_refl

theorem execMountCatalogFetchEnd_contents : KeepsContents (execMountCatalogFetchEnd answer g s) s := by
  unfold execMountCatalogFetchEnd
  split
  · exact ⟨_, rfl, .side ((s.freePort_side g).trans
      ((State.catalogFetched_side _ _ _ _ _ _).trans (State.settlePort_side _)))⟩
  · exact keepsContents_refl

theorem execMountSpareFetchEnd_contents : KeepsContents (execMountSpareFetchEnd answer g s) s := by
  unfold execMountSpareFetchEnd
  split
  · exact ⟨_, rfl, .side ((s.freePort_side g).trans ((State.scanned_side _ _ _).trans (State.settlePort_side _)))⟩
  · exact keepsContents_refl

theorem execRecoveryFetchEnd_contents : KeepsContents (execRecoveryFetchEnd answer g s) s := by
  unfold execRecoveryFetchEnd
  split
  · exact ⟨_, rfl, .side ((s.freePort_side g).trans
      ((State.recoveryFetched_side _ _ _ _).trans (State.settlePort_side _)))⟩
  · exact keepsContents_refl

theorem execReadoutFetchEnd_contents : KeepsContents (execReadoutFetchEnd answer g s) s := by
  unfold execReadoutFetchEnd
  split
  · refine ⟨_, rfl, .side ((s.freePort_side g).trans (.trans ?_ (State.settlePort_side _)))⟩
    split
    · exact State.readoutFetched_side _ _
    · exact .refl _
  · exact keepsContents_refl

end Ends

/-! ## Requests -/

/-- A request's block leaves the module contents. -/
def BlockKeepsContents (block : Entry → State → State) : Prop :=
  ∀ (e : Entry) (s : State), (block e s).flash = s.flash

section Requests

variable {s u : State} {e : Entry} {st : Status} {ws : List Word}

/-- A request answered at its service, in a state whose contents are as they were. -/
theorem State.complete_flash {a : Nat} (h : u.flash = s.flash) : (u.complete a st ws).flash = s.flash :=
  (u.complete_side a st ws).flash.trans h

theorem State.refuse_flash : (s.refuse e st).flash = s.flash := State.complete_flash rfl

end Requests

theorem serveGenLoad_contents : BlockKeepsContents serveGenLoad := by
  intro e s; unfold serveGenLoad; dsimp only; split <;> exact State.complete_flash rfl
theorem serveSourceClear_contents : BlockKeepsContents serveSourceClear := by
  intro e s; unfold serveSourceClear; dsimp only; split <;> exact State.complete_flash rfl
theorem serveSourceConfig_contents : BlockKeepsContents serveSourceConfig := by
  intro e s; unfold serveSourceConfig; dsimp only; split <;> exact State.complete_flash rfl
theorem serveSourceRead_contents : BlockKeepsContents serveSourceRead := by
  intro e s; unfold serveSourceRead; dsimp only; split <;> exact State.complete_flash rfl
theorem serveTrackSet_contents : BlockKeepsContents serveTrackSet := by
  intro e s; unfold serveTrackSet; dsimp only; repeat' split
  all_goals exact State.complete_flash rfl
theorem serveTrimCorrect_contents : BlockKeepsContents serveTrimCorrect := by
  intro e s; unfold serveTrimCorrect; dsimp only; split <;> exact State.complete_flash rfl
theorem serveTrackRead_contents : BlockKeepsContents serveTrackRead := by
  intro e s; unfold serveTrackRead; dsimp only; repeat' split
  all_goals exact State.complete_flash rfl
theorem serveMixSet_contents : BlockKeepsContents serveMixSet := by
  intro e s; unfold serveMixSet; dsimp only; split <;> exact State.complete_flash rfl
theorem serveMixTake_contents : BlockKeepsContents serveMixTake := fun _ _ => State.complete_flash rfl
theorem serveMixRead_contents : BlockKeepsContents serveMixRead := by
  intro e s; unfold serveMixRead; dsimp only; split
  · exact State.refuse_flash
  · refine State.complete_flash ?_
    split <;> rfl
theorem serveStreamSet_contents : BlockKeepsContents serveStreamSet := by
  intro e s; unfold serveStreamSet; repeat' split
  all_goals exact State.complete_flash rfl
theorem serveStreamRead_contents : BlockKeepsContents serveStreamRead := fun _ _ => State.complete_flash rfl
theorem serveMeterConfig_contents : BlockKeepsContents serveMeterConfig := by
  intro e s; unfold serveMeterConfig; dsimp only; repeat' split
  all_goals exact State.complete_flash rfl
theorem serveMeterRead_contents : BlockKeepsContents serveMeterRead := by
  intro e s; unfold serveMeterRead; dsimp only; split
  · exact State.refuse_flash
  · refine State.complete_flash ?_
    split <;> rfl
theorem serveTakeList_contents : BlockKeepsContents serveTakeList := by
  intro e s; unfold serveTakeList; repeat' split
  all_goals exact State.complete_flash rfl
theorem serveStoreConfig_contents : BlockKeepsContents serveStoreConfig := by
  intro e s; unfold serveStoreConfig; repeat' split
  all_goals exact State.complete_flash rfl
theorem serveStoreStatus_contents : BlockKeepsContents serveStoreStatus := by
  intro e s; unfold serveStoreStatus; dsimp only; split
  · exact State.refuse_flash
  · refine State.complete_flash ?_
    split <;> rfl
theorem serveQuery_contents : BlockKeepsContents serveQuery := by
  intro e s; unfold serveQuery; dsimp only; repeat' split
  all_goals exact State.complete_flash rfl
theorem serveReserve_contents : BlockKeepsContents serveReserve := by
  intro e s; unfold serveReserve; repeat' split
  all_goals exact State.complete_flash rfl
theorem serveRelease_contents : BlockKeepsContents serveRelease := by
  intro e s; unfold serveRelease; repeat' split
  all_goals exact State.complete_flash rfl
theorem serveUnitStatus_contents : BlockKeepsContents serveUnitStatus := by
  intro e s; unfold serveUnitStatus; dsimp only; split
  · exact State.refuse_flash
  · refine State.complete_flash ?_
    split <;> rfl
theorem serveUnitReset_contents : BlockKeepsContents serveUnitReset := by
  intro e s; unfold serveUnitReset; split <;> exact State.complete_flash rfl

theorem serveTakeOpen_contents : BlockKeepsContents serveTakeOpen := by
  intro e s; unfold serveTakeOpen
  split
  · exact State.refuse_flash
  split
  · exact State.refuse_flash
  split
  · exact State.refuse_flash
  split
  · exact State.refuse_flash
  · exact ((State.askCatalog_side _ _).trans (State.settlePort_side _)).flash

theorem serveTakePause_contents : BlockKeepsContents serveTakePause := by
  intro e s; unfold serveTakePause
  split
  · split
    · exact State.refuse_flash
    split
    · exact State.refuse_flash
    · rfl
  · exact State.refuse_flash

theorem serveTakeResume_contents : BlockKeepsContents serveTakeResume := by
  intro e s; unfold serveTakeResume
  split
  · split
    · exact State.refuse_flash
    · rfl
  · exact State.refuse_flash

theorem serveTakeClose_contents : BlockKeepsContents serveTakeClose := by
  intro e s; unfold serveTakeClose
  split
  · split
    · exact State.refuse_flash
    · rfl
  · exact State.refuse_flash

theorem serveProtect_contents (v : Bool) : BlockKeepsContents (serveProtect v) := by
  intro e s; unfold serveProtect
  split
  · exact State.refuse_flash
  split
  · exact State.refuse_flash
  split
  · exact State.refuse_flash
  split
  · exact State.complete_flash rfl
  · exact (State.asksCatalog_side ..).flash

theorem serveTakeDelete_contents : BlockKeepsContents serveTakeDelete := by
  intro e s; unfold serveTakeDelete
  split
  · exact State.refuse_flash
  split
  · exact State.refuse_flash
  split
  · exact State.refuse_flash
  split
  · exact State.refuse_flash
  · exact (State.asksCatalog_side ..).flash

theorem serveStoreFormat_contents : BlockKeepsContents serveStoreFormat := by
  intro e s; unfold serveStoreFormat
  split
  · exact State.refuse_flash
  split
  · exact State.refuse_flash
  split
  · exact State.refuse_flash
  · exact ((State.formatFrom_side _ _ _ _).trans (State.settlePort_side _)).flash

theorem serveReadTake_contents : BlockKeepsContents serveReadTake := by
  intro e s; unfold serveReadTake
  split
  · exact State.refuse_flash
  split
  · exact State.refuse_flash
  split
  · exact State.refuse_flash
  · exact ((State.pageStepAndOffer_side _).trans (State.settlePort_side _)).flash

theorem serveReadStop_contents : BlockKeepsContents serveReadStop := by
  intro e s; unfold serveReadStop
  split
  · exact State.complete_flash (s.readoutEnd_side _).flash
  · exact State.refuse_flash

/-- A service hands the chosen request to its block, or nothing happens (R186, R187). -/
theorem State.serve_contents {block : Entry → State → State} (c : RequestCode) (hb : BlockKeepsContents block)
    (s : State) : KeepsContents (.next (s.serve c block)) s := by
  refine ⟨_, rfl, .inl ?_⟩
  rcases s.serve_cases c block with hs | ⟨e, -, -, hs⟩
  · rw [hs]
  · rw [hs]
    exact hb e _

/-! ## Every command -/

/-- An operation in flight at POWER_ON is cut (R103). -/
theorem State.powerCut_contents (s : State) : ContentsAfter s s.powerCut := by
  unfold State.powerCut
  split
  · exact .inr ⟨_, ‹_›, s, false, rfl, rfl⟩
  · exact .inl rfl

theorem exec_contents (c : Instr) (s : State) : KeepsContents (exec c s) s := by
  cases c with
  | powerOn => exact ⟨_, rfl, s.powerCut_contents⟩
  | rowEvent => exact ⟨_, rfl, s.row_contents⟩
  | sourceLapse n => exact keepsContents_ite _ s.row_contents
  | sourceAcquired n => exact keepsContents_ite _ s.row_contents
  | generatorLevelStep => exact keepsContents_ite _ s.row_contents
  | holdCountdownExpiry => exact ⟨_, rfl, .side s.takeHoldExpiry_side⟩
  | mixBoundary => exact keepsContents_ite _ (.inl rfl)
  | archiveBoundary => exact keepsContents_ite _ (.inl s.archiveBoundary_contentsStay.flash)
  | indexExhaustion => exact keepsContents_ite _ (.inl s.archiveBoundary_contentsStay.flash)
  | windowEnd => exact keepsContents_ite _ (.inl rfl)
  | stageFrameComplete w => exact execStageFrameComplete_contents s w
  | throughReturnFrameComplete w => exact execThroughReturnFrameComplete_contents s w
  | programReturnFrameComplete w => exact execProgramReturnFrameComplete_contents s w
  | strayWord d w => exact execStrayWord_contents s d w
  | framingError d w => exact execFramingError_contents s d w
  | frameAbandoned d => exact keepsContents_setLink _
  | throughFrameEnd => exact execThroughFrameEnd_contents s
  | stageReturnFrameEnd => exact execStageReturnFrameEnd_contents s
  | programForwardFrameEnd => exact execProgramForwardFrameEnd_contents s
  | stageLinkDown => exact execStageLinkDown_contents s
  | programLinkDown => exact execProgramLinkDown_contents s
  | throughPortDown => exact keepsContents_setLink _
  | linkUp k => exact ⟨_, rfl, .inl rfl⟩
  | trackSet => exact State.serve_contents _ serveTrackSet_contents s
  | trackRead => exact State.serve_contents _ serveTrackRead_contents s
  | trimCorrect => exact State.serve_contents _ serveTrimCorrect_contents s
  | sourceConfig => exact State.serve_contents _ serveSourceConfig_contents s
  | sourceClear => exact State.serve_contents _ serveSourceClear_contents s
  | sourceRead => exact State.serve_contents _ serveSourceRead_contents s
  | genLoad => exact State.serve_contents _ serveGenLoad_contents s
  | mixSet => exact State.serve_contents _ serveMixSet_contents s
  | mixTake => exact State.serve_contents _ serveMixTake_contents s
  | mixRead => exact State.serve_contents _ serveMixRead_contents s
  | streamSet => exact State.serve_contents _ serveStreamSet_contents s
  | streamRead => exact State.serve_contents _ serveStreamRead_contents s
  | meterConfig => exact State.serve_contents _ serveMeterConfig_contents s
  | meterRead => exact State.serve_contents _ serveMeterRead_contents s
  | takeOpen => exact State.serve_contents _ serveTakeOpen_contents s
  | takePause => exact State.serve_contents _ serveTakePause_contents s
  | takeResume => exact State.serve_contents _ serveTakeResume_contents s
  | takeClose => exact State.serve_contents _ serveTakeClose_contents s
  | takeProtect => exact State.serve_contents _ (serveProtect_contents true) s
  | takeUnprotect => exact State.serve_contents _ (serveProtect_contents false) s
  | takeDelete => exact State.serve_contents _ serveTakeDelete_contents s
  | takeList => exact State.serve_contents _ serveTakeList_contents s
  | storeFormat => exact State.serve_contents _ serveStoreFormat_contents s
  | storeConfig => exact State.serve_contents _ serveStoreConfig_contents s
  | storeStatus => exact State.serve_contents _ serveStoreStatus_contents s
  | readTake => exact State.serve_contents _ serveReadTake_contents s
  | readStop => exact State.serve_contents _ serveReadStop_contents s
  | unitStatus => exact State.serve_contents _ serveUnitStatus_contents s
  | query => exact State.serve_contents _ serveQuery_contents s
  | reserve => exact State.serve_contents _ serveReserve_contents s
  | release => exact State.serve_contents _ serveRelease_contents s
  | unitReset => exact State.serve_contents _ serveUnitReset_contents s
  | archiveProgramEnd ok g => exact execArchiveProgramEnd_contents ok g s
  | verifyFetchEnd a g => exact execVerifyFetchEnd_contents g a s
  | badMarkWriteEnd ok g => exact execBadMarkWriteEnd_contents ok g s
  | catalogProgramEnd ok g => exact execCatalogProgramEnd_contents ok g s
  | catalogVerifyEnd a g => exact execCatalogVerifyEnd_contents g a s
  | catalogEraseEnd ok g => exact execCatalogEraseEnd_contents ok g s
  | eraseEnd ok g => exact execEraseEnd_contents ok g s
  | formatEraseEnd ok g => exact execFormatEraseEnd_contents ok g s
  | mountCatalogFetchEnd a g => exact execMountCatalogFetchEnd_contents g a s
  | mountSpareFetchEnd a g => exact execMountSpareFetchEnd_contents g a s
  | recoveryFetchEnd a g => exact execRecoveryFetchEnd_contents g a s
  | timeLimitExpiry => exact ⟨_, rfl, (ContentsStay.refl s).takeExpiry⟩
  | readoutFetchEnd a g => exact execReadoutFetchEnd_contents g a s
  | frameHeaderTaken d w => exact execFrameHeaderTaken_contents s d w
  | bodyWordTaken d w => exact execBodyWordTaken_contents s d w

/-- Settles O9: what an operation's end leaves of canonical contents is canonical. -/
theorem moduleContentsStayCanonical : Obligations.ModuleContentsStayCanonical := by
  intro s t hs ht
  unfold step at ht
  split at ht
  · cases ht; exact hs
  · rename_i c cs _
    obtain ⟨u, hu, hafter⟩ := exec_contents c { s with pending := cs }
    rw [hu] at ht
    cases ht; exact hafter.wf hs

/-- Settles O12: a page that the operation in flight does not write is not among those its end changes. -/
theorem pagesChangeOnlyWhereWritten : Obligations.PagesChangeOnlyWhereWritten := by
  intro c s t k _ ht hk
  obtain ⟨u, hu, hafter⟩ := exec_contents c s
  obtain rfl : u = t := Host.Outcome.next.inj (hu.symm.trans ht)
  exact hafter.read_other hk

end Sys2Proof.Machine
end

section
/-!
What follows the end of an operation whose module has become FAULT leaves the module ports, the count of expiries, and a
store that is FAULT for want of a module that answers (R98, R119, R121).
-/

namespace Sys2Proof.Machine

/-- Module ports and expiries of `t` are those of `s`, and a store that is FAULT with no module answering stays so. -/
structure FaultStays (s t : State) : Prop where
  modules : t.store.modules = s.store.modules
  expiries : t.store.expiries = s.store.expiries
  state : s.store.state = .fault → (∀ x ∈ s.store.modules, x ≠ .answering) → t.store.state = .fault

namespace FaultStays

variable {s t u : State}

theorem of_eq (hm : t.store.modules = s.store.modules) (he : t.store.expiries = s.store.expiries)
    (hs : t.store.state = s.store.state) : FaultStays s t := ⟨hm, he, fun h _ => hs.trans h⟩

theorem refl (s : State) : FaultStays s s := of_eq rfl rfl rfl

theorem trans (h : FaultStays s t) (k : FaultStays t u) : FaultStays s u :=
  ⟨k.modules.trans h.modules, k.expiries.trans h.expiries,
    fun hf hn => k.state (h.state hf hn) (h.modules ▸ hn)⟩

/-- What stays after a change of neither ports, expiries nor store state. -/
theorem after (k : FaultStays t u) (hm : t.store.modules = s.store.modules)
    (he : t.store.expiries = s.store.expiries) (hs : t.store.state = s.store.state) : FaultStays s u :=
  (of_eq hm he hs).trans k

theorem port (h : PortSide s t) : FaultStays s t := by
  rw [h.eq]
  exact of_eq rfl rfl rfl

theorem engine (h : EngineSide s t) : FaultStays s t := by
  obtain ⟨_, _, _, _, _, _, rfl⟩ := h
  exact of_eq rfl rfl rfl

theorem staging (h : StagingSide s t) : FaultStays s t := by
  obtain ⟨_, _, _, _, _, _, _, rfl⟩ := h
  exact of_eq rfl rfl rfl

/-- A fold of operations, each of which leaves the FAULT. -/
theorem foldl {α : Type} (f : State → α → State) (hf : ∀ s a, FaultStays s (f s a)) (xs : List α) :
    ∀ s, FaultStays s (xs.foldl f s) := by
  induction xs with
  | nil => exact refl
  | cons a as ih => exact fun s => (hf s a).trans (ih _)

end FaultStays

variable (s : State)

/-! ## The catalog -/

theorem State.completeStoreOp_faultStays (st : Status) (ws : List Word) : FaultStays s (s.completeStoreOp st ws) := by
  rw [State.completeStoreOp_eq]
  exact .of_eq rfl rfl rfl

/-- The failure of a catalog write makes no store MOUNTED (R84, R86, R87, R90, R93, R94, R124). -/
theorem State.storeOpFailed_faultStays : FaultStays s (s.storeOpWritten false) := by
  unfold State.storeOpWritten
  split
  · exact .refl s
  split
  · exact .after (State.completeStoreOp_faultStays _ _ _) rfl rfl rfl
  · exact s.completeStoreOp_faultStays _ _
  · exact s.completeStoreOp_faultStays _ _
  · exact s.completeStoreOp_faultStays _ _
  · exact .after (State.completeStoreOp_faultStays _ _ _) rfl rfl rfl
  · exact .after (State.completeStoreOp_faultStays _ _ _) rfl rfl rfl
  · exact .after (State.completeStoreOp_faultStays _ _ _) rfl rfl rfl

/-- A mount that ends with no module answering leaves the store FAULT (R121). -/
theorem State.mountEnd_faultStays : FaultStays s s.mountEnd := by
  refine ⟨rfl, rfl, fun _ hnone => if_pos ?_⟩
  have hany : s.store.anyAnswers = false := List.any_eq_false.mpr fun x hx => by simpa using hnone x hx
  simp [hany]

theorem State.waiterTold_faultStays (w : Waiter) : FaultStays s (s.waiterTold false w) := by
  cases w with
  | storeOperation => exact s.storeOpFailed_faultStays
  | exhaustionClose => exact .refl s
  | mount => exact s.mountEnd_faultStays

theorem State.writeOutcome_faultStays : FaultStays s (s.writeOutcome false) := by
  unfold State.writeOutcome
  split
  · exact .refl s
  · exact .after (FaultStays.foldl _ State.waiterTold_faultStays _ _) rfl rfl rfl

theorem State.catalogAttempt_faultStays (w : CatalogWrite) : FaultStays s (s.catalogAttempt w).1 := by
  unfold State.catalogAttempt
  dsimp only
  split
  · exact .of_eq rfl rfl rfl
  split
  · exact .of_eq rfl rfl rfl
  split <;> exact .of_eq rfl rfl rfl

theorem State.writeStart_faultStays (ws : List Waiter) : FaultStays s (s.writeStart ws) := by
  have hattempt := s.catalogAttempt_faultStays ⟨s.takes.image, 0, ws⟩
  unfold State.writeStart
  dsimp only
  split
  · exact hattempt
  · exact hattempt.trans (State.writeOutcome_faultStays _)

theorem State.writeEnd_faultStays : FaultStays s (s.writeEnd false) := by
  rw [State.writeEnd_eq]
  refine s.writeOutcome_faultStays.trans ?_
  unfold State.startWaiting
  split
  · exact .refl _
  · exact .after (State.writeStart_faultStays _ _) rfl rfl rfl

theorem State.askCatalog_faultStays (w : Waiter) : FaultStays s (s.askCatalog w) := by
  unfold State.askCatalog
  split
  · exact s.writeStart_faultStays _
  · exact .of_eq rfl rfl rfl

theorem State.attemptFailed_faultStays : FaultStays s s.attemptFailed := by
  unfold State.attemptFailed
  split
  · exact .refl s
  split
  · exact s.writeEnd_faultStays
  · rename_i w _ _
    have hattempt := s.catalogAttempt_faultStays { w with failed := w.failed + 1 }
    dsimp only
    split
    · exact hattempt
    · exact hattempt.trans (State.writeEnd_faultStays _)

/-! ## Staging -/

theorem State.pump_faultStays : FaultStays s s.pump := by
  have hdiscard : ∀ (x : State) n ws, FaultStays x (x.discarded n ws) := fun x n ws => by
    obtain ⟨_, _, _, _, _, h⟩ := x.discarded_frame n ws
    rw [h]
    exact .of_eq rfl rfl rfl
  refine (FaultStays.staging s.twoRounds_roundSide.side).trans ?_
  show FaultStays s.twoRounds s.twoRounds.drain
  rcases s.twoRounds.drain_cases with hdrain | ⟨n, ws, hdrain | hdrain⟩ <;> rw [hdrain]
  · exact .refl _
  · exact hdiscard _ n ws
  · rw [State.drainComplete_eq]
    exact (hdiscard _ n ws).trans (.after ((FaultStays.engine (State.readoutClosedNotice_engineSide _ n)).trans
      (State.askCatalog_faultStays _ _)) rfl rfl rfl)

theorem State.pageWaits_faultStays (now : StagingState) : FaultStays s (s.pageMoves now .waiting true).pump := by
  obtain ⟨_, _, h⟩ := s.pageMoves_frame now .waiting true
  rw [h]
  exact .after (State.pump_faultStays _) rfl rfl rfl

/-! ## Mount and format -/

theorem State.recoverGo_faultStays (n : Nat) : ∀ (s : State) r, FaultStays s (s.recoverGo n r) := by
  induction n with
  | zero => exact fun s _ => .refl s
  | succ n ih =>
    intro s r
    have hover : ∀ k f, FaultStays s ((s.mapTake k f).recoverGo n none) := fun k f => .after (ih _ _) rfl rfl rfl
    cases r with
    | none =>
      rw [State.recoverGo]
      split
      · exact .after (State.askCatalog_faultStays _ _) rfl rfl rfl
      split
      · exact hover _ _
      · exact ih _ _
    | some r =>
      obtain ⟨r, blocked⟩ := r
      rw [State.recoverGo]
      split
      · exact .of_eq rfl rfl rfl
      split
      · split
        · exact ih _ _
        · exact hover _ _
      split
      · exact .of_eq rfl rfl rfl
      · exact hover _ _

theorem State.recoveryFetched_faultStays (r : Recovery) (a : PageAddress) (got : Option PageImage) :
    FaultStays s (s.recoveryFetched r a got) := by
  have hover : ∀ k f, FaultStays s ((s.mapTake k f).recoverGo s.recoverFuel none) := fun k f =>
    .after (State.recoverGo_faultStays _ _ _) rfl rfl rfl
  unfold State.recoveryFetched
  dsimp only
  split <;> split
  · exact hover _ _
  · exact State.recoverGo_faultStays _ _ _
  · exact hover _ _
  · exact State.recoverGo_faultStays _ _ _

theorem State.scanDone_faultStays : FaultStays s s.scanDone := by
  unfold State.scanDone
  dsimp only
  split
  · exact .after (State.recoverGo_faultStays _ _ _) rfl rfl rfl
  · exact .after (State.mountEnd_faultStays _) rfl rfl rfl

theorem State.scanFrom_faultStays (n : Nat) : ∀ (s : State) e, FaultStays s (s.scanFrom n e) := by
  induction n with
  | zero => exact fun s _ => .refl s
  | succ n ih =>
    intro s e
    rw [State.scanFrom]
    split
    · exact s.scanDone_faultStays
    split
    · exact .of_eq rfl rfl rfl
    · exact .after (ih _ _) rfl rfl rfl
    · exact ih _ _

theorem State.catalogFrom_faultStays (i : Nat) (best : Option FoundCatalog) (u v : Nat) :
    FaultStays s (s.catalogFrom i best u v) := by
  have hload : ∀ b, FaultStays s (s.loadCatalog b u v) := fun b => by
    unfold State.loadCatalog
    split <;> exact .of_eq rfl rfl rfl
  unfold State.catalogFrom
  split
  · exact .of_eq rfl rfl rfl
  · unfold State.catalogDone
    exact (hload _).trans (.after (State.scanFrom_faultStays _ _ _) rfl rfl rfl)

theorem State.mountFailed_faultStays (e : Nat) : FaultStays s (s.mountFailed e) := by
  unfold State.mountFailed
  split
  · exact s.catalogFrom_faultStays _ _ _ _
  · exact State.scanFrom_faultStays _ s _
  · exact s.recoveryFetched_faultStays _ _ _
  · exact .refl s
  · exact .refl s

theorem State.formatFrom_faultStays (f : Format) (n : Nat) : ∀ (s : State) e, FaultStays s (s.formatFrom f n e) := by
  have herased : ∀ x : State, FaultStays x (x.formatErased f) := fun x => by
    unfold State.formatErased
    dsimp only
    split
    · exact .after (State.askCatalog_faultStays _ _) rfl rfl rfl
    · exact .after (State.completeStoreOp_faultStays _ _ _) rfl rfl rfl
  induction n with
  | zero => exact fun s _ => .refl s
  | succ n ih =>
    intro s e
    rw [State.formatFrom]
    split
    · exact herased s
    split
    · obtain ⟨_, _, hsubmit, -⟩ := s.formatSubmit_eq e
      rw [hsubmit]
      exact .of_eq rfl rfl rfl
    · exact ih _ _
    · exact ih _ _

/-! ## Lost operations -/

theorem State.operationLost_faultStays (expired : Bool) (op : PortOp) :
    FaultStays s (State.operationLost expired s op) := by
  cases op with
  | catalogProgram a p => exact .after s.countProgramFailure.attemptFailed_faultStays rfl rfl rfl
  | catalogVerify a p => exact .after s.countMismatch.attemptFailed_faultStays rfl rfl rfl
  | catalogErase e => exact s.writeEnd_faultStays
  | mountFetch a => exact s.mountFailed_faultStays _
  | mountSpare e => exact s.mountFailed_faultStays _
  | recoveryFetch a => exact s.mountFailed_faultStays _
  | archiveProgram a p =>
    cases expired with
    | false => exact s.pageWaits_faultStays _
    | true =>
      have hpage := (s.countProgramFailure.raiseWritePage a.extent).pageWaits_faultStays .programming
      rw [State.raiseWritePage_eq] at hpage
      show FaultStays s ((s.countProgramFailure.raiseWritePage a.extent).pageMoves .programming .waiting true).pump
      rw [State.raiseWritePage_eq]
      exact hpage.after rfl rfl rfl
  | archiveVerify a p => exact .after (s.countMismatch.pageWaits_faultStays _) rfl rfl rfl
  | archiveBadMark e => exact .refl s
  | readoutFetch a wanted =>
    cases wanted with
    | false => exact .refl s
    | true => exact .engine (s.readoutEnd_engineSide _)
  | eraserErase e => exact .of_eq rfl rfl rfl
  | eraserBadMark e => exact .refl s
  | formatErase e =>
    unfold State.operationLost
    dsimp only
    split
    · exact .after (State.formatFrom_faultStays _ _ s.countEraseFailure _) rfl rfl rfl
    · exact .of_eq rfl rfl rfl

end Sys2Proof.Machine
end

section
/-!
The expiry of the time limit (R103, R111, R113, R114, R119, R126, R133, R141): the module and its extents that are lost,
then what each operation lost with them leaves.
-/

namespace Sys2Proof.Machine

/-! ## The module is lost -/

/-- The store with a module lost to an expiry (R105, R119). -/
def StoreController.lost (c : StoreController) (m : Nat) : StoreController :=
  { c with
    modules := c.modules.set m .fault
    table := c.table.map fun y =>
      if y.1 / 32768 = m then (y.1, ({ state := .fault, owner := y.2.owner } : Extent)) else y
    state := if c.state = .mounting || (c.modules.set m .fault).any (· = .answering) then c.state else .fault
    expiries := countUp c.expiries 1 }

section Lost

variable {c : StoreController} {m e : Nat}

theorem StoreController.lost_answers (h : moduleOf e = m) : (c.lost m).answers e = false := by
  refine decide_eq_false fun hanswers => ?_
  have hget : (c.modules.set m .fault).getD m .notFitted = .answering := h ▸ hanswers
  by_cases hm : m < c.modules.length <;> simp [List.getD_eq_getElem?_getD, hm] at hget

theorem StoreController.lost_state (hs : c.state ≠ .mounting) (hnone : ∀ x ∈ c.modules.set m .fault, x ≠ .answering) :
    (c.lost m).state = .fault := by
  refine if_neg ?_
  simp only [Bool.or_eq_true, decide_eq_true_eq, List.any_eq_true, not_or, not_exists, not_and]
  exact ⟨hs, hnone⟩

theorem StoreController.lost_formed (h : c.state ≠ .unmounted ∧ c.state ≠ .mounting) :
    (c.lost m).state ≠ .unmounted ∧ (c.lost m).state ≠ .mounting := by
  unfold StoreController.lost
  dsimp only
  split
  · exact h
  · exact ⟨nofun, nofun⟩

/-- No extent becomes FREE with the loss of a module (R105, R119). -/
theorem StoreController.lost_freeList (h : c.state ≠ .unmounted ∧ c.state ≠ .mounting) (hnil : c.freeList = []) :
    (c.lost m).freeList = [] := by
  rw [StoreController.freeList_eq h, List.map_eq_nil_iff, List.filter_eq_nil_iff] at hnil
  rw [StoreController.freeList_eq (StoreController.lost_formed h), List.map_eq_nil_iff, List.filter_eq_nil_iff]
  intro y hy
  obtain ⟨z, hz, rfl⟩ := List.mem_map.mp hy
  split
  · simp
  · exact hnil z hz

end Lost

/-- `x` is `s` with the module `m` lost; contents and port are as the expiry has left them. -/
def ModuleLost (s : State) (m : Nat) (x : State) : Prop :=
  ∃ freeCount flash inFlight waiting, x = { s with
    freeCount := freeCount, flash := flash, store := { s.store.lost m with inFlight := inFlight, waiting := waiting } }

section Expiry

variable {s x : State} {op : PortOp} {n m : Nat}

/-- The operation is cut, its module is lost, and the port is freed (R103, R118, R119). -/
theorem State.expire_eq (s : State) (op : PortOp) (g : Bool) : ∃ x, ModuleLost s (moduleOf op.extent) x
    ∧ s.expire op g = (s.store.waiting.filter fun o => moduleOf o.extent = moduleOf op.extent).foldl
      (State.operationLost false) (State.operationLost true x op) := by
  have hcut := (s.operationCut_side op).eq
  refine ⟨_, ?_, rfl⟩
  obtain ⟨_, _, hfreed⟩ := State.freePort_portSide (State.moduleFault { s.operationCut op with
    store := { (s.operationCut op).store with
      waiting := (s.operationCut op).store.waiting.filter fun o => moduleOf o.extent ≠ moduleOf op.extent
      expiries := countUp (s.operationCut op).store.expiries 1 } } (moduleOf op.extent)) g
  rw [hfreed, hcut]
  exact ⟨_, _, _, _, rfl⟩

theorem exec_timeLimitExpiry (h : s.store.inFlight = some ⟨op, n⟩) (hn : 4800 ≤ n) :
    ∃ x, ModuleLost s (moduleOf op.extent) x ∧ exec .timeLimitExpiry s
      = .next ((s.store.waiting.filter fun o => moduleOf o.extent = moduleOf op.extent).foldl
        (State.operationLost false) (State.operationLost true x op)).settlePort := by
  have hexpired : s.expired = some op := by
    simp only [State.expired, h]
    exact if_pos hn
  obtain ⟨x, ⟨_, _, _, _, hx⟩, hexpire⟩ := State.expire_eq { s with freeCount := s.freeCount + 1 } op
    (Config.freeChoice s.freeCount)
  refine ⟨x, ⟨_, _, _, _, hx⟩, congrArg Host.Outcome.next ?_⟩
  simp only [State.takeExpiry, hexpired, hexpire]

/-! ## What every expiry leaves -/

theorem ModuleLost.leaves (h : ModuleLost s m x) (gone : List PortOp) :
    let t := (gone.foldl (State.operationLost false) (State.operationLost true x op)).settlePort
    t.store.modules = s.store.modules.set m .fault ∧ t.store.expiries = countUp s.store.expiries 1
      ∧ SamplePathKept s t
      ∧ (s.store.state ≠ .mounting → (∀ x ∈ s.store.modules.set m .fault, x ≠ .answering) →
        t.store.state = .fault) := by
  intro t
  have hfault : FaultStays x t := (x.operationLost_faultStays true op).trans
    ((FaultStays.foldl _ (fun s => s.operationLost_faultStays false) gone _).trans
      (.port (State.settlePort_portSide _)))
  have hside : StoreSide x t := (x.operationLost_side true op).trans
    ((StoreSide.foldl _ (State.operationLost_side false) gone _).trans (State.settlePort_side _))
  have hkept := hside.samplePathKept
  clear_value t
  obtain ⟨_, _, _, _, rfl⟩ := h
  exact ⟨hfault.modules, hfault.expiries, hkept,
    fun hs hnone => hfault.state (StoreController.lost_state hs hnone) hnone⟩

/-! ## An erase is lost -/

theorem ModuleLost.erase (h : ModuleLost s m x) (e : Nat) :
    let t := (State.operationLost true x (.eraserErase e)).settlePort
    t = { s with freeCount := t.freeCount, flash := t.flash, store := t.store }
      ∧ t.store.table = (s.store.lost m).table ∧ t.store.eraseFailures = countUp s.store.eraseFailures 1 := by
  intro t
  have hport : PortSide x.countEraseFailure t := State.settlePort_portSide _
  clear_value t
  obtain ⟨_, _, _, _, rfl⟩ := h
  obtain ⟨_, _, rfl⟩ := hport
  exact ⟨rfl, rfl, rfl⟩

/-! ## A program is lost -/

theorem State.liveTake_eq_find? (h : s.store.state ≠ .unmounted ∧ s.store.state ≠ .mounting) :
    s.liveTake = s.takes.records.find? (·.state.live) := by
  unfold State.liveTake
  split
  · exact absurd ‹_› h.1
  · exact absurd ‹_› h.2
  all_goals rfl

/-- The page of a lost program waits again, and the write page goes past the one that was cut (R111, R113). -/
theorem ModuleLost.pageBack {ws : WriteState} (h : ModuleLost s m x) (e : Nat) (hws : s.store.writeState = some ws)
    (hA : s.store.pageA.state = .programming) : ∃ freeCount flash inFlight waiting,
    (x.countProgramFailure.raiseWritePage e).pageMoves .programming .waiting true = { s with
      freeCount := freeCount, flash := flash
      store := { s.store.lost m with
        writeState := some (ws.ended .programming e)
        pageA := { s.store.pageA with state := .waiting, failedBefore := true }
        programFailures := countUp s.store.programFailures 1, inFlight := inFlight, waiting := waiting } } := by
  obtain ⟨n, f, i, w, rfl⟩ := h
  refine ⟨n, f, i, w, ?_⟩
  rw [State.pageMoves_eq (next := .waiting) nofun, State.raiseWritePage_eq]
  simp [State.countProgramFailure, StoreController.lost, hws, hA]

/-- With no FREE extent to go to, the take of the page is STALLED (R113, R114). -/
theorem ModuleLost.program {a : PageAddress} {k : TakeRecord} {ws : WriteState} (h : ModuleLost s (moduleOf a.extent) x)
    (hlive : s.liveTake = some k) (hopen : k.state = .opened) (hws : s.store.writeState = some ws)
    (hcurrent : ws.current = some a.extent) (hq : s.store.queue = []) (hA : s.store.pageA.state = .programming)
    (hB : s.store.pageB.state = .empty) (hfree : s.store.freeList = []) (p : PageImage) :
    let t := (State.operationLost true x (.archiveProgram a p)).settlePort
    t.store.table = (s.store.lost (moduleOf a.extent)).table ∧ t.store.stalled = true ∧ t.takes = s.takes
      ∧ t.store.programFailures = countUp s.store.programFailures 1
      ∧ t.store.pageA = { s.store.pageA with state := .waiting, failedBefore := true } := by
  intro t
  have hport : PortSide ((x.countProgramFailure.raiseWritePage a.extent).pageMoves .programming .waiting true).pump t :=
    State.settlePort_portSide _
  clear_value t
  obtain ⟨_, _, _, _, hy⟩ := h.pageBack a.extent hws hA
  generalize (x.countProgramFailure.raiseWritePage a.extent).pageMoves .programming .waiting true = y at hy hport
  have hformed := State.liveTake_formed hlive
  have hlive' : y.liveTake = some k := by
    rw [State.liveTake_eq_find? (by rw [hy]; exact StoreController.lost_formed hformed), hy, ← hlive,
      State.liveTake_eq_find? hformed]
  have hnone : y.store.currentTarget (ws.ended .programming a.extent) = none := by
    refine StoreController.currentTarget_none fun e _ he _ hanswers _ => ?_
    obtain rfl : a.extent = e := Option.some.inj (hcurrent.symm.trans ((ws.ended_fields _ _).1 ▸ he))
    have hlost : y.store.answers a.extent = false := by
      rw [hy]
      exact StoreController.lost_answers rfl
    exact absurd (hanswers.symm.trans hlost) nofun
  have hfree' : y.store.freeList = [] := by
    rw [hy]
    exact StoreController.lost_freeList hformed hfree
  rw [State.pump_rounds hlive' (by simp [hopen]), State.twoRounds_stalls hlive' (by rw [hy]) (by rw [hy]; exact hq)
    (by rw [hy]) (by rw [hy]; exact hB) hnone hfree', hy] at hport
  obtain ⟨_, _, rfl⟩ := hport
  exact ⟨rfl, rfl, rfl, rfl, rfl⟩

/-! ## A readout fetch is lost -/

/-- A readout whose fetch is lost or withdrawn ends with STORE_FAULT (R133, R141). -/
theorem ModuleLost.readout {t : State} {e : Entry} (h : ModuleLost s m x) (hq : s.requests.Lawful)
    (he : e ∈ s.requests.entries) (harr : e.arrival = s.readout.arrival)
    (hport : PortSide (x.readoutEnd .storeFault) t ∨ PortSide (x.countEraseFailure.readoutEnd .storeFault) t) :
    t.readout = {} ∧ t.store.table = (s.store.lost m).table ∧ Answered { s.link with readoutQ := [] } s.requests e
      .storeFault [natWord s.readout.pagesSent, natWord s.readout.pagesFailed] t := by
  obtain ⟨_, _, _, _, rfl⟩ := h
  rcases hport with hport | hport <;>
    obtain ⟨hreadout, _, htable, hanswered⟩ := State.readoutEnd_answers (by exact hq) (by exact he) (by exact harr) hport <;>
    exact ⟨hreadout, htable, hanswered⟩

end Expiry

/-- Settles O60: the operation is cut, its module is lost, and each operation lost with it leaves what its clause
says; what the port takes next changes none of that. -/
theorem timeLimitExpires : Obligations.TimeLimitExpires := by
  intro s op n hinFlight hn m modules lost
  obtain ⟨x, hx, hexec⟩ := exec_timeLimitExpiry hinFlight hn
  obtain ⟨hmodules, hexpiries, hkept, hstate⟩ := hx.leaves (op := op)
    (s.store.waiting.filter fun o => moduleOf o.extent = moduleOf op.extent)
  refine ⟨_, hexec, hmodules, hexpiries, hkept, hstate, fun hothers => ?_, fun a e hq he harr hfetch => ?_⟩
  · have hgone : (s.store.waiting.filter fun o => moduleOf o.extent = moduleOf op.extent) = [] :=
      List.filter_eq_nil_iff.mpr fun o ho hm => hothers o ho (of_decide_eq_true hm)
    rw [hgone]
    refine ⟨?_, ?_⟩
    · rintro e rfl
      exact hx.erase e
    · rintro a p k ws rfl hlive hopen hws hcurrent _ hqueue hA hB hfree
      exact hx.program hlive hopen hws hcurrent hqueue hA hB hfree p
  · refine hx.readout hq he harr ?_
    rcases hfetch with ⟨rfl, hwaiting⟩ | ⟨⟨e', rfl⟩, ha, hwaiting⟩ <;> rw [hwaiting]
    · exact .inl (State.settlePort_portSide _)
    · rw [List.filter_cons_of_pos (by exact decide_eq_true ha)]
      exact .inr (State.settlePort_portSide _)

end Sys2Proof.Machine
end
